-- ==== Sys2Proof/Word.lean ====
section
/-! DEFINITION. The byte of the host link; every quantity of the LC-420 is an integer (00_scope, Table 4). -/

namespace Sys2Proof

/-- One byte of the host link. -/
abbrev Byte := BitVec 8

end Sys2Proof
end

