-- ==== Sys2Proof/Syntax.lean ====
section
/-! DEFINITION. The commands of the LC-420: one constructor of Instr per row of spec/opcode_table.json. -/

namespace Sys2Proof

/-- The dual-channel safety inputs (10, Table 59), in the order of their codes. -/
inductive SafetyIn where
  | twoHandLeft | twoHandRight | lightCurtain | emergencyStop | rearGuard | bladeKey
  deriving DecidableEq, Repr

/-- The two channels of a safety input (R164). -/
inductive Channel where
  | a | b
  deriving DecidableEq, Repr

/-- The blocks an event of the Safety Monitor is handed to (R171, R173). -/
inductive Consumers where
  | runner | gauge | cutStation | supply | infeed | turner
  deriving DecidableEq, Repr

/-- A sample of the machine-side level inputs that rules read (00_scope, Table 6; log 1). -/
structure Lines where
  /-- clamp-up sensor made (CS) -/
  clampUp : Bool
  /-- knife-top sensor made (CS) -/
  knifeTop : Bool
  /-- height of the clamp above the table, 0.1 mm (CS, R116) -/
  clampHeight : Int
  /-- gauge axis encoder, 0.01 mm from an arbitrary zero (BG, R96) -/
  encoder : Int
  /-- reference switch made (BG, R99) -/
  refSwitch : Bool
  /-- rear overtravel switch made (BG, R99) -/
  rearOvertravel : Bool
  /-- PRESSURE_OK input (HS, R129) -/
  pressureOk : Bool
  /-- platform encoder, 0.1 mm above the floor stop (PL, R139) -/
  platform : Nat
  /-- top-of-pile sensor made (PL, R141) -/
  topOfPile : Bool
  /-- floor stop made (PL, R145) -/
  floorStop : Bool
  /-- side edge sensor: aligned (JG, R148) -/
  sideAligned : Bool
  /-- back edge sensor: aligned (JG, R148) -/
  backAligned : Bool
  /-- gripper closed feedback made (PT, R157) -/
  gripClosed : Bool
  /-- park sensor made (PT, R155) -/
  park : Bool
  deriving DecidableEq, Repr

/-- The readings of both channels of one input; true is the unsafe reading (R165, Table 61). -/
structure Readings where
  a : Bool
  b : Bool
  deriving DecidableEq, Repr

/-- The readings of all six inputs, as POWER_ON finds them (R164). -/
structure AllReadings where
  twoHandLeft : Readings
  twoHandRight : Readings
  lightCurtain : Readings
  emergencyStop : Readings
  rearGuard : Readings
  bladeKey : Readings
  deriving DecidableEq, Repr

/-- The commands. `m` is the sample of the machine-side lines at the command (log 1). A request row is a good
frame of that request's kind reaching the link whole (R4), with its tag and body. -/
inductive Instr where
  | powerOn (m : Lines) (pedal : Bool) (readings : AllReadings)
  | receiveByte (m : Lines) (byte : Byte) (gap : Nat) (framingError : Bool)
  | transmitEnd (m : Lines)
  | unknownRequest (m : Lines) (kind tag : Byte) (body : List Byte)
  | storeOpen (m : Lines) (tag : Byte) (body : List Byte)
  | step (m : Lines) (tag : Byte) (body : List Byte)
  | replaceStep (m : Lines) (tag : Byte) (body : List Byte)
  | deleteProgram (m : Lines) (tag : Byte) (body : List Byte)
  | readProgram (m : Lines) (tag : Byte) (body : List Byte)
  | listPrograms (m : Lines) (tag : Byte) (body : List Byte)
  | select (m : Lines) (tag : Byte) (body : List Byte)
  | run (m : Lines) (tag : Byte) (body : List Byte)
  | hold (m : Lines) (tag : Byte) (body : List Byte)
  | skip (m : Lines) (tag : Byte) (body : List Byte)
  | abort (m : Lines) (tag : Byte) (body : List Byte)
  /-- LOCATE: kind 15h with any body but one whose mode byte is 1 (that one is LOCATE_BY_LABEL). -/
  | locate (m : Lines) (tag : Byte) (body : List Byte)
  /-- LOCATE_BY_LABEL: kind 15h, mode byte 1, then program, index, label and follow-links (R88). -/
  | locateByLabel (m : Lines) (tag program index : Byte) (label : BitVec 16) (follow : Byte)
  | clearFault (m : Lines) (tag : Byte) (body : List Byte)
  | lineHalt (m : Lines) (tag : Byte) (body : List Byte)
  | confirm (m : Lines) (tag : Byte) (body : List Byte)
  | confirmButton (m : Lines)
  | gaugeMove (m : Lines) (tag : Byte) (body : List Byte)
  | gaugeReference (m : Lines) (tag : Byte) (body : List Byte)
  | reversalDwellExpiry (m : Lines)
  | segmentEnd (m : Lines)
  | referenceSwitchMade (m : Lines)
  /-- `lag` is the actual minus the commanded position (R108). -/
  | followingError (m : Lines) (lag : Int)
  | overtravel (m : Lines)
  | inPositionLost (m : Lines)
  | cutNow (m : Lines) (tag : Byte) (body : List Byte)
  | pedalPressed (m : Lines)
  | pedalReleased (m : Lines)
  | pedalDwellExpiry (m : Lines)
  | clampFullPressure (m : Lines)
  | clampTimeout (m : Lines)
  | knifeBdc (m : Lines)
  | knifeTimeout (m : Lines)
  | returnEnd (m : Lines)
  | recoverEnd (m : Lines)
  | bladeReset (m : Lines) (tag : Byte) (body : List Byte)
  | pumpOn (m : Lines) (tag : Byte) (body : List Byte)
  | pumpOff (m : Lines) (tag : Byte) (body : List Byte)
  | pumpRunUpExpiry (m : Lines)
  | pumpLockoutExpiry (m : Lines)
  | pumpIdleExpiry (m : Lines)
  /-- `faultFirst`: whether the PRESSURE_LOST fault reaches the Runner before the holder's own report (R135). -/
  | pressureLost (m : Lines) (faultFirst : Bool)
  | newPile (m : Lines) (tag : Byte) (body : List Byte)
  | liftLower (m : Lines) (tag : Byte) (body : List Byte)
  | floorStopMade (m : Lines)
  | topOfPileTrip (m : Lines)
  | platformAtTp (m : Lines)
  | raiseTimeout (m : Lines)
  /-- JOG_START: kind 27h with any body but the discard mode's. -/
  | jogStart (m : Lines) (tag : Byte) (body : List Byte)
  | jogStartButton (m : Lines)
  /-- JOG_START_DISCARD: kind 27h, mode byte 1 (R150). -/
  | jogStartDiscard (m : Lines) (tag : Byte)
  | jogCycleExpiry (m : Lines)
  | turnNow (m : Lines) (tag : Byte) (body : List Byte)
  | turnerPark (m : Lines) (tag : Byte) (body : List Byte)
  | gripClosed (m : Lines)
  | quarterMark (m : Lines)
  | parkSensorMade (m : Lines)
  | parkSensorLost (m : Lines)
  | trackQuery (m : Lines) (tag : Byte) (body : List Byte)
  | trackDeclare (m : Lines) (tag : Byte) (body : List Byte)
  | trackClear (m : Lines) (tag : Byte) (body : List Byte)
  | settingRead (m : Lines) (tag : Byte) (body : List Byte)
  | settingWrite (m : Lines) (tag : Byte) (body : List Byte)
  | estopAck (m : Lines) (tag : Byte) (body : List Byte)
  | noticeSelect (m : Lines) (tag : Byte) (body : List Byte)
  | ident (m : Lines) (tag : Byte) (body : List Byte)
  | status (m : Lines) (tag : Byte) (body : List Byte)
  | reset (m : Lines) (tag : Byte) (body : List Byte)
  | softReset (m : Lines)
  /-- Channel `channel` of `input` comes to read unsafe (`reading` true) or permissive at time `now` (ms);
  `order` is the order in which the blocks receive the event, where the spec leaves it open (log 6). -/
  | safetyChannelChange (m : Lines) (input : SafetyIn) (channel : Channel) (reading : Bool) (now : Nat)
      (order : List Consumers)
  | discrepancyTimeout (m : Lines) (input : SafetyIn)
  | referenceSwitchesReleased (m : Lines)
  deriving DecidableEq, Repr

end Sys2Proof
end

