-- ==== Sys2Proof/Decode.lean ====
section
/-! DEFINITION. The words of the command table. The LC-420 is a block that takes messages and inputs: the table gives
none of its rows bits, so no word spells a command. The bytes of the host link are read by Machine/Link.lean. -/

namespace Sys2Proof

/-- The command a word spells: none, since no row of the table has bits. -/
def decodeTableWord (_nbits _w : Nat) : Option Instr := none

end Sys2Proof
end

