-- ==== Sys2Proof/Config.lean ====
section
/-! DEFINITION. The fixed figures of 00_scope Table 5, and the values the spec leaves open (no body: free). -/

namespace Sys2Proof.Config

/-- Least gauge position GMIN. -/
abbrev gmin : Nat := 1800
/-- Greatest gauge position GMAX. -/
abbrev gmax : Nat := 124000
/-- Gauge reference switch position. -/
abbrev refPosition : Nat := 124500
/-- Greatest load length along the knife LMAX. -/
abbrev lmax : Nat := 132000
/-- Greatest stack height under the clamp HMAX, 0.1 mm. -/
abbrev hmax : Nat := 1650
/-- Gauge in-position tolerance. -/
abbrev tolerance : Nat := 2
/-- Gauge following-error limit. -/
abbrev followLimit : Nat := 100
/-- Transfer plane TP, 0.1 mm above the floor stop. -/
abbrev transferPlane : Nat := 13000
/-- Highest program number. -/
abbrev maxProgram : Nat := 99
/-- Units of the step pool. -/
abbrev poolUnits : Nat := 4000
/-- Steps a program may hold. -/
abbrev maxSteps : Nat := 250
/-- Places of the aside stack. -/
abbrev asidePlaces : Nat := 12
/-- Load warning entries kept. -/
abbrev warningEntries : Nat := 8
/-- Frames the receive queue holds; the list of pending LINK_BUSY replies holds as many (R4). -/
abbrev queueFrames : Nat := 4
/-- Notices the notice queue holds (R9). -/
abbrev noticePlaces : Nat := 16
/-- Largest frame body. -/
abbrev maxBody : Nat := 240
/-- Programs a label search spans. -/
abbrev labelSpan : Nat := 8
/-- Compensation limit. -/
abbrev compLimit : Nat := 50
/-- Pump run-up, ms. -/
abbrev runUpMs : Nat := 2000
/-- Pump restart lockout, ms. -/
abbrev lockoutMs : Nat := 5000
/-- Clamp reach timeout, ms. -/
abbrev clampMs : Nat := 4000
/-- Knife bottom timeout, ms. -/
abbrev knifeMs : Nat := 1500
/-- Lift raise timeout, ms. -/
abbrev raiseMs : Nat := 20000
/-- Two-hand synchronism, ms. -/
abbrev syncMs : Nat := 500
/-- Dual-channel discrepancy time, ms. -/
abbrev discrepancyMs : Nat := 100
/-- Link inter-byte gap, ms. -/
abbrev gapMs : Nat := 20
/-- Knife stroke counter ceiling. -/
abbrev strokeCeiling : Nat := 999999

/-- FREE VALUE (log 10): what a 16-bit link field carries for a count past 65535. The spec states no value. -/
opaque past16 : Nat → BitVec 16
/-- FREE VALUE (log 10): what a 32-bit link field carries for a count past 4294967295. The spec states no value. -/
opaque past32 : Nat → BitVec 32
/-- FREE VALUE (log 10): what a 64-bit link field carries for an area past its range. The spec states no value. -/
opaque past64 : Nat → BitVec 64
/-- FREE VALUE (log 11): the TURN_ENDED detail of a TURN_NOW whose turner is no longer PARKED when its retract
completes, by the clearance position of the turn. R161 lists no cause for it. -/
opaque notParkedCause : Int → BitVec 32

end Sys2Proof.Config
end

