-- ==== Sys2Proof/Machine/State.lean ====
section
/-! DEFINITION. The state of the LC-420, block by block (00_scope, Table 1), and its value after power-on. -/

namespace Sys2Proof.Machine

/-- No command of the LC-420 stops the machine: the spec gives every one an effect, and line faults are state
(R90). So no fault has a name here (safe: nothing is cut short). -/
inductive Fault where
  deriving DecidableEq, Repr

/-- Why a command has no meaning. -/
inductive Refusal where
  /-- Raised by `exec`'s arm of a command not modelled yet; safe. No arm raises it. -/
  | notModelled (mnemonic : String)
  deriving DecidableEq, Repr

/-! ### Link Interface -/

/-- A frame of the host link less its start byte, length and check (01, Table 8). -/
structure Frame where
  kind : Byte
  tag : Byte
  body : List Byte
  deriving DecidableEq, Repr

/-- The receiver (R2): HUNTING, or ASSEMBLING with the bytes after the start byte, in arrival order. -/
inductive Receiver where
  | hunting
  | assembling (got : List Byte)
  deriving DecidableEq, Repr

/-- A frame of the receive queue, with its reply once it has been decided (R5). -/
structure Queued where
  frame : Frame
  reply : Option Frame
  deriving DecidableEq, Repr

/-- The three sources of the transmit line (R10). -/
inductive TxSource where
  | linkBusy | reply | notice
  deriving DecidableEq, Repr

/-- The frame on the transmit line. -/
structure Sending where
  source : TxSource
  frame : Frame
  deriving DecidableEq, Repr

/-- State of the Link Interface (R2, R4, R5, R9, R10, R11). -/
structure Link where
  receiver : Receiver
  queue : List Queued
  /-- pending LINK_BUSY replies, oldest first (R4) -/
  busy : List Frame
  notices : List Frame
  lost : Nat
  mask : BitVec 16
  line : Option Sending
  deriving DecidableEq, Repr

/-! ### Program Store -/

/-- Step kinds (02, Table 18). -/
inductive StepKind where
  | cut | turn | load | eject | recall | pause
  deriving DecidableEq, Repr

/-- Dispositions (02, Table 18). -/
inductive Disposition where
  | waste | aside | finished
  deriving DecidableEq, Repr

/-- Target modes (02, Table 18). -/
inductive TargetMode where
  | abs | trim
  deriving DecidableEq, Repr

/-- A step record (02, Table 18). -/
structure StepRec where
  kind : StepKind
  label : Nat
  disposition : Disposition
  mode : TargetMode
  count : Nat
  value : Nat
  pitch : Nat
  deriving DecidableEq, Repr

/-- A program header; an absent optional part is none (R21). -/
structure Header where
  name : List Byte
  link : Option Nat
  format : Option (Nat × Nat)
  finished : Option (Nat × Nat)
  draw : Option Int
  deriving DecidableEq, Repr

/-- A stored program (R17). -/
structure Program where
  header : Header
  steps : List StepRec
  complete : Bool
  deriving DecidableEq, Repr

/-- The open download window (02, 2.4). -/
structure Window where
  program : Nat
  pointer : Nat
  endIndex : Nat
  deriving DecidableEq, Repr

/-- The settings store (11, Table 63). -/
structure Settings where
  backlashMargin : Nat
  reversalDwell : Nat
  drawCoeff : Int
  heightTol : Nat
  pedalDwell : Nat
  turnClearance : Nat
  knifeWarn : Nat
  knifeGrace : Nat
  /-- ARB_MODE: true is ROUND_ROBIN -/
  roundRobin : Bool
  priorityCut : Nat
  priorityLift : Nat
  priorityTurn : Nat
  haltOnFault : Bool
  pumpIdleOff : Nat
  jogTime : Nat
  jogRetries : Nat
  deriving DecidableEq, Repr

/-- The defaults of Table 63. -/
def Settings.default : Settings where
  backlashMargin := 300
  reversalDwell := 150
  drawCoeff := 0
  heightTol := 30
  pedalDwell := 30
  turnClearance := 2000
  knifeWarn := 8000
  knifeGrace := 400
  roundRobin := false
  priorityCut := 2
  priorityLift := 0
  priorityTurn := 1
  haltOnFault := true
  pumpIdleOff := 300
  jogTime := 8
  jogRetries := 2

/-- State of the Program Store: programs by rising number, the window, the settings (R17, R22, R176). -/
structure Store where
  programs : List (Nat × Program)
  window : Option Window
  settings : Settings
  deriving DecidableEq, Repr

/-! ### Geometry Tracker -/

/-- A rectangle of the sheet frame (03, 3.1). -/
structure Rect where
  sx : Nat
  sy : Nat
  sw : Nat
  sd : Nat
  deriving DecidableEq, Repr

/-- The table load record while present (03, Table 24); an unknown height is none. -/
structure TableLoad where
  loadId : Nat
  rect : Rect
  q : Fin 4
  height : Option Nat
  scored : Bool
  deriving DecidableEq, Repr

/-- A piece of the aside stack (R51). -/
structure Piece where
  rect : Rect
  q : Fin 4
  height : Option Nat
  loadId : Nat
  deriving DecidableEq, Repr

/-- An entry of the warnings list (03, Table 28). -/
structure WarnEntry where
  kind : Nat
  step : Nat
  iter : Nat
  deriving DecidableEq, Repr

/-- The open-load record while open (R41). -/
structure OpenLoad where
  id : Nat
  w : Nat
  ls : Nat
  waste : Nat
  finishedArea : Nat
  finishedCount : Nat
  warnings : List WarnEntry
  overflow : Nat
  deriving DecidableEq, Repr

/-- The step base of a CUT step, with the program and step it belongs to (R58). -/
structure StepBase where
  program : Nat
  step : Nat
  base : Int
  deriving DecidableEq, Repr

/-- State of the Geometry Tracker; the aside stack is listed from its top (R39, R41, R51, R56, R58). -/
structure Tracker where
  table : Option TableLoad
  aside : List Piece
  openLoad : Option OpenLoad
  nextId : Nat
  prepared : Option (Nat × Nat)
  stepBase : Option StepBase
  deriving DecidableEq, Repr

/-! ### Cut cycles -/

/-- Who handed a cycle to the cut station (R111). -/
inductive CycleIssuer where
  | runner | manual
  deriving DecidableEq, Repr

/-- How a cycle past the knife's top was cut short (R117). -/
inductive CycleMark where
  | clean | aborted | timedOut
  deriving DecidableEq, Repr

/-- The cycle record (R111). -/
structure Cycle where
  issuer : CycleIssuer
  tracked : Bool
  nominal : Int
  comp : Int
  target : Int
  draw : Int
  heightUsed : Option Nat
  disposition : Disposition
  /-- step index; 255 (FFh) for a manual cycle -/
  step : Nat
  /-- iteration; 255 (FFh) for a manual cycle -/
  iter : Nat
  loadId : Nat
  measured : Option Nat
  /-- whether the knife has left its top on this cycle -/
  leftTop : Bool
  mark : CycleMark
  deriving DecidableEq, Repr

/-! ### Program Runner -/

/-- Runner states (04, Table 36). -/
inductive RunState where
  | idle | ready | running | held | faulted
  deriving DecidableEq, Repr

/-- Runner phases (04, Table 37). -/
inductive Phase where
  | none | positioning | cutting | infeedWait | retract | placeWait | contact | turning | removeWait
  deriving DecidableEq, Repr

/-- Hold reasons (01, Table 13). -/
inductive HoldReason where
  | none | hostHold | singleDone | programPause | strokeAborted | guardOpen | bladeChange | pileEmpty | lineHalt
  | cleared
  deriving DecidableEq, Repr

/-- Run modes. -/
inductive RunMode where
  | continuous | single
  deriving DecidableEq, Repr

/-- Fault kinds (04, Table 40). -/
inductive FaultKind where
  | emptyCut | outOfTravel | noLoad | tableOccupied | asideNotEmpty | asideFull | asideEmpty | turnClearance
  | tooTall | loadTooDeep | knifeLimit | formatMismatch | linkInvalid | notReferenced | aborted
  | followingError | overtravel | clampTimeout | knifeTimeout | pumpFault | pressureLost | liftTimeout
  | jogFailed | notParked | estop | safetyDiscrepancy
  deriving DecidableEq, Repr

/-- The fault record (R90). Its kind fixes its source (Table 40). -/
structure FaultRec where
  kind : FaultKind
  program : Nat
  step : Nat
  iter : Nat
  loadId : Nat
  detail : Int
  deriving DecidableEq, Repr

/-- What a RUNNING Runner has been unable to hand, and hands again when the unit is free (R103; log 19). -/
inductive Waiting where
  | nothing | move | cycle
  deriving DecidableEq, Repr

/-- State of the Program Runner (R66). -/
structure Runner where
  state : RunState
  program : Nat
  step : Nat
  iter : Nat
  phase : Phase
  mode : RunMode
  limit : Nat
  done : Nat
  hold : HoldReason
  holdReq : Bool
  abortPending : Bool
  skipPending : Bool
  singleStep : Bool
  lineHalt : Bool
  fault : Option FaultRec
  second : Bool
  /-- retract position the step in progress has fixed (R77, R79, R80) -/
  retractPos : Int
  /-- the figures fixed for the iteration being positioned (R75) -/
  figures : Option Cycle
  waits : Waiting
  /-- the model's own (log 18): a RUN_STATE notice is owed by the command in progress -/
  noticeDue : Bool
  deriving DecidableEq, Repr

/-! ### Back Gauge -/

/-- Gauge states (05, Table 44). -/
inductive GaugeState where
  | unreferenced | referencing | standing | movingBack | dwell | approaching | fault
  deriving DecidableEq, Repr

/-- Gauge directions: FORWARD is toward the knife. -/
inductive Direction where
  | forward | backward
  deriving DecidableEq, Repr

/-- Who handed the move in progress (R96). -/
inductive MoveIssuer where
  | runner | manualCut | manualTurn | gaugeMove | gaugeReference
  deriving DecidableEq, Repr

/-- The three moves of the gauge (05, 5.1). -/
inductive MoveKind where
  | approach | retract | reference
  deriving DecidableEq, Repr

/-- One segment (05, 5.2, R99). -/
inductive Segment where
  | to (dir : Direction) (pos : Int)
  /-- the forward drive-off, until both switches are released -/
  | offSwitches
  /-- the backward search, until the reference switch is made -/
  | ontoSwitch
  deriving DecidableEq, Repr

/-- The move in progress: the segment under way (or dwelled for) first. -/
structure Move where
  issuer : MoveIssuer
  kind : MoveKind
  plan : List Segment
  fromSlot : Bool
  /-- the operation's target, as GAUGE_DONE reports it -/
  goal : Int
  deriving DecidableEq, Repr

/-- State of the Back Gauge (R96). -/
structure Gauge where
  state : GaugeState
  referenced : Bool
  actual : Int
  target : Int
  dir : Direction
  inPos : Bool
  slot : Option Int
  move : Option Move
  /-- the reversal dwell timer: its length in ms while it runs (R97) -/
  dwell : Option Nat
  /-- the model's own (log 25): the actual position is the encoder plus this -/
  zero : Int
  deriving DecidableEq, Repr

/-! ### Cut Station -/

/-- Cut station states (06, Table 48). -/
inductive CutState where
  | ready | armed | grantWait | preclamped | clamping | cutting | returning | abortReturn | recover | bladeChange
  | fault
  deriving DecidableEq, Repr

/-- The clamp's pressure valves. -/
inductive ClampValve where
  | closed | low | high
  deriving DecidableEq, Repr

/-- The knife valve. -/
inductive KnifeValve where
  | rest | down | up
  deriving DecidableEq, Repr

/-- A CUT_NOW waiting for its approach, or for the station to be READY (R125; log 19). -/
structure ManualCut where
  cycle : Cycle
  approachDone : Bool
  deriving DecidableEq, Repr

/-- State of the Cut Station (R111). A timer is its length while it runs. -/
structure CutStation where
  state : CutState
  cycle : Option Cycle
  manual : Option ManualCut
  pedalCounts : Bool
  pedal : Bool
  pedalDwell : Option Nat
  clampTimer : Option Nat
  knifeTimer : Option Nat
  counter : Nat
  warn : Bool
  pendingDone : Option Cycle
  clampValve : ClampValve
  knifeValve : KnifeValve
  deriving DecidableEq, Repr

/-! ### Hydraulic Supply -/

/-- Pump states (07, Table 50). -/
inductive PumpState where
  | off | lockout | runUp | ready | fault
  deriving DecidableEq, Repr

/-- The consumers of the supply. -/
inductive Consumer where
  | cut | lift | turn
  deriving DecidableEq, Repr

/-- State of the Hydraulic Supply (R128). -/
structure Supply where
  pump : PumpState
  enable : Bool
  stopPending : Bool
  reqCut : Bool
  reqLift : Bool
  reqTurn : Bool
  holder : Option Consumer
  last : Option Consumer
  lockoutTimer : Option Nat
  runUpTimer : Option Nat
  idleTimer : Option Nat
  /-- the motor contactor: closed is true -/
  contactor : Bool
  deriving DecidableEq, Repr

/-! ### Pile Lift and Jogger -/

/-- Lift states (08, Table 53). -/
inductive LiftState where
  | noPile | lowering | lowered | raising | atTransfer | exhausted | stopped | fault
  deriving DecidableEq, Repr

/-- Kinds of raise (R139). -/
inductive RaiseKind where
  | initial | takeOff
  deriving DecidableEq, Repr

/-- The pile record (R140). -/
structure Pile where
  w : Nat
  ls : Nat
  h0 : Nat
  hc : Nat
  taken : Nat
  restored : Nat
  loads : Nat
  deriving DecidableEq, Repr

/-- State of the Pile Lift (R139). -/
structure Lift where
  state : LiftState
  platform : Nat
  raising : Option RaiseKind
  raiseTimer : Option Nat
  pile : Option Pile
  raiseValve : Bool
  lowerValve : Bool
  deriving DecidableEq, Repr

/-- Jogger slot states (08, Table 54). -/
inductive SlotState where
  | empty | jogging | waitHeight | ready | stopped | failed
  deriving DecidableEq, Repr

/-- The slot's load height (R146). -/
inductive SlotHeight where
  | known (h : Nat) | unknown | pending
  deriving DecidableEq, Repr

/-- State of the Jogger (R146, R154). -/
structure Jogger where
  state : SlotState
  height : SlotHeight
  timer : Option Nat
  retries : Nat
  cycles : Nat
  vibrator : Bool
  deriving DecidableEq, Repr

/-! ### Pile Turner -/

/-- Turner states (09, Table 57). -/
inductive TurnerState where
  | parked | gripping | turning | releasing | interrupted | fault
  deriving DecidableEq, Repr

/-- Who handed the turn in hand (R155). -/
inductive TurnIssuer where
  | runner | turnNow | nobody
  deriving DecidableEq, Repr

/-- The interrupted phase of a turn (R155). -/
inductive TurnPhase where
  | grip | rotate | release
  deriving DecidableEq, Repr

/-- The turn record (R155). -/
structure TurnRec where
  issuer : TurnIssuer
  tracked : Bool
  loadId : Nat
  commanded : Nat
  completed : Nat
  clearance : Int
  interrupted : Option TurnPhase
  deriving DecidableEq, Repr

/-- Where a TURN_NOW in flight stands (R161). -/
inductive ManualStage where
  | retract | turn | contact
  deriving DecidableEq, Repr

/-- A TURN_NOW in flight (R161, R163). -/
structure ManualTurn where
  quarters : Nat
  clearance : Int
  tracked : Bool
  loadId : Nat
  stage : ManualStage
  /-- a soft reset came while its turn was in the turner (R163) -/
  afterReset : Bool
  deriving DecidableEq, Repr

/-- The gripper valve. -/
inductive GripValve where
  | rest | close | release
  deriving DecidableEq, Repr

/-- The rotate drive. -/
inductive RotateDrive where
  | stopped | clockwise | toPark
  deriving DecidableEq, Repr

/-- State of the Pile Turner (R155). -/
structure Turner where
  state : TurnerState
  record : Option TurnRec
  parkFromFault : Bool
  manual : Option ManualTurn
  gripValve : GripValve
  rotate : RotateDrive
  deriving DecidableEq, Repr

/-! ### Safety Monitor -/

/-- What the SM holds for one input: the unsafe readings of its channels, its discrepancy timer and latch
(R164). -/
structure SafetyInput where
  a : Bool
  b : Bool
  timer : Bool
  latch : Bool
  deriving DecidableEq, Repr

/-- State of the Safety Monitor (R164). -/
structure Monitor where
  twoHandLeft : SafetyInput
  twoHandRight : SafetyInput
  lightCurtain : SafetyInput
  emergencyStop : SafetyInput
  rearGuard : SafetyInput
  bladeKey : SafetyInput
  pairStart : Option Nat
  rearm : Bool
  permission : Bool
  estopLatch : Bool
  deriving DecidableEq, Repr

/-! ### The whole -/

/-- The state of the LC-420: its eleven blocks, the sampled lines, and the commands that wait. -/
structure State where
  li : Link
  ps : Store
  gt : Tracker
  pr : Runner
  bg : Gauge
  cs : CutStation
  hs : Supply
  pl : Lift
  jg : Jogger
  pt : Turner
  sm : Monitor
  lines : Lines
  pending : List Instr
  deriving DecidableEq, Repr

/-- `s` with its Link Interface replaced. -/
def State.setLi (s : State) (x : Link) : State := { s with li := x }
/-- `s` with its Program Store replaced. -/
def State.setPs (s : State) (x : Store) : State := { s with ps := x }
/-- `s` with its Geometry Tracker replaced. -/
def State.setGt (s : State) (x : Tracker) : State := { s with gt := x }
/-- `s` with its Program Runner replaced. -/
def State.setPr (s : State) (x : Runner) : State := { s with pr := x }
/-- `s` with its Back Gauge replaced. -/
def State.setBg (s : State) (x : Gauge) : State := { s with bg := x }
/-- `s` with its Cut Station replaced. -/
def State.setCs (s : State) (x : CutStation) : State := { s with cs := x }
/-- `s` with its Hydraulic Supply replaced. -/
def State.setHs (s : State) (x : Supply) : State := { s with hs := x }
/-- `s` with its Pile Lift replaced. -/
def State.setPl (s : State) (x : Lift) : State := { s with pl := x }
/-- `s` with its Jogger replaced. -/
def State.setJg (s : State) (x : Jogger) : State := { s with jg := x }
/-- `s` with its Pile Turner replaced. -/
def State.setPt (s : State) (x : Turner) : State := { s with pt := x }
/-- `s` with its Safety Monitor replaced. -/
def State.setSm (s : State) (x : Monitor) : State := { s with sm := x }
/-- `s` with its sampled lines replaced. -/
def State.setLines (s : State) (x : Lines) : State := { s with lines := x }
/-- `s` with its queue of waiting commands replaced. -/
def State.setPending (s : State) (x : List Instr) : State := { s with pending := x }

/-- The lines as State.reset finds them: every unit at rest in its home place (DESIGN CHOICE, log 2). -/
def Lines.atRest : Lines where
  clampUp := true
  knifeTop := true
  clampHeight := 0
  encoder := 0
  refSwitch := false
  rearOvertravel := false
  pressureOk := false
  platform := 0
  topOfPile := false
  floorStop := true
  sideAligned := false
  backAligned := false
  gripClosed := false
  park := true

/-- The Runner at power-on: IDLE with every field 0 (R66). -/
def Runner.powerOn : Runner where
  state := .idle
  program := 0
  step := 0
  iter := 0
  phase := .none
  mode := .continuous
  limit := 0
  done := 0
  hold := .none
  holdReq := false
  abortPending := false
  skipPending := false
  singleStep := false
  lineHalt := false
  fault := none
  second := false
  retractPos := 0
  figures := none
  waits := .nothing
  noticeDue := false

/-- The POWER_ON SAFETY notice of State.reset: event 0, input FFh, flags "latched, curtain clear, guard closed",
no discrepancy, both buttons reading released (R175; the readings of log 2). -/
def powerOnNotice : Frame := ⟨0x46, 0x00, [0x00, 0xFF, 0x0D, 0x00, 0x0F, 0x00]⟩

/-- The LC-420 newly delivered, right after power-on, with every unit at rest, the guard closed, the curtain clear,
the key off, the E-stop released and no hand on a button (readings: DESIGN CHOICE, log 2). -/
def State.reset : State where
  li :=
    { receiver := .hunting
      queue := []
      busy := []
      notices := [powerOnNotice]
      lost := 0
      mask := 0x01FF
      line := some ⟨.notice, powerOnNotice⟩ }
  ps := { programs := [], window := none, settings := Settings.default }
  gt := { table := none, aside := [], openLoad := none, nextId := 1, prepared := none, stepBase := none }
  pr := Runner.powerOn
  bg :=
    { state := .unreferenced
      referenced := false
      actual := 0
      target := 0
      dir := .forward
      inPos := false
      slot := none
      move := none
      dwell := none
      zero := 0 }
  cs :=
    { state := .ready
      cycle := none
      manual := none
      pedalCounts := false
      pedal := false
      pedalDwell := none
      clampTimer := none
      knifeTimer := none
      counter := 0
      warn := false
      pendingDone := none
      clampValve := .closed
      knifeValve := .rest }
  hs :=
    { pump := .off
      enable := true
      stopPending := false
      reqCut := false
      reqLift := false
      reqTurn := false
      holder := none
      last := none
      lockoutTimer := none
      runUpTimer := none
      idleTimer := none
      contactor := false }
  pl :=
    { state := .noPile
      platform := 0
      raising := none
      raiseTimer := none
      pile := none
      raiseValve := false
      lowerValve := false }
  jg := { state := .empty, height := .known 0, timer := none, retries := 0, cycles := 0, vibrator := false }
  pt :=
    { state := .parked
      record := none
      parkFromFault := false
      manual := none
      gripValve := .rest
      rotate := .stopped }
  sm :=
    { twoHandLeft := ⟨true, true, false, false⟩
      twoHandRight := ⟨true, true, false, false⟩
      lightCurtain := ⟨false, false, false, false⟩
      emergencyStop := ⟨false, false, false, false⟩
      rearGuard := ⟨false, false, false, false⟩
      bladeKey := ⟨false, false, false, false⟩
      pairStart := none
      rearm := true
      permission := false
      estopLatch := true }
  lines := Lines.atRest
  pending := []

end Sys2Proof.Machine
end

