-- ==== Sys2Proof/Machine/Operands.lean ====
section
/-! DEFINITION. Byte order and the operand records of the host link: fields, step records (Table 18, R20), header
descriptors (Table 16, R19), and the codes of the link's enumerations. -/

namespace Sys2Proof.Machine

/-! ### Byte order (00_scope, Numbers on the host link) -/

/-- `n` bytes of `v`, least significant first. -/
def leBytes : Nat → Nat → List Byte
  | 0, _ => []
  | n + 1, v => BitVec.ofNat 8 v :: leBytes n (v / 256)

/-- The number whose bytes these are, least significant first. -/
def leNat : List Byte → Nat
  | [] => 0
  | b :: bs => b.toNat + 256 * leNat bs

/-- `n` bytes of the signed `v` in two's complement, least significant first. -/
def leInt (n : Nat) (v : Int) : List Byte := leBytes n (v % (256 : Int) ^ n).toNat

/-- The signed number of `n` bytes that `v` is in two's complement. -/
def signedOf (n v : Nat) : Int := if 2 * v < 256 ^ n then (v : Int) else (v : Int) - (256 : Int) ^ n

/-- The unsigned field of `n` bytes at offset `off` of a body. -/
def fieldAt (body : List Byte) (off n : Nat) : Nat := leNat ((body.drop off).take n)

/-- The signed field of `n` bytes at offset `off` of a body. -/
def signedAt (body : List Byte) (off n : Nat) : Int := signedOf n (fieldAt body off n)

/-- A 16-bit field of a count; a count past it carries a free value (log 10). -/
def count16 (v : Nat) : List Byte := leBytes 2 (if v < 2 ^ 16 then v else (Config.past16 v).toNat)
/-- A 32-bit field of a count; a count past it carries a free value (log 10). -/
def count32 (v : Nat) : List Byte := leBytes 4 (if v < 2 ^ 32 then v else (Config.past32 v).toNat)
/-- A 64-bit field of an area; an area past it carries a free value (log 10). -/
def count64 (v : Nat) : List Byte := leBytes 8 (if v < 2 ^ 64 then v else (Config.past64 v).toNat)

/-- A height on the link, FFFFh when unknown (Tables 34 and 35). -/
def heightField : Option Nat → List Byte
  | some h => leBytes 2 h
  | none => leBytes 2 0xFFFF

/-- A flag byte from its bits, bit 0 first. -/
def flagByte (bits : List Bool) : Byte :=
  BitVec.ofNat 8 (bits.foldr (fun b acc => (if b then 1 else 0) + 2 * acc) 0)

/-- A Bool as a byte. -/
def boolByte (b : Bool) : Byte := if b then 1 else 0

/-- A number as one byte. -/
def byteOf (n : Nat) : Byte := BitVec.ofNat 8 n

/-! ### Codes -/

/-- Step kinds by their codes (Table 18). -/
def StepKind.ofCode : Nat → Option StepKind
  | 1 => some .cut
  | 2 => some .turn
  | 3 => some .load
  | 4 => some .eject
  | 5 => some .recall
  | 6 => some .pause
  | _ => none

/-- Code of a step kind (Table 18). -/
def StepKind.code : StepKind → Nat
  | .cut => 1
  | .turn => 2
  | .load => 3
  | .eject => 4
  | .recall => 5
  | .pause => 6

/-- Dispositions by their codes (Table 18). -/
def Disposition.ofCode : Nat → Option Disposition
  | 0 => some .waste
  | 1 => some .aside
  | 2 => some .finished
  | _ => none

/-- Code of a disposition (Table 18). -/
def Disposition.code : Disposition → Nat
  | .waste => 0
  | .aside => 1
  | .finished => 2

/-- Target modes by their codes (Table 18). -/
def TargetMode.ofCode : Nat → Option TargetMode
  | 0 => some .abs
  | 1 => some .trim
  | _ => none

/-- Code of a target mode (Table 18). -/
def TargetMode.code : TargetMode → Nat
  | .abs => 0
  | .trim => 1

/-- Code of a Runner state (Table 13). -/
def RunState.code : RunState → Nat
  | .idle => 0
  | .ready => 1
  | .running => 2
  | .held => 3
  | .faulted => 4

/-- Code of a phase (Table 37). -/
def Phase.code : Phase → Nat
  | .none => 0
  | .positioning => 1
  | .cutting => 2
  | .infeedWait => 3
  | .retract => 4
  | .placeWait => 5
  | .contact => 6
  | .turning => 7
  | .removeWait => 8

/-- Code of a hold reason (Table 13). -/
def HoldReason.code : HoldReason → Nat
  | .none => 0
  | .hostHold => 1
  | .singleDone => 2
  | .programPause => 3
  | .strokeAborted => 4
  | .guardOpen => 5
  | .bladeChange => 6
  | .pileEmpty => 7
  | .lineHalt => 8
  | .cleared => 9

/-- Code of a run mode. -/
def RunMode.code : RunMode → Nat
  | .continuous => 0
  | .single => 1

/-- Code of a fault kind (Table 40). -/
def FaultKind.code : FaultKind → Nat
  | .emptyCut => 1
  | .outOfTravel => 2
  | .noLoad => 3
  | .tableOccupied => 4
  | .asideNotEmpty => 5
  | .asideFull => 6
  | .asideEmpty => 7
  | .turnClearance => 8
  | .tooTall => 9
  | .loadTooDeep => 10
  | .knifeLimit => 11
  | .formatMismatch => 12
  | .linkInvalid => 13
  | .notReferenced => 14
  | .aborted => 15
  | .followingError => 20
  | .overtravel => 21
  | .clampTimeout => 24
  | .knifeTimeout => 25
  | .pumpFault => 28
  | .pressureLost => 29
  | .liftTimeout => 32
  | .jogFailed => 34
  | .notParked => 36
  | .estop => 40
  | .safetyDiscrepancy => 41

/-- Source code of a fault kind (Table 40 and the codes below it). -/
def FaultKind.source : FaultKind → Nat
  | .followingError | .overtravel => 1
  | .clampTimeout | .knifeTimeout => 2
  | .pumpFault | .pressureLost => 3
  | .liftTimeout => 4
  | .jogFailed => 5
  | .notParked => 6
  | .estop | .safetyDiscrepancy => 7
  | .emptyCut | .outOfTravel | .noLoad | .tableOccupied | .asideNotEmpty | .asideFull | .asideEmpty
  | .turnClearance | .tooTall | .loadTooDeep | .knifeLimit | .formatMismatch | .linkInvalid | .notReferenced
  | .aborted => 0

/-- The infeed faults (below Table 40). -/
def FaultKind.isInfeed : FaultKind → Bool
  | .liftTimeout | .jogFailed => true
  | _ => false

/-- Code of a gauge state (Table 44). -/
def GaugeState.code : GaugeState → Nat
  | .unreferenced => 0
  | .referencing => 1
  | .standing => 2
  | .movingBack => 3
  | .dwell => 4
  | .approaching => 5
  | .fault => 6

/-- Code of a cut station state (Table 48). -/
def CutState.code : CutState → Nat
  | .ready => 0
  | .armed => 1
  | .grantWait => 2
  | .preclamped => 3
  | .clamping => 4
  | .cutting => 5
  | .returning => 6
  | .abortReturn => 7
  | .recover => 8
  | .bladeChange => 9
  | .fault => 10

/-- Code of a pump state (Table 50). -/
def PumpState.code : PumpState → Nat
  | .off => 0
  | .lockout => 1
  | .runUp => 2
  | .ready => 3
  | .fault => 4

/-- Code of a grant holder (Table 13). -/
def holderCode : Option Consumer → Nat
  | none => 0
  | some .cut => 1
  | some .lift => 2
  | some .turn => 3

/-- Code of a lift state (Table 53). -/
def LiftState.code : LiftState → Nat
  | .noPile => 0
  | .lowering => 1
  | .lowered => 2
  | .raising => 3
  | .atTransfer => 4
  | .exhausted => 5
  | .stopped => 6
  | .fault => 7

/-- Code of a slot state (Table 54). -/
def SlotState.code : SlotState → Nat
  | .empty => 0
  | .jogging => 1
  | .waitHeight => 2
  | .ready => 3
  | .stopped => 4
  | .failed => 5

/-- Code of a turner state (Table 57). -/
def TurnerState.code : TurnerState → Nat
  | .parked => 0
  | .gripping => 1
  | .turning => 2
  | .releasing => 3
  | .interrupted => 4
  | .fault => 5

/-- Code of a safety input (Table 59). -/
def safetyCode : SafetyIn → Nat
  | .twoHandLeft => 0
  | .twoHandRight => 1
  | .lightCurtain => 2
  | .emergencyStop => 3
  | .rearGuard => 4
  | .bladeKey => 5

/-! ### Step records -/

/-- The fields of a step by kind (Table 19). -/
def StepRec.fieldsOk (r : StepRec) : Bool :=
  match r.kind with
  | .cut =>
    decide (1 ≤ r.value ∧ r.value ≤ Config.gmax ∧ 1 ≤ r.count ∧ r.count ≤ 99) &&
      (if r.count = 1 then decide (r.pitch = 0) else decide (1 ≤ r.pitch ∧ r.pitch ≤ Config.gmax))
  | .turn =>
    decide (r.disposition = .waste ∧ r.mode = .abs ∧ 1 ≤ r.value ∧ r.value ≤ 3 ∧ r.count = 1 ∧ r.pitch = 0)
  | .eject => decide (r.mode = .abs ∧ r.value = 0 ∧ r.count = 1 ∧ r.pitch = 0)
  | .load | .recall | .pause =>
    decide (r.disposition = .waste ∧ r.mode = .abs ∧ r.value = 0 ∧ r.count = 1 ∧ r.pitch = 0)

/-- What R20 accepts: a label of 0 or 1..9999, and the fields of Table 19. -/
def StepRec.accepted (r : StepRec) : Bool := decide (r.label ≤ 9999) && r.fieldsOk

/-- The step record of 13 bytes (Table 18), if R20 accepts it. -/
def decodeStep (b : List Byte) : Option StepRec :=
  match StepKind.ofCode (fieldAt b 0 1), Disposition.ofCode (fieldAt b 3 1), TargetMode.ofCode (fieldAt b 4 1) with
  | some k, some d, some m =>
    let r : StepRec :=
      { kind := k
        label := fieldAt b 1 2
        disposition := d
        mode := m
        count := fieldAt b 5 1
        value := fieldAt b 6 4
        pitch := fieldAt b 10 3 }
    if r.accepted then some r else none
  | _, _, _ => none

/-- The 13 bytes of a step record (Table 18). -/
def encodeStep (r : StepRec) : List Byte :=
  leBytes 1 r.kind.code ++ leBytes 2 r.label ++ leBytes 1 r.disposition.code ++ leBytes 1 r.mode.code ++
    leBytes 1 r.count ++ leBytes 4 r.value ++ leBytes 3 r.pitch

/-! ### Header descriptors -/

/-- A printable character 20h..7Eh (R19). -/
def printable (b : Byte) : Bool := decide (0x20 ≤ b.toNat ∧ b.toNat ≤ 0x7E)

/-- A length within 1..GMAX (R19). -/
def lengthOk (v : Nat) : Bool := decide (1 ≤ v ∧ v ≤ Config.gmax)

/-- What R19 asks of the parts a header holds. -/
def Header.accepted (h : Header) : Bool :=
  decide (h.name.length ≤ 16) && h.name.all printable &&
    (match h.link with
      | none => true
      | some l => decide (1 ≤ l ∧ l ≤ Config.maxProgram)) &&
    (match h.format with
      | none => true
      | some (w, ls) => lengthOk w && lengthOk ls && decide (w ≤ Config.lmax)) &&
    (match h.finished with
      | none => true
      | some (fw, fd) => lengthOk fw && lengthOk fd) &&
    (match h.draw with
      | none => true
      | some k => decide (-40 ≤ k ∧ k ≤ 40))

/-- The program number and header of a descriptor (Table 16), if R19 accepts it. The fields of an absent part are
not read (R19). -/
def decodeHeader (b : List Byte) : Option (Nat × Header) :=
  let number := fieldAt b 0 1
  let nameLen := fieldAt b 1 1
  let parts := fieldAt b 18 1
  let h : Header :=
    { name := (b.drop 2).take nameLen
      link := if parts.testBit 0 then some (fieldAt b 19 1) else none
      format := if parts.testBit 1 then some (fieldAt b 20 4, fieldAt b 24 4) else none
      finished := if parts.testBit 2 then some (fieldAt b 28 4, fieldAt b 32 4) else none
      draw := if parts.testBit 3 then some (signedAt b 36 1) else none }
  if 1 ≤ number ∧ number ≤ Config.maxProgram ∧ nameLen ≤ 16 ∧ parts < 16 ∧ h.accepted = true then
    some (number, h)
  else none

/-- The descriptor of a header (Table 16): unread name bytes are 00h and the fields of absent parts 0 (Table 17). -/
def encodeHeader (number : Nat) (h : Header) : List Byte :=
  leBytes 1 number ++ leBytes 1 h.name.length ++ h.name ++ List.replicate (16 - h.name.length) 0 ++
    [flagByte [h.link.isSome, h.format.isSome, h.finished.isSome, h.draw.isSome]] ++
    leBytes 1 (h.link.getD 0) ++
    leBytes 4 (h.format.getD (0, 0)).1 ++ leBytes 4 (h.format.getD (0, 0)).2 ++
    leBytes 4 (h.finished.getD (0, 0)).1 ++ leBytes 4 (h.finished.getD (0, 0)).2 ++
    leInt 1 (h.draw.getD 0)

/-! ### Requests -/

/-- Status codes of a reply (01, Table 9). -/
inductive Status where
  | ok | clamped | busy | owned | badState | badFields | notFound | noWindow | poolFull | inUse | incomplete
  | notReferenced | safetyBlocked | linkBusy | unknown
  deriving DecidableEq, Repr

/-- Code of a status (Table 9). -/
def Status.code : Status → Byte
  | .ok => 0x00
  | .clamped => 0x01
  | .busy => 0x02
  | .owned => 0x03
  | .badState => 0x04
  | .badFields => 0x05
  | .notFound => 0x06
  | .noWindow => 0x07
  | .poolFull => 0x08
  | .inUse => 0x09
  | .incomplete => 0x0A
  | .notReferenced => 0x0B
  | .safetyBlocked => 0x0C
  | .linkBusy => 0x0D
  | .unknown => 0x0E

/-- The first of the listed conditions that holds gives the refusal (R8; R124 and R160 list their own order). -/
def firstRefusal : List (Bool × Status) → Option Status
  | [] => none
  | (c, st) :: rest => if c then some st else firstRefusal rest

/-- The 36 request kinds (01, Table 11). -/
inductive Request where
  | storeOpen | step | replaceStep | deleteProgram | readProgram | listPrograms
  | select | run | hold | skip | abort | locate | clearFault | lineHalt | confirm
  | gaugeMove | gaugeReference | cutNow | turnNow | turnerPark | newPile | liftLower | jogStart | pumpOn | pumpOff
  | trackQuery | trackDeclare | trackClear
  | settingRead | settingWrite | estopAck | bladeReset
  | noticeSelect | ident | status | reset
  deriving DecidableEq, Repr

/-- Kind byte of a request (Table 11). -/
def Request.kind : Request → Byte
  | .storeOpen => 0x01
  | .step => 0x02
  | .replaceStep => 0x03
  | .deleteProgram => 0x04
  | .readProgram => 0x05
  | .listPrograms => 0x06
  | .select => 0x10
  | .run => 0x11
  | .hold => 0x12
  | .skip => 0x13
  | .abort => 0x14
  | .locate => 0x15
  | .clearFault => 0x16
  | .lineHalt => 0x17
  | .confirm => 0x18
  | .gaugeMove => 0x20
  | .gaugeReference => 0x21
  | .cutNow => 0x22
  | .turnNow => 0x23
  | .turnerPark => 0x24
  | .newPile => 0x25
  | .liftLower => 0x26
  | .jogStart => 0x27
  | .pumpOn => 0x28
  | .pumpOff => 0x29
  | .trackQuery => 0x2C
  | .trackDeclare => 0x2D
  | .trackClear => 0x2E
  | .settingRead => 0x30
  | .settingWrite => 0x31
  | .estopAck => 0x32
  | .bladeReset => 0x33
  | .noticeSelect => 0x38
  | .ident => 0x39
  | .status => 0x3A
  | .reset => 0x3B

/-- Every request kind, in the order of Table 11. -/
def allRequests : List Request :=
  [.storeOpen, .step, .replaceStep, .deleteProgram, .readProgram, .listPrograms, .select, .run, .hold, .skip,
    .abort, .locate, .clearFault, .lineHalt, .confirm, .gaugeMove, .gaugeReference, .cutNow, .turnNow, .turnerPark,
    .newPile, .liftLower, .jogStart, .pumpOn, .pumpOff, .trackQuery, .trackDeclare, .trackClear, .settingRead,
    .settingWrite, .estopAck, .bladeReset, .noticeSelect, .ident, .status, .reset]

/-- The request a kind byte names, if it names one (R6). -/
def Request.ofKind (k : Byte) : Option Request := allRequests.find? fun r => r.kind = k

/-- The body length each owning chapter gives (R13). -/
def Request.bodyLength : Request → Nat
  | .storeOpen => 39
  | .step => 13
  | .replaceStep => 15
  | .deleteProgram => 1
  | .readProgram => 2
  | .listPrograms => 1
  | .select => 1
  | .run => 3
  | .hold => 0
  | .skip => 0
  | .abort => 0
  | .locate => 6
  | .clearFault => 0
  | .lineHalt => 1
  | .confirm => 0
  | .gaugeMove => 5
  | .gaugeReference => 0
  | .cutNow => 5
  | .turnNow => 1
  | .turnerPark => 0
  | .newPile => 8
  | .liftLower => 0
  | .jogStart => 1
  | .pumpOn => 0
  | .pumpOff => 0
  | .trackQuery => 1
  | .trackDeclare => 11
  | .trackClear => 0
  | .settingRead => 1
  | .settingWrite => 5
  | .estopAck => 0
  | .bladeReset => 0
  | .noticeSelect => 2
  | .ident => 0
  | .status => 0
  | .reset => 0

/-- The requests that leave an open download window open (R12). -/
def Request.keepsWindow : Request → Bool
  | .step | .status | .ident | .trackQuery => true
  | _ => false

end Sys2Proof.Machine
end

