-- ==== Sys2Proof/Machine/Ops.lean ====
section
/-! DEFINITION. Named operations the blocks share: sampling the lines, the program list and pool, the settings by
code, and the conditions several chapters ask about. -/

namespace Sys2Proof.Machine

/-! ### The machine-side lines -/

/-- The lines are sampled (log 1): the gauge's actual position and the platform position follow their encoders
(R96, R139), and the clamp valves of a returning knife close once the knife is at its top (R118). -/
def State.sample (s : State) (m : Lines) : State :=
  (((s.setLines m).setBg { s.bg with actual := m.encoder + s.bg.zero }).setPl
    { s.pl with platform := m.platform }).setCs
      { s.cs with
        clampValve :=
          if (s.cs.state = .returning ∨ s.cs.state = .abortReturn) ∧ m.knifeTop = true then .closed
          else s.cs.clampValve }

/-! ### Programs and the pool (R17, R18) -/

/-- The program stored under a number. -/
def progLookup : List (Nat × Program) → Nat → Option Program
  | [], _ => none
  | (k, p) :: rest, n => if k = n then some p else progLookup rest n

/-- The list with a program stored under a number, numbers strictly rising. -/
def progInsert : List (Nat × Program) → Nat → Program → List (Nat × Program)
  | [], n, p => [(n, p)]
  | (k, q) :: rest, n, p =>
    if n < k then (n, p) :: (k, q) :: rest
    else if n = k then (n, p) :: rest
    else (k, q) :: progInsert rest n p

/-- The list with no program under a number. -/
def progErase : List (Nat × Program) → Nat → List (Nat × Program)
  | [], _ => []
  | (k, q) :: rest, n => if k = n then rest else (k, q) :: progErase rest n

/-- Pool units of a step (R18). -/
def StepRec.units (r : StepRec) : Nat :=
  1 + (if r.label = 0 then 0 else 1) + (if r.kind = .cut ∧ 1 < r.count then 1 else 0)

/-- Pool units of a list of steps. -/
def stepUnits (l : List StepRec) : Nat := (l.map StepRec.units).sum

/-- Units used by a program (R18). -/
def Program.units (p : Program) : Nat := stepUnits p.steps

/-- Units used by all stored programs together (R18). -/
def usedUnits (l : List (Nat × Program)) : Nat := (l.map fun e => e.2.units).sum

/-- Free units of the pool (R18). -/
def freeUnits (l : List (Nat × Program)) : Nat := Config.poolUnits - usedUnits l

/-- The program of a number in a state's store. -/
def State.program (s : State) (n : Nat) : Option Program := progLookup s.ps.programs n

/-- The Runner's current program, as stored at this moment (R37). -/
def State.currentProgram (s : State) : Option Program := s.program s.pr.program

/-- The step at the Runner's position, as stored at this moment (R37). -/
def State.currentStep (s : State) : Option StepRec :=
  match s.currentProgram with
  | some p => p.steps[s.pr.step]?
  | none => none

/-- An open download window is closed; its program keeps its steps (R28). -/
def State.closeWindow (s : State) : State := s.setPs { s.ps with window := none }

/-! ### Settings by code (11, Table 63) -/

/-- The range and default of a setting with a code, the priority group apart. -/
structure SettingRange where
  least : Int
  greatest : Int
  default : Int
  deriving DecidableEq, Repr

/-- Table 63 by code; the priority group (10) has no range of its own (R180). -/
def settingRange : Nat → Option SettingRange
  | 1 => some ⟨50, 1000, 300⟩
  | 2 => some ⟨50, 1000, 150⟩
  | 3 => some ⟨-40, 40, 0⟩
  | 4 => some ⟨5, 200, 30⟩
  | 5 => some ⟨5, 120, 30⟩
  | 6 => some ⟨500, 5000, 2000⟩
  | 7 => some ⟨1000, 50000, 8000⟩
  | 8 => some ⟨0, 2000, 400⟩
  | 9 => some ⟨0, 1, 0⟩
  | 11 => some ⟨0, 1, 1⟩
  | 12 => some ⟨30, 3600, 300⟩
  | 13 => some ⟨2, 60, 8⟩
  | 14 => some ⟨0, 3, 2⟩
  | _ => none

/-- The stored value of a setting by code, the priority group apart. -/
def Settings.get (x : Settings) : Nat → Int
  | 1 => x.backlashMargin
  | 2 => x.reversalDwell
  | 3 => x.drawCoeff
  | 4 => x.heightTol
  | 5 => x.pedalDwell
  | 6 => x.turnClearance
  | 7 => x.knifeWarn
  | 8 => x.knifeGrace
  | 9 => if x.roundRobin then 1 else 0
  | 11 => if x.haltOnFault then 1 else 0
  | 12 => x.pumpIdleOff
  | 13 => x.jogTime
  | 14 => x.jogRetries
  | _ => 0

/-- The settings with one value stored by code, the priority group apart. -/
def Settings.put (x : Settings) (code : Nat) (v : Int) : Settings :=
  match code with
  | 1 => { x with backlashMargin := v.toNat }
  | 2 => { x with reversalDwell := v.toNat }
  | 3 => { x with drawCoeff := v }
  | 4 => { x with heightTol := v.toNat }
  | 5 => { x with pedalDwell := v.toNat }
  | 6 => { x with turnClearance := v.toNat }
  | 7 => { x with knifeWarn := v.toNat }
  | 8 => { x with knifeGrace := v.toNat }
  | 9 => { x with roundRobin := decide (v = 1) }
  | 11 => { x with haltOnFault := decide (v = 1) }
  | 12 => { x with pumpIdleOff := v.toNat }
  | 13 => { x with jogTime := v.toNat }
  | 14 => { x with jogRetries := v.toNat }
  | _ => x

/-- The priority of a consumer (R132). -/
def Settings.priority (x : Settings) : Consumer → Nat
  | .cut => x.priorityCut
  | .lift => x.priorityLift
  | .turn => x.priorityTurn

/-- The limit KNIFE_WARN + KNIFE_GRACE, both read here (R122). -/
def State.knifeLimit (s : State) : Nat := s.ps.settings.knifeWarn + s.ps.settings.knifeGrace

/-! ### Conditions several chapters ask about -/

/-- A run is open while the Runner is RUNNING, HELD or FAULTED (04, 4.1). -/
def State.runOpen (s : State) : Bool :=
  match s.pr.state with
  | .running | .held | .faulted => true
  | .idle | .ready => false

/-- The gauge is busy (05, 5.1). -/
def State.gaugeBusy (s : State) : Bool :=
  match s.bg.state with
  | .referencing | .movingBack | .dwell | .approaching => true
  | .unreferenced | .standing | .fault => false

/-- A cycle handed by CUT_NOW. -/
def Cycle.isManual (c : Cycle) : Bool := decide (c.issuer = .manual)

/-- A CUT_NOW has been taken and has not yet ended (R125). -/
def State.cutNowInFlight (s : State) : Bool :=
  s.cs.manual.isSome || s.cs.cycle.any Cycle.isManual || s.cs.pendingDone.any Cycle.isManual

/-- A TURN_NOW has been taken and has not yet ended (R161). -/
def State.turnNowInFlight (s : State) : Bool := s.pt.manual.isSome

/-- A CUT_NOW or TURN_NOW has been taken and has not yet ended. -/
def State.manualInFlight (s : State) : Bool := s.cutNowInFlight || s.turnNowInFlight

/-- The turner is GRIPPING, TURNING or RELEASING. -/
def State.turnerMoving (s : State) : Bool :=
  match s.pt.state with
  | .gripping | .turning | .releasing => true
  | .parked | .interrupted | .fault => false

/-- The cycle in hand is at the Runner's hold point in a cut: ARMED, GRANT_WAIT or PRECLAMPED (R83). -/
def State.cutAtHoldPoint (s : State) : Bool :=
  match s.cs.state with
  | .armed | .grantWait | .preclamped => true
  | _ => false

/-- The cycle in hand is past its hold point: CLAMPING, CUTTING, RETURNING or ABORT_RETURN. -/
def State.cutPastHoldPoint (s : State) : Bool :=
  match s.cs.state with
  | .clamping | .cutting | .returning | .abortReturn => true
  | _ => false

/-- A gauge move of the run is in flight. -/
def State.runnerMoveInFlight (s : State) : Bool :=
  s.gaugeBusy && s.bg.move.any fun m => decide (m.issuer = .runner)

/-- The load id of the open load, 0 when none is open. -/
def State.loadId (s : State) : Nat :=
  match s.gt.openLoad with
  | some o => o.id
  | none => 0

end Sys2Proof.Machine
end

