-- ==== Sys2Proof/Machine/Flags.lean ====
section
/-! DEFINITION. The effective values of the safety inputs (R165), the conditions made of them (R169), and every flag
byte the link reports (Tables 13, 38, 61). -/

namespace Sys2Proof.Machine

/-- An input is unsafe when a channel reads unsafe or its discrepancy latch is set (R165). -/
def SafetyInput.atUnsafe (x : SafetyInput) : Bool := x.a || x.b || x.latch

/-- The two channels disagree (R166). -/
def SafetyInput.disagree (x : SafetyInput) : Bool := x.a != x.b

/-- An input of the monitor by its name. -/
def Monitor.input (m : Monitor) : SafetyIn → SafetyInput
  | .twoHandLeft => m.twoHandLeft
  | .twoHandRight => m.twoHandRight
  | .lightCurtain => m.lightCurtain
  | .emergencyStop => m.emergencyStop
  | .rearGuard => m.rearGuard
  | .bladeKey => m.bladeKey

/-- The monitor with one input replaced. -/
def Monitor.setInput (m : Monitor) (i : SafetyIn) (x : SafetyInput) : Monitor :=
  match i with
  | .twoHandLeft => { m with twoHandLeft := x }
  | .twoHandRight => { m with twoHandRight := x }
  | .lightCurtain => { m with lightCurtain := x }
  | .emergencyStop => { m with emergencyStop := x }
  | .rearGuard => { m with rearGuard := x }
  | .bladeKey => { m with bladeKey := x }

/-- LIGHT_CURTAIN, REAR_GUARD and BLADE_KEY are permissive and the emergency-stop latch is clear (R169). -/
def Monitor.clampConditions (m : Monitor) : Bool :=
  !m.lightCurtain.atUnsafe && !m.rearGuard.atUnsafe && !m.bladeKey.atUnsafe && !m.estopLatch

/-- The rear guard is open, or treated as open. -/
def State.guardOpen (s : State) : Bool := s.sm.rearGuard.atUnsafe

/-- The blade key is on, or treated as on. -/
def State.keyOn (s : State) : Bool := s.sm.bladeKey.atUnsafe

/-- The safety flags (Table 13, offset 40). -/
def Monitor.flags (m : Monitor) : Byte :=
  flagByte
    [m.estopLatch, m.permission, !m.lightCurtain.atUnsafe, !m.rearGuard.atUnsafe, m.bladeKey.atUnsafe,
      m.twoHandLeft.latch || m.twoHandRight.latch || m.lightCurtain.latch || m.emergencyStop.latch ||
        m.rearGuard.latch || m.bladeKey.latch]

/-- The discrepancy latches (Table 13, offset 41). -/
def Monitor.latches (m : Monitor) : Byte :=
  flagByte
    [m.twoHandLeft.latch, m.twoHandRight.latch, m.lightCurtain.latch, m.emergencyStop.latch, m.rearGuard.latch,
      m.bladeKey.latch]

/-- The channel readings (Table 61, offset 4), two bytes. -/
def Monitor.channels (m : Monitor) : List Byte :=
  [flagByte
      [m.twoHandLeft.a, m.twoHandLeft.b, m.twoHandRight.a, m.twoHandRight.b, m.lightCurtain.a, m.lightCurtain.b,
        m.emergencyStop.a, m.emergencyStop.b],
    flagByte [m.rearGuard.a, m.rearGuard.b, m.bladeKey.a, m.bladeKey.b]]

/-- The line and load flags (Table 13, offset 6). -/
def State.lineLoadFlags (s : State) : Byte :=
  flagByte
    [s.pr.lineHalt, s.pr.fault.isSome, s.pr.second, s.ps.window.isSome, s.gt.openLoad.isSome, s.cs.warn,
      s.bg.referenced, s.bg.inPos]

/-- The gauge flags (Table 13, offset 20). -/
def Gauge.flags (g : Gauge) : Byte := flagByte [decide (g.dir = .backward), g.slot.isSome]

/-- The supply flags (Table 13, offset 27). -/
def Supply.flags (h : Supply) : Byte := flagByte [h.enable, h.reqCut, h.reqLift, h.reqTurn]

/-- The flags of a RUN_STATE notice (Table 38, offset 11). -/
def Runner.flags (r : Runner) : Byte := flagByte [r.lineHalt, r.fault.isSome]

end Sys2Proof.Machine
end

