-- ==== Sys2Proof/Machine/Link.lean ====
section
/-! DEFINITION. The frame check (R1), the receiver (R2, R3), the notice queue (R9) and the transmit line (R10). -/

namespace Sys2Proof.Machine

/-! ### The frame and its check -/

/-- `n` shifts of the check register with generator 1021h (R1). -/
def crcShifts : Nat → BitVec 16 → BitVec 16
  | 0, c => c
  | n + 1, c => crcShifts n (if c.msb then (c <<< 1) ^^^ 0x1021#16 else c <<< 1)

/-- One byte into the check register, most significant bit first (R1). -/
def crcByte (c : BitVec 16) (b : Byte) : BitVec 16 := crcShifts 8 (c ^^^ (b.zeroExtend 16 <<< 8))

/-- The check of a run of bytes, from FFFFh (R1). -/
def crc (bs : List Byte) : BitVec 16 := bs.foldl crcByte 0xFFFF#16

/-- The bytes a frame's check covers: kind, tag, length, body (Table 8). -/
def Frame.covered (f : Frame) : List Byte := f.kind :: f.tag :: byteOf f.body.length :: f.body

/-- The bytes of a frame on the line: start byte, covered bytes, check low byte first (Table 8). -/
def Frame.wire (f : Frame) : List Byte := 0xA5 :: (f.covered ++ leBytes 2 (crc f.covered).toNat)

/-! ### The receiver -/

/-- HUNTING, a byte arrives: A5h begins a frame (R2). -/
def hunt (byte : Byte) (framingError : Bool) : Receiver :=
  if byte = 0xA5 ∧ framingError = false then .assembling [] else .hunting

/-- What the receiver does with the bytes collected: go on, or end the frame, good or not (R2, R3). -/
def assemble (got : List Byte) : Receiver × Option Frame :=
  match got with
  | kind :: tag :: len :: rest =>
    if Config.maxBody < len.toNat then (.hunting, none)
    else if rest.length = len.toNat + 2 then
      let body := rest.take len.toNat
      if (crc (kind :: tag :: len :: body)).toNat = leNat (rest.drop len.toNat) then
        (.hunting, some ⟨kind, tag, body⟩)
      else (.hunting, none)
    else (.assembling got, none)
  | _ => (.assembling got, none)

/-- A byte reaches the receiver after `gap` ms, perhaps with a framing error (R2, R3): the receiver after it, and
the good frame it ends, if it ends one. -/
def receive (r : Receiver) (byte : Byte) (gap : Nat) (framingError : Bool) : Receiver × Option Frame :=
  match r with
  | .hunting => (hunt byte framingError, none)
  | .assembling got =>
    if Config.gapMs < gap then (hunt byte framingError, none)
    else if framingError then (.hunting, none)
    else assemble (got ++ [byte])

/-! ### Notices -/

/-- Notice kinds (01, Table 10). -/
inductive NoticeKind where
  | runState | runEnd | cycle | loadDone | fault | warning | safety | infeed | gaugeDone
  deriving DecidableEq, Repr

/-- Mask position of a notice kind (Table 10). -/
def NoticeKind.position : NoticeKind → Nat
  | .runState => 0
  | .runEnd => 1
  | .cycle => 2
  | .loadDone => 3
  | .fault => 4
  | .warning => 5
  | .safety => 6
  | .infeed => 7
  | .gaugeDone => 8

/-- The frame of a notice: kind 40h plus its position, tag 0 (1.5). -/
def noticeFrame (k : NoticeKind) (body : List Byte) : Frame := ⟨0x40 + byteOf k.position, 0, body⟩

/-- A block raises a notice: discarded, queued or lost (R9). -/
def Link.raise (l : Link) (k : NoticeKind) (body : List Byte) : Link :=
  if l.mask.getLsbD k.position = false then l
  else if l.notices.length < Config.noticePlaces then { l with notices := l.notices ++ [noticeFrame k body] }
  else { l with lost := min 65535 (l.lost + 1) }

/-- A block raises a notice (R9). -/
def State.raise (s : State) (k : NoticeKind) (body : List Byte) : State := s.setLi (s.li.raise k body)

/-! ### The transmit line -/

/-- The reply of the request at the head of the receive queue, once it is ready (R5). -/
def Link.readyReply (l : Link) : Option Frame :=
  match l.queue with
  | q :: _ => q.reply
  | [] => none

/-- The next frame to send, in the order of R10; `noticeFirst` says whether its point 2 applies. -/
def Link.nextFrame (l : Link) (noticeFirst : Bool) : Option Sending :=
  match l.busy, (if noticeFirst then l.notices else []), l.readyReply, l.notices with
  | f :: _, _, _, _ => some ⟨.linkBusy, f⟩
  | [], n :: _, _, _ => some ⟨.notice, n⟩
  | [], [], some r, _ => some ⟨.reply, r⟩
  | [], [], none, n :: _ => some ⟨.notice, n⟩
  | [], [], none, [] => none

/-- A free line starts the next frame at once (R10). -/
def Link.kick (l : Link) : Link :=
  match l.line with
  | some _ => l
  | none => { l with line := l.nextFrame false }

/-- A free line starts the next frame at once (R10). -/
def State.kick (s : State) : State := s.setLi s.li.kick

/-- A good frame with 4 frames queued is dropped; its LINK_BUSY reply joins the pending list if it has room (R4). -/
def Link.dropBusy (l : Link) (f : Frame) : Link :=
  if l.busy.length < Config.queueFrames then
    { l with busy := l.busy ++ [⟨f.kind + 0x80, f.tag, [Status.linkBusy.code]⟩] }
  else l

end Sys2Proof.Machine
end

