-- ==== Sys2Proof/Machine/Tracker.lean ====
section
/-! DEFINITION. The Geometry Tracker (03): rectangles and strips, warnings, the gauge target, loads, pieces, its checks
and its three requests. -/

namespace Sys2Proof.Machine

/-! ### Rectangles (R39, Table 30) -/

/-- Length along the knife at orientation `q` (R39). -/
def Rect.len (r : Rect) (q : Fin 4) : Nat := if q.val % 2 = 0 then r.sw else r.sd

/-- Depth from the knife line at orientation `q` (R39). -/
def Rect.depth (r : Rect) (q : Fin 4) : Nat := if q.val % 2 = 0 then r.sd else r.sw

/-- Area of a rectangle (R44). -/
def Rect.area (r : Rect) : Nat := r.sw * r.sd

/-- The strip of depth `s` a cut takes from the front edge at orientation `q` (Table 30). -/
def Rect.strip (r : Rect) (q : Fin 4) (s : Nat) : Rect :=
  match q with
  | 0 => ⟨r.sx, r.sy, r.sw, s⟩
  | 1 => ⟨r.sx + r.sw - s, r.sy, s, r.sd⟩
  | 2 => ⟨r.sx, r.sy + r.sd - s, r.sw, s⟩
  | 3 => ⟨r.sx, r.sy, s, r.sd⟩

/-- The table load after a cut of strip depth `s` (Table 30). -/
def Rect.remainder (r : Rect) (q : Fin 4) (s : Nat) : Rect :=
  match q with
  | 0 => ⟨r.sx, r.sy + s, r.sw, r.sd - s⟩
  | 1 => ⟨r.sx, r.sy, r.sw - s, r.sd⟩
  | 2 => ⟨r.sx, r.sy, r.sw, r.sd - s⟩
  | 3 => ⟨r.sx + s, r.sy, r.sw - s, r.sd⟩

/-- Depth of the table load. -/
def TableLoad.depth (t : TableLoad) : Nat := t.rect.depth t.q

/-- Length of the table load. -/
def TableLoad.len (t : TableLoad) : Nat := t.rect.len t.q

/-- Depth of a piece. -/
def Piece.depth (p : Piece) : Nat := p.rect.depth p.q

/-- A rectangle on the link: sx, sy, sw, sd, 4 bytes each. -/
def Rect.bytes (r : Rect) : List Byte := leBytes 4 r.sx ++ leBytes 4 r.sy ++ leBytes 4 r.sw ++ leBytes 4 r.sd

/-- Contact position of a table load of depth `d`: the greater of D and GMIN (R57). -/
def contactPosition (d : Nat) : Int := max d Config.gmin

/-- Contact position of the load on the table. -/
def State.contactPosition (s : State) : Int :=
  match s.gt.table with
  | some t => Sys2Proof.Machine.contactPosition t.depth
  | none => Config.gmin

/-! ### Warnings (R45, Tables 27 to 29) -/

/-- Warning kinds: the load warnings of Table 27, and those of the cut station (R122, R125) and turner (R161). -/
inductive WarningKind where
  | compSaturated | heightDrift | sizeMismatch | scored | backwardApproach | noHeight
  | knifeWarnReached | cutNowEnded | turnEnded
  deriving DecidableEq, Repr

/-- Code of a warning kind (Table 27, R122, R125, R161). -/
def WarningKind.code : WarningKind → Nat
  | .compSaturated => 1
  | .heightDrift => 2
  | .sizeMismatch => 3
  | .scored => 4
  | .backwardApproach => 5
  | .noHeight => 6
  | .knifeWarnReached => 16
  | .cutNowEnded => 17
  | .turnEnded => 18

/-- Raise a WARNING notice (Table 29). -/
def State.warn (s : State) (k : WarningKind) (loadId step iter : Nat) (detail : Int) : State :=
  s.raise .warning ([byteOf k.code] ++ leBytes 2 loadId ++ [byteOf step, byteOf iter] ++ leInt 4 detail)

/-- A WARNING notice that carries no step and no iteration and enters no list. -/
def State.plainWarning (s : State) (k : WarningKind) (loadId : Nat) (detail : Int) : State :=
  s.warn k loadId 0xFF 0xFF detail

/-- An entry joins the warnings list, or the overflow count rises (R45). -/
def OpenLoad.addWarning (o : OpenLoad) (e : WarnEntry) : OpenLoad :=
  if o.warnings.length < Config.warningEntries then { o with warnings := o.warnings ++ [e] }
  else { o with overflow := min 65535 (o.overflow + 1) }

/-- The step index a load warning carries: the Runner's during a run, FFh otherwise (R45). -/
def State.warnStep (s : State) : Nat := if s.runOpen then s.pr.step else 0xFF
/-- The iteration a load warning carries (R45). -/
def State.warnIter (s : State) : Nat := if s.runOpen then s.pr.iter else 0xFF

/-- A load warning arises: list or overflow count, then one WARNING notice (R45). -/
def State.loadWarning (s : State) (k : WarningKind) (detail : Int) : State :=
  let listed :=
    match s.gt.openLoad with
    | some o => s.setGt { s.gt with openLoad := some (o.addWarning ⟨k.code, s.warnStep, s.warnIter⟩) }
    | none => s
  listed.warn k s.loadId s.warnStep s.warnIter detail

/-! ### The gauge target (3.7) -/

/-- `p` divided by 1000 to the nearest integer, an exact half away from zero (R60). -/
def roundThousandth (p : Int) : Int :=
  let m : Int := ((p.natAbs + 500) / 1000 : Nat)
  if p < 0 then -m else m

/-- A compensation brought to within ±50 (R60). -/
def saturate (c : Int) : Int := max (-(Config.compLimit : Int)) (min (Config.compLimit : Int) c)

/-- The draw coefficient: the current program's override when present, else DRAW_COEFF (R60). -/
def State.drawCoeff (s : State) : Int :=
  match s.currentProgram with
  | some p => p.header.draw.getD s.ps.settings.drawCoeff
  | none => s.ps.settings.drawCoeff

/-- The figures of a target (R58 to R61): nominal g, compensation before and after saturation, target t, draw
coefficient k and the height used. -/
structure Target where
  nominal : Int
  raw : Int
  comp : Int
  target : Int
  draw : Int
  height : Option Nat
  deriving DecidableEq, Repr

/-- The target of a tracked cut at nominal `g` on table load `t` (R60, R61); an unknown height counts as 0. -/
def State.targetFor (s : State) (t : TableLoad) (g : Int) : Target :=
  let raw := roundThousandth (s.drawCoeff * (t.height.getD 0 : Nat))
  { nominal := g
    raw := raw
    comp := saturate raw
    target := g + saturate raw
    draw := s.drawCoeff
    height := t.height }

/-- A target outside GMIN..GMAX fails OUT_OF_TRAVEL (R61). -/
def outOfTravel (t : Int) : Bool := decide (t < Config.gmin ∨ (Config.gmax : Int) < t)

/-- The checks of a CUT iteration or a tracked CUT_NOW, in order, and the target when they pass (R55, R59 to R61). A
load whose depth is below GMIN passes when its compensation lifts the target to GMIN (log 46). -/
def State.checkCut (s : State) (d : Disposition) (g : Int) : Except (FaultKind × Int) Target :=
  match s.gt.table with
  | none => .error (.noLoad, 0)
  | some t =>
    if d = .aside ∧ Config.asidePlaces ≤ s.gt.aside.length then .error (.asideFull, Config.asidePlaces)
    else if ¬ (1 ≤ g ∧ g < t.depth) then .error (.emptyCut, g)
    else if outOfTravel (s.targetFor t g).target then .error (.outOfTravel, (s.targetFor t g).target)
    else .ok (s.targetFor t g)

/-- COMP_SATURATED arises when the compensation was saturated (R60): at each computation of a CUT iteration's target,
and for a CUT_NOW that is taken (R124). -/
def State.warnSaturated (s : State) (x : Target) : State :=
  if x.comp = x.raw then s else s.loadWarning .compSaturated x.raw

/-- The step base fixed at iteration 0: the value (ABS), or D minus the value (TRIM; D is 0 with no load) (R58). -/
def State.baseOf (s : State) (r : StepRec) : Int :=
  match r.mode with
  | .abs => r.value
  | .trim =>
    match s.gt.table with
    | some t => (t.depth : Int) - r.value
    | none => -(r.value : Int)

/-- The base iteration `iter` of the step at the Runner's position uses: fixed afresh at iteration 0, kept after
(R58). -/
def State.iterationBase (s : State) (r : StepRec) : Int :=
  if s.pr.iter = 0 then s.baseOf r
  else
    match s.gt.stepBase with
    | some b => b.base
    | none => s.baseOf r

/-! ### The other checks (R55) -/

/-- TURN's checks, and the retract position when they pass: NO_LOAD, TURN_CLEARANCE (R55, R79). -/
def State.checkTurn (s : State) : Except (FaultKind × Int) Int :=
  match s.gt.table with
  | none => .error (.noLoad, 0)
  | some t =>
    let r : Int := ((max t.len t.depth + s.ps.settings.turnClearance : Nat) : Int)
    if (Config.gmax : Int) < r then .error (.turnClearance, r) else .ok r

/-- EJECT's checks: NO_LOAD, ASIDE_FULL (R55). -/
def State.checkEject (s : State) (d : Disposition) : Except (FaultKind × Int) Unit :=
  if s.gt.table.isNone then .error (.noLoad, 0)
  else if d = .aside ∧ Config.asidePlaces ≤ s.gt.aside.length then .error (.asideFull, Config.asidePlaces)
  else .ok ()

/-- RECALL's checks, and the top piece when they pass: TABLE_OCCUPIED, ASIDE_EMPTY (R55). -/
def State.checkRecall (s : State) : Except (FaultKind × Int) Piece :=
  match s.gt.table, s.gt.aside with
  | some t, _ => .error (.tableOccupied, t.loadId)
  | none, [] => .error (.asideEmpty, 0)
  | none, p :: _ => .ok p

/-- The pile's format, when a pile record exists (R56). -/
def State.pileFormat (s : State) : Option (Nat × Nat) := s.pl.pile.map fun p => (p.w, p.ls)

/-- The current program's sheet format, when present. -/
def State.headerFormat (s : State) : Option (Nat × Nat) := s.currentProgram.bind fun p => p.header.format

/-- FORMAT_MISMATCH at a LOAD step's start: the detail when it fails (R55, Table 31). -/
def State.formatMismatch (s : State) : Option Int :=
  match s.headerFormat, s.pileFormat with
  | some f, some p => if f = p then none else some f.1
  | _, _ => none

/-- LOAD's checks at its start: TABLE_OCCUPIED, ASIDE_NOT_EMPTY, KNIFE_LIMIT, FORMAT_MISMATCH (R74). -/
def State.checkLoad (s : State) : Except (FaultKind × Int) Unit :=
  match s.gt.table with
  | some t => .error (.tableOccupied, t.loadId)
  | none =>
    if s.gt.aside ≠ [] then .error (.asideNotEmpty, s.gt.aside.length)
    else if s.knifeLimit ≤ s.cs.counter then .error (.knifeLimit, s.cs.counter)
    else
      match s.formatMismatch with
      | some d => .error (.formatMismatch, d)
      | none => .ok ()

/-- The format a ready load is prepared with: the pile's, else the header's, else none (R56). -/
def State.loadFormat (s : State) : Option (Nat × Nat) :=
  match s.pileFormat with
  | some f => some f
  | none => s.headerFormat

/-- The height a slot hands on: known or not. -/
def SlotHeight.toOption : SlotHeight → Option Nat
  | .known h => some h
  | .unknown => none
  | .pending => none

/-- The ready-load checks, and the format when they pass: FORMAT_MISMATCH, TOO_TALL, LOAD_TOO_DEEP (R55, R56). -/
def State.checkReady (s : State) : Except (FaultKind × Int) (Nat × Nat) :=
  match s.loadFormat with
  | none => .error (.formatMismatch, 0)
  | some (w, ls) =>
    if Config.hmax < s.jg.height.toOption.getD 0 then .error (.tooTall, s.jg.height.toOption.getD 0)
    else if Config.gmax < ls then .error (.loadTooDeep, ls)
    else .ok (w, ls)

/-! ### Loads -/

/-- A load opens (R42, R63): the counter's id, the format, the table load, empty accounts and warnings. -/
def State.openWith (s : State) (w ls : Nat) (q : Fin 4) (h : Option Nat) : State :=
  s.setGt
    { s.gt with
      table := some { loadId := s.gt.nextId, rect := ⟨0, 0, w, ls⟩, q := q, height := h, scored := false }
      openLoad :=
        some
          { id := s.gt.nextId
            w := w
            ls := ls
            waste := 0
            finishedArea := 0
            finishedCount := 0
            warnings := []
            overflow := 0 }
      nextId := if 65535 ≤ s.gt.nextId then 1 else s.gt.nextId + 1
      prepared := none }

/-- Warning entries on the link (Table 28). -/
def warnBytes (l : List WarnEntry) : List Byte := l.flatMap fun e => [byteOf e.kind, byteOf e.step, byteOf e.iter]

/-- Body of a LOAD_DONE notice (Table 26). -/
def OpenLoad.doneBody (o : OpenLoad) (abandoned : Bool) (areaLeft : Nat) : List Byte :=
  leBytes 2 o.id ++ [flagByte [abandoned]] ++ leBytes 4 o.w ++ leBytes 4 o.ls ++ count32 o.finishedCount ++
    count64 o.finishedArea ++ count64 o.waste ++ count64 areaLeft ++ leBytes 2 o.overflow ++
    [byteOf o.warnings.length] ++ warnBytes o.warnings

/-- The open load ends: LOAD_DONE, then no load is open (R43, R64). -/
def State.endLoad (s : State) (abandoned : Bool) (areaLeft : Nat) : State :=
  match s.gt.openLoad with
  | some o => (s.raise .loadDone (o.doneBody abandoned areaLeft)).setGt { s.gt with openLoad := none }
  | none => s

/-- Area of the table load plus the aside pieces (R64). -/
def Tracker.areaLeft (g : Tracker) : Nat :=
  (match g.table with
    | some t => t.rect.area
    | none => 0) + (g.aside.map fun p => p.rect.area).sum

/-- Detail of SIZE_MISMATCH: L × 100 000 + D, or L when that exceeds the signed field (Table 27). -/
def sizeDetail (l d : Nat) : Int := if l * 100000 + d < 2 ^ 31 then ((l * 100000 + d : Nat) : Int) else l

/-- The finished-size check of a piece (R49). -/
def State.checkSize (s : State) (l d : Nat) : State :=
  match s.currentProgram.bind fun p => p.header.finished with
  | none => s
  | some (fw, fd) =>
    if (l = fw ∧ d = fd) ∨ (l = fd ∧ d = fw) then s else s.loadWarning .sizeMismatch (sizeDetail l d)

/-- A piece is disposed of (R48, R54). -/
def State.dispose (s : State) (d : Disposition) (p : Piece) : State :=
  match d with
  | .waste =>
    s.setGt { s.gt with openLoad := s.gt.openLoad.map fun o => { o with waste := o.waste + p.rect.area } }
  | .aside => s.setGt { s.gt with aside := p :: s.gt.aside }
  | .finished =>
    (s.setGt
      { s.gt with
        openLoad :=
          s.gt.openLoad.map fun o =>
            { o with finishedCount := o.finishedCount + 1, finishedArea := o.finishedArea + p.rect.area } }).checkSize
      (p.rect.len p.q) (p.rect.depth p.q)

/-- The EJECT confirm disposes of the whole table load; the load closes when nothing of it is left (R54, R43). -/
def State.eject (s : State) (d : Disposition) : State :=
  match s.gt.table with
  | none => s
  | some t =>
    let s1 := s.dispose d ⟨t.rect, t.q, t.height, t.loadId⟩
    let s2 := s1.setGt { s1.gt with table := none }
    if s2.gt.aside = [] then s2.endLoad false 0 else s2

/-- The RECALL confirm places the top piece on the table (R52). -/
def State.recallTop (s : State) : State :=
  match s.gt.aside with
  | [] => s
  | p :: rest =>
    s.setGt
      { s.gt with
        table := some { loadId := p.loadId, rect := p.rect, q := p.q, height := p.height, scored := false }
        aside := rest }

/-- A completed turn of `n` quarters is applied to the load it was handed for (R53, R157). -/
def State.applyTurn (s : State) (tracked : Bool) (loadId n : Nat) : State :=
  match s.gt.table with
  | some t =>
    if tracked = true ∧ t.loadId = loadId then
      s.setGt { s.gt with table := some { t with q := t.q + Fin.ofNat 4 n } }
    else s
  | none => s

/-! ### The end of a cycle (R46 to R50, R65) -/

/-- Outcomes of a CYCLE notice (Table 35). -/
inductive Outcome where
  | completed | aborted | knifeTimeout
  deriving DecidableEq, Repr

/-- Code of an outcome (Table 35). -/
def Outcome.code : Outcome → Nat
  | .completed => 0
  | .aborted => 1
  | .knifeTimeout => 2

/-- Raise the CYCLE notice of a cycle (R65, Table 35). -/
def State.cycleNotice (s : State) (c : Cycle) (o : Outcome) (strip : Rect) (q : Fin 4) : State :=
  s.raise .cycle
    ([byteOf o.code, boolByte c.tracked] ++ leBytes 2 c.loadId ++ [byteOf c.step, byteOf c.iter] ++
      leInt 4 c.nominal ++ leInt 2 c.comp ++ leInt 4 c.target ++ leBytes 2 (c.measured.getD 0) ++
      heightField c.heightUsed ++ leInt 1 c.draw ++ [byteOf c.disposition.code] ++ strip.bytes ++ [byteOf q.val] ++
      leBytes 4 s.cs.counter)

/-- The empty rectangle of a CYCLE notice without a strip. -/
def Rect.zero : Rect := ⟨0, 0, 0, 0⟩

/-- The warning a clamp measurement `m` gives rise to (R47). -/
def State.warnHeight (s : State) (t : TableLoad) (m : Nat) : State :=
  match t.height with
  | none => s.loadWarning .noHeight m
  | some h =>
    if s.ps.settings.heightTol < ((m : Int) - h).natAbs then s.loadWarning .heightDrift ((m : Int) - h) else s

/-- A completed cycle on its table load: height, strip, disposition, CYCLE notice (R46). -/
def State.cutStrip (s : State) (t : TableLoad) (c : Cycle) : State :=
  let m := c.measured.getD 0
  let depth := t.depth - c.nominal.toNat
  let strip := t.rect.strip t.q depth
  let s1 := s.warnHeight t m
  let s2 :=
    s1.setGt { s1.gt with table := some { t with rect := t.rect.remainder t.q depth, height := some m } }
  (s2.dispose c.disposition ⟨strip, t.q, some m, t.loadId⟩).cycleNotice c .completed strip t.q

/-- A completed cycle reaches the tracker (R46): applied on the table load it was handed for, else only noticed. -/
def State.applyCut (s : State) (c : Cycle) : State :=
  match s.gt.table with
  | some t =>
    if c.tracked = true ∧ t.loadId = c.loadId then s.cutStrip t c else s.cycleNotice c .completed Rect.zero 0
  | none => s.cycleNotice c .completed Rect.zero 0

/-- A cycle that ended after the knife left its top without reaching bottom reaches the tracker (R50). -/
def State.applyAborted (s : State) (c : Cycle) : State :=
  let o : Outcome := if c.mark = .timedOut then .knifeTimeout else .aborted
  match s.gt.table with
  | some t =>
    if c.tracked = true ∧ t.loadId = c.loadId then
      ((s.setGt { s.gt with table := some { t with scored := true } }).loadWarning .scored c.nominal).cycleNotice
        c o Rect.zero 0
    else s.cycleNotice c o Rect.zero 0
  | none => s.cycleNotice c o Rect.zero 0

/-! ### Requests (3.8) -/

/-- A piece record of TRACK_QUERY (Table 34). -/
def Piece.bytes (p : Piece) : List Byte := p.rect.bytes ++ [byteOf p.q.val] ++ heightField p.height ++ leBytes 2 p.loadId

/-- The record TRACK_QUERY reports, from piece `first` downward (Table 34). -/
def Tracker.record (g : Tracker) (first : Nat) : List Byte :=
  let o := g.openLoad.getD ⟨0, 0, 0, 0, 0, 0, [], 0⟩
  let shown := (g.aside.drop first).take 7
  [flagByte
      [g.openLoad.isSome, g.table.isSome, g.table.any fun t => t.scored, g.table.any fun t => t.height.isSome]] ++
    leBytes 2 o.id ++ leBytes 4 o.w ++ leBytes 4 o.ls ++
    (match g.table with
      | some t => t.rect.bytes ++ [byteOf t.q.val] ++ heightField t.height
      | none => Rect.zero.bytes ++ [0] ++ leBytes 2 0) ++
    count64 o.waste ++ count64 o.finishedArea ++ count32 o.finishedCount ++ leBytes 2 o.overflow ++
    [byteOf o.warnings.length, byteOf g.aside.length, byteOf shown.length] ++ warnBytes o.warnings ++
    shown.flatMap Piece.bytes

/-- TRACK_QUERY (R62). -/
def decideTrackQuery (body : List Byte) (s : State) : State × List Byte :=
  if Config.asidePlaces < fieldAt body 0 1 then (s, [Status.badFields.code])
  else (s, Status.ok.code :: s.gt.record (fieldAt body 0 1))

/-- TRACK_DECLARE (R63). -/
def decideTrackDeclare (body : List Byte) (s : State) : State × List Byte :=
  let w := fieldAt body 0 4
  let ls := fieldAt body 4 4
  let q := fieldAt body 8 1
  let h := fieldAt body 9 2
  let r : Rect := ⟨0, 0, w, ls⟩
  match firstRefusal
      [(decide (w = 0 ∨ ls = 0 ∨ 3 < q ∨ (Config.hmax < h ∧ h ≠ 0xFFFF) ∨
          Config.gmax < r.depth (Fin.ofNat 4 q) ∨ Config.lmax < r.len (Fin.ofNat 4 q)), .badFields),
        (s.runOpen || s.gt.openLoad.isSome || decide (s.knifeLimit ≤ s.cs.counter), .badState),
        (s.manualInFlight, .busy)] with
  | some st => (s, [st.code])
  | none =>
    (s.openWith w ls (Fin.ofNat 4 q) (if h = 0xFFFF then none else some h),
      Status.ok.code :: leBytes 2 s.gt.nextId)

/-- TRACK_CLEAR (R64). -/
def decideTrackClear (s : State) : State × List Byte :=
  match firstRefusal
      [(decide (s.pr.state ≠ .idle) || s.gt.openLoad.isNone, .badState), (s.manualInFlight, .busy)] with
  | some st => (s, [st.code])
  | none =>
    let s1 := s.endLoad true s.gt.areaLeft
    (s1.setGt { s1.gt with table := none, aside := [] }, Status.ok.code :: leBytes 2 s.loadId)

end Sys2Proof.Machine
end

