-- ==== Sys2Proof/Machine/RunnerCore.lean ====
section
/-! DEFINITION. What every block needs of the Program Runner (04): RUN_STATE and RUN_END notices, fault reports, holds
and ends of a run. -/

namespace Sys2Proof.Machine

/-! ### RUN_STATE (R67) -/

/-- Body of a RUN_STATE notice (Table 38). -/
def Runner.stateBody (r : Runner) : List Byte :=
  [byteOf r.state.code, byteOf r.hold.code, byteOf r.program, byteOf r.step, byteOf r.iter, byteOf r.phase.code,
      byteOf r.mode.code] ++
    leBytes 2 r.done ++ leBytes 2 r.limit ++ [r.flags]

/-- A RUN_STATE notice is owed by the command in progress (R67, log 18). -/
def State.owe (s : State) : State := s.setPr { s.pr with noticeDue := true }

/-- The one RUN_STATE notice of a decision or completion is raised with its result (R67, log 18). -/
def State.flush (s : State) : State :=
  if s.pr.noticeDue then
    (s.raise .runState s.pr.stateBody).setPr { s.pr with noticeDue := false }
  else s

/-! ### Fault reports (R90) -/

/-- The first 11 bytes of a FAULT notice (Table 41), as CLEAR_FAULT returns them too (R92). -/
def FaultRec.bytes (f : FaultRec) : List Byte :=
  [byteOf f.kind.code, byteOf f.kind.source, byteOf f.program, byteOf f.step, byteOf f.iter] ++ leBytes 2 f.loadId ++
    leInt 4 f.detail

/-- The record of a fault reported now: the position is 0, 0, 0 when no run is open (R90). -/
def State.faultRecord (s : State) (k : FaultKind) (detail : Int) : FaultRec where
  kind := k
  program := if s.runOpen then s.pr.program else 0
  step := if s.runOpen then s.pr.step else 0
  iter := if s.runOpen then s.pr.iter else 0
  loadId := s.loadId
  detail := detail

/-- The report takes the run to FAULTED or keeps it there: an infeed fault only in INFEED_WAIT (R90). -/
def State.faultStops (s : State) (k : FaultKind) : Bool :=
  s.runOpen && (!k.isInfeed || decide (s.pr.phase = .infeedWait))

/-- The Runner's state after a fault report: record, run, halt (R90). -/
def State.faultedRunner (s : State) (k : FaultKind) (detail : Int) : Runner :=
  { s.pr with
    fault := some (s.pr.fault.getD (s.faultRecord k detail))
    second := s.pr.second || s.pr.fault.isSome
    state := if s.faultStops k then .faulted else s.pr.state
    hold := if s.faultStops k then .none else s.pr.hold
    waits := if s.faultStops k then .nothing else s.pr.waits
    noticeDue := s.pr.noticeDue || (s.faultStops k && decide (s.pr.state ≠ .faulted))
    lineHalt := s.pr.lineHalt || s.ps.settings.haltOnFault }

/-- A block reports a fault to the Runner (R90): record, run, halt, notice (Table 41; flag bit 2: log 17). -/
def State.reportFault (s : State) (k : FaultKind) (detail : Int) : State :=
  (s.setPr (s.faultedRunner k detail)).raise .fault
    ((s.faultRecord k detail).bytes ++
      [flagByte
        [s.pr.fault.isNone, s.faultStops k && decide (s.pr.state ≠ .faulted),
          s.ps.settings.haltOnFault && !s.pr.lineHalt]])

/-! ### Holds and ends -/

/-- The first standing reason to hold, if one stands (R83). -/
def State.standingReason (s : State) : Option HoldReason :=
  if s.keyOn then some .bladeChange
  else if s.pr.lineHalt then some .lineHalt
  else if s.pr.holdReq then some .hostHold
  else none

/-- The Runner goes to HELD with a reason, its phase suspended; the hold request is cleared (R83). -/
def State.toHeld (s : State) (why : HoldReason) : State :=
  s.setPr { s.pr with state := .held, hold := why, holdReq := false, waits := .nothing, noticeDue := true }

/-- The Runner goes to IDLE (R66): every field 0 but the line halt flag and the fault record; the tracker discards
its step base and prepared format. -/
def State.goIdle (s : State) : State :=
  (s.setPr
    { Runner.powerOn with
      lineHalt := s.pr.lineHalt
      fault := s.pr.fault
      second := s.pr.second
      noticeDue := true }).setGt
    { s.gt with prepared := none, stepBase := none }

/-- Reasons a run ends (Table 39). -/
inductive EndReason where
  | programEnd | stepLimit | aborted
  deriving DecidableEq, Repr

/-- Code of an end reason (Table 39). -/
def EndReason.code : EndReason → Nat
  | .programEnd => 0
  | .stepLimit => 1
  | .aborted => 2

/-- Raise RUN_END (R73, Table 39). -/
def State.runEnd (s : State) (why : EndReason) : State :=
  s.raise .runEnd
    ([byteOf why.code, byteOf s.pr.program, byteOf s.pr.step] ++ leBytes 2 s.pr.done ++
      leBytes 2 (if s.pr.limit = 0 then 0 else s.pr.limit - s.pr.done))

/-- The run ends in READY at step `step` of the current program (R73). -/
def State.endReady (s : State) (why : EndReason) (step : Nat) : State :=
  let s1 := s.runEnd why
  s1.setPr
    { s1.pr with
      state := .ready
      step := step
      iter := 0
      phase := .none
      hold := .none
      abortPending := false
      skipPending := false
      waits := .nothing
      noticeDue := true }

/-- An interrupted turn of a run that ends belongs to nobody (R159). -/
def Turner.orphan (t : Turner) : Turner :=
  if t.state = .interrupted then
    { t with
      record := t.record.map fun r => { r with issuer := if r.issuer = .runner then .nobody else r.issuer } }
  else t

/-- A RELEASE that waits for its grant asks no longer when its run ends: its turner stays INTERRUPTED (R159; log 20). -/
def Supply.forget (h : Supply) (t : Turner) : Supply :=
  { h with reqTurn := h.reqTurn && decide (t.state ≠ .interrupted) }

/-- The run ends by ABORT (R87): ABORTED recorded, FAULT notice, RUN_END, IDLE. -/
def State.abortEnd (s : State) : State :=
  let f := s.faultRecord .aborted 0
  let s1 :=
    (s.setPr
      { s.pr with
        fault := some (s.pr.fault.getD f)
        second := s.pr.second || s.pr.fault.isSome }).raise .fault
      (f.bytes ++ [flagByte [s.pr.fault.isNone, false, false]])
  let s2 := (s1.runEnd .aborted).goIdle
  (s2.setHs (s2.hs.forget s2.pt)).setPt s2.pt.orphan

end Sys2Proof.Machine
end

