-- ==== Sys2Proof/Machine/Gauge.lean ====
section
/-! DEFINITION. The Back Gauge (05): segments and dwells, approaches and retracts, referencing, GAUGE_DONE and the
manual move slot, faults and stops. -/

namespace Sys2Proof.Machine

/-! ### Segments (R97) -/

/-- The direction of a segment. -/
def Segment.dir : Segment → Direction
  | .to d _ => d
  | .offSwitches => .forward
  | .ontoSwitch => .backward

/-- The state a segment runs in (05, 5.2): both segments of the search in REFERENCING, the forward one off the switches
too (R96, R99; log 24). -/
def Segment.state : Segment → GaugeState
  | .to .forward _ => .approaching
  | .to .backward _ => .movingBack
  | .offSwitches => .referencing
  | .ontoSwitch => .referencing

/-- The state a segment is dwelled for in: REFERENCING while the switch is sought (log 24). -/
def Segment.dwellState : Segment → GaugeState
  | .to _ _ => .dwell
  | .offSwitches => .referencing
  | .ontoSwitch => .referencing

/-- A segment starts: the last direction takes its direction (R97). -/
def Gauge.startSegment (g : Gauge) (x : Segment) : Gauge :=
  { g with state := x.state, dir := x.dir, dwell := none }

/-- Before a segment: a dwell when the direction changes, else the segment at once (R97). -/
def Gauge.beginSegment (g : Gauge) (x : Segment) (dwellMs : Nat) : Gauge :=
  if x.dir = g.dir then g.startSegment x else { g with state := x.dwellState, dwell := some dwellMs }

/-- A move begins (R102): in-position cleared, its first segment begun. -/
def State.beginMove (s : State) (m : Move) (x : Segment) : State :=
  s.setBg
    (({ s.bg with inPos := false, move := some m } : Gauge).beginSegment x s.ps.settings.reversalDwell)

/-! ### Approach and retract (R100, R101, R104) -/

/-- What became of a move handed to the gauge. -/
inductive Started where
  /-- under way -/
  | moving (s : State)
  /-- completed at once; whether as a backward approach -/
  | completed (s : State) (backward : Bool)
  deriving DecidableEq, Repr

/-- The overrun position o of an approach to `t` (R100, R101). -/
def State.overrun (s : State) (t : Int) : Int := min (Config.gmax : Int) (t + s.ps.settings.backlashMargin)

/-- The motion an approach to `t` chooses: none, or its segments (R100, R101). -/
def State.approachPlan (s : State) (t : Int) : List Segment :=
  if s.bg.inPos = true ∧ s.bg.dir = .forward ∧ t = s.bg.target then []
  else if t < s.bg.actual then [.to .forward t]
  else if t < s.overrun t then [.to .backward (s.overrun t), .to .forward t]
  else if s.bg.actual < t - Config.tolerance then [.to .backward t]
  else []

/-- An approach to `t` from STANDING (R100 to R102). -/
def State.approach (s : State) (issuer : MoveIssuer) (fromSlot : Bool) (kind : MoveKind) (t : Int) : Started :=
  match s.approachPlan t with
  | [] =>
    .completed (s.setBg { s.bg with state := .standing, target := t, inPos := true, move := none, dwell := none })
      (decide (s.bg.dir = .backward))
  | x :: xs =>
    .moving ((s.setBg { s.bg with target := t }).beginMove ⟨issuer, kind, x :: xs, fromSlot, t⟩ x)

/-- A retract to `r` from STANDING (R104). -/
def State.retract (s : State) (issuer : MoveIssuer) (r : Int) : Started :=
  if s.bg.actual < r - Config.tolerance then
    .moving
      ((s.setBg { s.bg with target := r }).beginMove ⟨issuer, .retract, [.to .backward r], false, r⟩
        (.to .backward r))
  else .completed (s.setBg { s.bg with inPos := false }) false

/-- What a move handed by the Runner, the cut station or the turner finds first, if it is refused (R103). -/
inductive MoveRefusal where
  | busy | notReferenced | latch | guard
  deriving DecidableEq, Repr

/-- The gauge's check of a move handed over (R103). -/
def State.moveRefusal (s : State) : Option MoveRefusal :=
  if s.gaugeBusy then some .busy
  else if s.bg.referenced = false then some .notReferenced
  else if s.sm.estopLatch then some .latch
  else if s.guardOpen then some .guard
  else none

/-! ### GAUGE_DONE and the slot (R106, R107) -/

/-- Outcomes of GAUGE_DONE (Table 45). -/
inductive GaugeOutcome where
  | completed | stoppedGuard | stoppedEstop | stoppedReset | fault | refused (why : Status) | cancelled
  deriving DecidableEq, Repr

/-- Code of an outcome (Table 45). -/
def GaugeOutcome.code : GaugeOutcome → Nat
  | .completed => 0
  | .stoppedGuard => 1
  | .stoppedEstop => 2
  | .stoppedReset => 3
  | .fault => 4
  | .refused _ => 5
  | .cancelled => 6

/-- The refusal status byte of an outcome (Table 45). -/
def GaugeOutcome.status : GaugeOutcome → Byte
  | .refused why => why.code
  | _ => 0

/-- Raise GAUGE_DONE (R107, Table 45). -/
def State.gaugeDone (s : State) (reference : Bool) (o : GaugeOutcome) (backward fromSlot : Bool) (goal : Int) :
    State :=
  s.raise .gaugeDone
    ([boolByte reference, byteOf o.code, o.status, flagByte [backward, fromSlot, s.bg.inPos, s.bg.referenced]] ++
      leInt 4 goal ++ leInt 4 s.bg.actual)

/-- The refusals of a stored move at its start (R106), in the order of R8. -/
def State.slotRefusal (s : State) : Option Status :=
  firstRefusal
    [(s.runOpen, .owned), (s.manualInFlight || s.turnerMoving, .busy), (!s.bg.referenced, .notReferenced),
      (s.sm.estopLatch || s.guardOpen, .safetyBlocked)]

/-- The stored move, if any, starts or is refused as the operation ahead of it ends (R106). -/
def State.slotNext (s : State) : State :=
  match s.bg.slot with
  | none => s
  | some t =>
    let s1 := s.setBg { s.bg with slot := none }
    match s1.slotRefusal with
    | some why => s1.gaugeDone false (.refused why) false true t
    | none =>
      match s1.approach .gaugeMove true .approach t with
      | .moving s2 => s2
      | .completed s2 backward => s2.gaugeDone false .completed backward true t

/-- A stored move is cancelled (R106): at a gauge fault, an emergency stop and a soft reset. -/
def State.slotCancel (s : State) : State :=
  match s.bg.slot with
  | none => s
  | some t => (s.setBg { s.bg with slot := none }).gaugeDone false .cancelled false true t

/-! ### Referencing (R98, R99) -/

/-- The referencing sequence starts (R98, R99). -/
def State.startReference (s : State) : State :=
  let plan : List Segment :=
    if s.lines.refSwitch = true ∨ s.lines.rearOvertravel = true then [.offSwitches, .ontoSwitch] else [.ontoSwitch]
  (s.setBg { s.bg with referenced := false }).beginMove ⟨.gaugeReference, .reference, plan, false, Config.gmax⟩
    (plan.headD .ontoSwitch)

/-- The search segment under way (not dwelled for), if one is. -/
def State.searchSegment (s : State) : Option Segment :=
  match s.bg.move, s.bg.dwell with
  | some m, none =>
    match m.plan with
    | .offSwitches :: _ => some .offSwitches
    | .ontoSwitch :: _ => some .ontoSwitch
    | _ => none
  | _, _ => none

/-- Both switches are released on the drive-off: the search segment follows (R99). -/
def State.switchesReleased (s : State) : State :=
  if s.searchSegment = some .offSwitches ∧ s.lines.refSwitch = false ∧ s.lines.rearOvertravel = false then
    s.beginMove ⟨.gaugeReference, .reference, [.ontoSwitch], false, Config.gmax⟩ .ontoSwitch
  else s

/-- The reference switch is found on the search (R99): the count is set, the reference stands, and the approach to
GMAX begins. -/
def State.switchFound (s : State) : State :=
  if s.searchSegment = some .ontoSwitch then
    let s1 :=
      s.setBg
        { s.bg with
          zero := (Config.refPosition : Int) - s.lines.encoder
          actual := Config.refPosition
          referenced := true
          target := Config.refPosition }
    match s1.approach .gaugeReference false .reference Config.gmax with
    | .moving s2 => s2
    | .completed s2 _ => s2
  else s

/-! ### Motion under way -/

/-- The dwell has run: its segment starts (R97). -/
def State.dwellEnded (s : State) : State :=
  match s.bg.dwell, s.bg.move with
  | some _, some m =>
    match m.plan with
    | x :: _ => s.setBg (s.bg.startSegment x)
    | [] => s
  | _, _ => s

/-- The end position a positioning segment under way has reached within the tolerance, at rest (R97). -/
def State.segmentReached (s : State) : Bool :=
  match s.bg.state, s.bg.move with
  | .movingBack, some m | .approaching, some m =>
    match m.plan with
    | .to _ pos :: _ => decide ((s.bg.actual - pos).natAbs ≤ Config.tolerance)
    | _ => false
  | _, _ => false

/-- The move is at its end, STANDING; an approach is then in position, a retract not (R102, R104). -/
def State.moveCompleted (s : State) (m : Move) : State :=
  s.setBg { s.bg with state := .standing, move := none, dwell := none, inPos := decide (m.kind ≠ .retract) }

/-- A case-4 approach that completes with the last direction BACKWARD (R101). -/
def State.endedBackward (s : State) (m : Move) : Bool := decide (m.kind ≠ .retract ∧ s.bg.dir = .backward)

/-- A segment ends: the next segment begins, or the move is at its end and is answered with it (R97). -/
def State.segmentEnded (s : State) : State × Option Move :=
  match s.segmentReached, s.bg.move with
  | true, some m =>
    match m.plan with
    | _ :: x :: xs => (s.beginMove { m with plan := x :: xs } x, none)
    | _ => (s.moveCompleted m, some m)
  | _, _ => (s, none)

/-- A stop ends the move (R109, R110): UNREFERENCED while the switch is sought, else STANDING; not in position. -/
def State.gaugeStopped (s : State) : State :=
  s.setBg
    { s.bg with
      state := if s.bg.state = .referencing then .unreferenced else .standing
      move := none
      dwell := none
      inPos := false }

/-- The gauge enters FAULT (R108). -/
def State.gaugeFaulted (s : State) : State :=
  s.setBg { s.bg with state := .fault, referenced := false, inPos := false, move := none, dwell := none }

/-- The axis is under servo control (R108). -/
def State.servoed (s : State) : Bool :=
  match s.bg.state with
  | .referencing | .movingBack | .dwell | .approaching => true
  | .standing => s.bg.referenced
  | .unreferenced | .fault => false

/-- In STANDING the actual position has left the target by more than 2: in-position is cleared (R102). -/
def State.positionLost (s : State) : State :=
  if s.bg.state = .standing ∧ Config.tolerance < (s.bg.actual - s.bg.target).natAbs then
    s.setBg { s.bg with inPos := false }
  else s

/-! ### Backward approaches (R101) -/

/-- A backward approach of the Runner or of a tracked manual operation is a load warning; of an untracked manual cut,
a plain notice (R101). -/
def State.warnBackward (s : State) (backward tracked : Bool) (t : Int) : State :=
  if backward then
    if tracked then s.loadWarning .backwardApproach t else s.plainWarning .backwardApproach 0 t
  else s

end Sys2Proof.Machine
end

