-- ==== Sys2Proof/Machine/Infeed.lean ====
section
/-! DEFINITION. The Pile Lift and the Jogger (08): INFEED notices, measurements, the slot's combining, jogs. -/

namespace Sys2Proof.Machine

/-! ### INFEED notices (R154) -/

/-- Events of an INFEED notice (Table 55). -/
inductive InfeedEvent where
  | pileMeasured | takeOff | liftStopped | liftFault | lowered | slotReady | slotWaitHeight | slotStopped | slotFailed
  | slotEmpty
  deriving DecidableEq, Repr

/-- Code of an INFEED event (Table 55). -/
def InfeedEvent.code : InfeedEvent → Nat
  | .pileMeasured => 1
  | .takeOff => 2
  | .liftStopped => 3
  | .liftFault => 4
  | .lowered => 5
  | .slotReady => 6
  | .slotWaitHeight => 7
  | .slotStopped => 8
  | .slotFailed => 9
  | .slotEmpty => 10

/-- The slot load height on the link (Table 13): FFFFh unknown or pending, 0 when EMPTY. -/
def Jogger.heightOnLink (j : Jogger) : Nat :=
  if j.state = .empty then 0
  else
    match j.height with
    | .known h => h
    | .unknown => 0xFFFF
    | .pending => 0xFFFF

/-- The pile record as reports show it: every field 0 when there is none (R154). -/
def Lift.shownPile (l : Lift) : Pile := l.pile.getD ⟨0, 0, 0, 0, 0, 0, 0⟩

/-- Raise an INFEED notice (R154, Table 55); `h` is the signed take-off height of a TAKE_OFF, else 0. -/
def State.infeedNotice (s : State) (e : InfeedEvent) (h : Int) : State :=
  let p := s.pl.shownPile
  s.raise .infeed
    ([byteOf e.code, byteOf s.pl.state.code, byteOf s.jg.state.code] ++ leBytes 2 s.pl.platform ++ leBytes 2 p.h0 ++
      leBytes 2 p.hc ++ leInt 2 h ++ leBytes 2 s.jg.heightOnLink ++ count16 p.loads ++ count32 p.taken ++
      count32 p.restored ++ [byteOf s.jg.cycles])

/-! ### The slot (R146 to R150) -/

/-- The slot enters a state, with the INFEED notice of its event (R149). -/
def State.slotEnter (s : State) (x : SlotState) (e : InfeedEvent) : State :=
  (s.setJg { s.jg with state := x }).infeedNotice e 0

/-- A jog starts (R148): retry count 0, vibrator on, first cycle timed. -/
def State.startJog (s : State) : State :=
  s.setJg
    { s.jg with
      state := .jogging
      retries := 0
      cycles := 1
      vibrator := true
      timer := some (s.ps.settings.jogTime * 1000) }

/-- The slot once the take-off's outcome has reached it (R149): a height, known or unknown; WAIT_HEIGHT becomes READY. -/
def Jogger.withHeight (j : Jogger) (h : SlotHeight) : Jogger :=
  match j.state with
  | .jogging | .stopped | .failed => { j with height := h }
  | .waitHeight => { j with state := .ready, height := h }
  | .empty | .ready => j

/-- The slot's own notice of an event that changed both units, after the lift's (R154). -/
def State.slotNotice (s : State) (changed : Bool) (e : InfeedEvent) : State :=
  if changed then s.infeedNotice e 0 else s

/-- The slot is emptied (R150): height 0, retry count 0, SLOT_EMPTY. -/
def State.slotEmptied (s : State) : State :=
  (s.setJg { s.jg with state := .empty, height := .known 0, retries := 0, cycles := 0 }).infeedNotice .slotEmpty 0

/-- A jog is done (R149): READY with its height, WAIT_HEIGHT while it is pending. -/
def State.jogDone (s : State) : State :=
  let s1 := s.setJg { s.jg with vibrator := false, timer := none }
  if s.jg.height = .pending then s1.slotEnter .waitHeight .slotWaitHeight else s1.slotEnter .ready .slotReady

/-- The pattern of edges not aligned: side 1, back 2 (R148). -/
def edgePattern (m : Lines) : Int := (if m.sideAligned then 0 else 1) + (if m.backAligned then 0 else 2)

/-- A jog cycle expires (R148): done, another cycle, or FAILED. -/
def State.jogExpired (s : State) : State :=
  if s.jg.state ≠ .jogging then s
  else if (edgePattern s.lines) = 0 then s.jogDone
  else if s.jg.retries < s.ps.settings.jogRetries then
    s.setJg
      { s.jg with
        retries := s.jg.retries + 1
        cycles := s.jg.cycles + 1
        timer := some (s.ps.settings.jogTime * 1000) }
  else
    ((s.setJg { s.jg with state := .failed, vibrator := false, timer := none }).reportFault .jogFailed
      (edgePattern s.lines)).infeedNotice .slotFailed 0

/-! ### Raises (R141 to R144) -/

/-- The height measured at the platform's position: TP less the platform (R141). -/
def measuredHeight (platform : Nat) : Nat := Config.transferPlane - platform

/-- An initial raise ends with measurement `m` (R143). -/
def State.initialMeasured (s : State) (m : Nat) : State :=
  (s.setPl
    { s.pl with
      state := if m = 0 then .exhausted else .atTransfer
      pile := s.pl.pile.map fun p => { p with h0 := m, hc := m } }).infeedNotice .pileMeasured 0

/-- The pile record after a take-off measured at `m` (R144). -/
def Pile.takeOff (p : Pile) (m : Nat) : Pile :=
  if m = 0 ∨ m < p.hc then { p with taken := p.taken + (p.hc - m), loads := p.loads + 1, hc := m }
  else { p with restored := p.restored + (m - p.hc), hc := m }

/-- The height the load of a take-off measured at `m` has (R144). -/
def Pile.takeOffHeight (p : Pile) (m : Nat) : SlotHeight :=
  if m = 0 ∨ m < p.hc then .known (p.hc - m) else .unknown

/-- A take-off raise ends with measurement `m` (R144): record and slot, then TAKE_OFF and the slot's notice (R154). -/
def State.takeOffMeasured (s : State) (m : Nat) : State :=
  let p := s.pl.shownPile
  ((((s.setPl
    { s.pl with
      state := if m = 0 then .exhausted else .atTransfer
      pile := s.pl.pile.map fun x => x.takeOff m }).setJg (s.jg.withHeight (p.takeOffHeight m))).infeedNotice .takeOff
    ((p.hc : Int) - m))).slotNotice (decide (s.jg.state = .waitHeight)) .slotReady

/-- A raise ends with measurement `m` (R141), the grant not yet given back. -/
def State.raiseMeasured (s : State) (m : Nat) : State :=
  let s1 := s.setPl { s.pl with raising := none, raiseTimer := none, raiseValve := false }
  match s.pl.raising with
  | some .takeOff => s1.takeOffMeasured m
  | some .initial => s1.initialMeasured m
  | none => s1

/-- The grant reaches the lift (R141): the raise timer starts, the valve opens. -/
def State.liftGranted (s : State) : State :=
  if s.pl.state = .raising then
    s.setPl { s.pl with raiseTimer := some Config.raiseMs, raiseValve := true }
  else s

/-- The lift's grant is gone for want of pressure (R142): it stays RAISING and asks again. -/
def State.liftRevoked (s : State) : State := s.setPl { s.pl with raiseTimer := none, raiseValve := false }

/-- A raise times out (R142): FAULT, no measurement; a take-off leaves the slot an unknown height (R149). -/
def State.raiseTimedOut (s : State) : State :=
  let takeOff : Bool := decide (s.pl.raising = some .takeOff)
  (((((s.setPl { s.pl with state := .fault, raising := none, raiseTimer := none, raiseValve := false }).setJg
    (if takeOff then s.jg.withHeight .unknown else s.jg)).reportFault .liftTimeout s.pl.platform).infeedNotice
      .liftFault 0)).slotNotice (takeOff && decide (s.jg.state = .waitHeight)) .slotReady

/-- The lift reaches the floor stop, or stands on it, as it is lowered (R145). -/
def State.reachedFloor (s : State) : State :=
  (s.setPl { s.pl with state := .lowered, lowerValve := false }).infeedNotice .lowered 0

/-! ### Stops and resets (R151, R152) -/

/-- The lift after an emergency stop (R151). -/
def Lift.stopped (l : Lift) : Lift :=
  match l.state with
  | .raising => { l with state := .stopped, raiseTimer := none, raiseValve := false }
  | .lowering => { l with state := .stopped, lowerValve := false }
  | _ => l

/-- The slot stopped (R151, R152): the vibrator stops, the height is kept. -/
def Jogger.stopped (j : Jogger) : Jogger := { j with state := .stopped, vibrator := false, timer := none }

/-- The lift moves, or waits to. -/
def Lift.moving (l : Lift) : Bool := decide (l.state = .raising ∨ l.state = .lowering)

/-- An emergency stop stops the slot: a jog, or a wait for the take-off it stops (R151). -/
def State.slotStops (s : State) : Bool :=
  decide (s.jg.state = .jogging ∨
    (s.jg.state = .waitHeight ∧ s.pl.state = .raising ∧ s.pl.raising = some .takeOff))

/-- An emergency stop at the infeed (R151): the lift's notice, then the slot's (R154). -/
def State.infeedEstop (s : State) : State :=
  (((s.setPl s.pl.stopped).setJg (if s.slotStops then s.jg.stopped else s.jg)).slotNotice s.pl.moving
    .liftStopped).slotNotice s.slotStops .slotStopped

/-- A soft reset at the Jogger (R152). -/
def State.jogReset (s : State) : State :=
  if s.jg.state = .jogging then (s.setJg s.jg.stopped).infeedNotice .slotStopped 0 else s

end Sys2Proof.Machine
end

