-- ==== Sys2Proof/Machine/Supply.lean ====
section
/-! DEFINITION. The Hydraulic Supply (07): the pump, requests, the grant and its arbitration, and what each consumer
does when the grant reaches it. -/

namespace Sys2Proof.Machine

/-! ### Request flags -/

/-- The request flag of a consumer (R128). -/
def Supply.requested (h : Supply) : Consumer → Bool
  | .cut => h.reqCut
  | .lift => h.reqLift
  | .turn => h.reqTurn

/-- The request flag of a consumer set or cleared. -/
def Supply.setRequest (h : Supply) (c : Consumer) (b : Bool) : Supply :=
  match c with
  | .cut => { h with reqCut := b }
  | .lift => { h with reqLift := b }
  | .turn => { h with reqTurn := b }

/-- A request flag is set. -/
def Supply.anyRequest (h : Supply) : Bool := h.reqCut || h.reqLift || h.reqTurn

/-- Every request flag cleared. -/
def Supply.noRequests (h : Supply) : Supply := { h with reqCut := false, reqLift := false, reqTurn := false }

/-! ### The pump (R129, R130) -/

/-- The pump stops into LOCKOUT (R130). -/
def Supply.stop (h : Supply) : Supply :=
  { h with
    pump := .lockout
    contactor := false
    stopPending := false
    lockoutTimer := some Config.lockoutMs
    runUpTimer := none
    idleTimer := none }

/-- The pump starts when OFF, enabled, unlatched and asked for (R129). -/
def Supply.tryStart (h : Supply) (latched : Bool) : Supply :=
  if h.pump = .off ∧ h.enable = true ∧ latched = false ∧ h.anyRequest = true then
    { h with pump := .runUp, contactor := true, runUpTimer := some Config.runUpMs }
  else h

/-- The pump starts if R129 holds. -/
def State.pumpStart (s : State) : State := s.setHs (s.hs.tryStart s.sm.estopLatch)

/-! ### Arbitration (R132) -/

/-- FIXED: the waiting consumer of the highest priority. -/
def Supply.fixedChoice (h : Supply) (x : Settings) : Option Consumer :=
  [Consumer.cut, .lift, .turn].foldl
    (fun best c =>
      if h.requested c then
        match best with
        | none => some c
        | some b => if x.priority b < x.priority c then some c else some b
      else best)
    none

/-- The cycle CUT, LIFT, TURN, CUT, starting after the last holder. -/
def cycleAfter : Option Consumer → List Consumer
  | none => [.cut, .lift, .turn]
  | some .cut => [.lift, .turn, .cut]
  | some .lift => [.turn, .cut, .lift]
  | some .turn => [.cut, .lift, .turn]

/-- ROUND_ROBIN: the first waiting consumer of the cycle. -/
def Supply.roundChoice (h : Supply) : Option Consumer := (cycleAfter h.last).find? h.requested

/-- The consumer the supply grants next, if it decides now (R132). -/
def Supply.choice (h : Supply) (x : Settings) : Option Consumer :=
  if h.pump = .ready ∧ h.enable = true ∧ h.holder = none then
    if x.roundRobin then h.roundChoice else h.fixedChoice x
  else none

/-- The supply with the grant given to a consumer (R132). -/
def Supply.grantTo (h : Supply) (c : Consumer) : Supply :=
  { h.setRequest c false with holder := some c, last := some c, idleTimer := none }

/-! ### What the grant does at its consumer -/

/-- The grant reaches the cut station (R113, R114, R126). -/
def State.csGranted (s : State) : State :=
  match s.cs.state with
  | .armed =>
    s.setCs
      { s.cs with
        state := .preclamped, clampValve := .low, pedalDwell := some (s.ps.settings.pedalDwell * 1000) }
  | .grantWait =>
    s.setCs { s.cs with state := .clamping, clampValve := .high, clampTimer := some Config.clampMs }
  | .recover => s.setCs { s.cs with knifeValve := .up, clampValve := .closed }
  | _ => s

/-- The turner's arms open and swing home under the grant (R157, R162). The drive is set to park together with the
opening valve (log 53). -/
def Turner.toPark (t : Turner) : Turner := { t with state := .releasing, gripValve := .release, rotate := .toPark }

/-- The quarters still to make are none. -/
def Turner.allMade (t : Turner) : Bool := t.record.all fun r => decide (r.commanded ≤ r.completed)

/-- The arms have closed on the load (R157): on to TURNING, and through it when no quarter is to make (R159). -/
def Turner.gripDone (t : Turner) : Turner :=
  if t.allMade then t.toPark else { t with state := .turning, rotate := .clockwise }

/-- The turn in hand was interrupted in its RELEASE (R158). -/
def Turner.releaseCut (t : Turner) : Bool := t.record.any fun r => decide (r.interrupted = some .release)

/-- The turner with its turn no longer interrupted (R159). -/
def Turner.resumed (t : Turner) : Turner :=
  { t with record := t.record.map fun r => { r with interrupted := none } }

/-- The grant reaches the turner (R157): grip, at once done when the arms are closed; or release and park, in a
RELEASE that was interrupted entering RELEASING with it (R159; log 20). -/
def State.ptGranted (s : State) : State :=
  match s.pt.state with
  | .gripping =>
    let t : Turner := { s.pt with gripValve := .close }
    s.setPt (if s.lines.gripClosed then t.gripDone else t)
  | .releasing => s.setPt s.pt.toPark
  | .interrupted => if s.pt.releaseCut then s.setPt s.pt.resumed.toPark else s
  | _ => s

/-! ### Deciding and releasing (R132, R133) -/

/-- The idle timer starts: READY, no holder, no request (R134). -/
def State.startIdle (s : State) : State := s.setHs { s.hs with idleTimer := some (s.ps.settings.pumpIdleOff * 1000) }

/-- The grant is given to CUT or TURN, if one of them is chosen; the lift's own case is `decideGrant`'s. -/
def State.grantOther (s : State) : State :=
  match s.hs.choice s.ps.settings with
  | some .cut => (s.setHs (s.hs.grantTo .cut)).csGranted
  | some .turn => (s.setHs (s.hs.grantTo .turn)).ptGranted
  | some .lift => s
  | none => s

/-- The holder is none; then a pending stop, a waiting request or the idle timer (R133), by way of `next`. -/
def State.releasedBy (s : State) (next : State → State) : State :=
  let h : Supply := { s.hs with holder := none }
  if h.stopPending then s.setHs h.stop
  else if h.anyRequest then next (s.setHs h)
  else (s.setHs h).startIdle

/-- The supply decides the grant if it can (R132). A lift whose top-of-pile sensor is already made ends its raise at
once and gives the grant back (R141). -/
def State.decideGrant (s : State) : State :=
  match s.hs.choice s.ps.settings with
  | some .lift =>
    let s1 := s.setHs (s.hs.grantTo .lift)
    if s.lines.topOfPile = true ∧ s.pl.state = .raising then
      (s1.raiseMeasured (measuredHeight s.pl.platform)).releasedBy State.grantOther
    else s1.liftGranted
  | _ => s.grantOther

/-- A consumer gives the grant back (R133). -/
def State.release (s : State) (c : Consumer) : State :=
  if s.hs.holder = some c then s.releasedBy State.decideGrant else s

/-- A consumer asks for the grant (R131): it may start the pump (R129) or be decided at once (R132). -/
def State.request (s : State) (c : Consumer) : State :=
  if s.hs.requested c = true ∨ s.hs.holder = some c then s
  else
    let s1 := s.setHs (s.hs.setRequest c true)
    match s.hs.pump with
    | .off => s1.pumpStart
    | .ready => (s1.setHs { s1.hs with idleTimer := none }).decideGrant
    | _ => s1

/-- A consumer gives up asking (R131). -/
def State.withdrawRequest (s : State) (c : Consumer) : State := s.setHs (s.hs.setRequest c false)

/-- A consumer gives up asking, or gives the grant back when it holds it. -/
def State.giveUp (s : State) (c : Consumer) : State := (s.withdrawRequest c).release c

/-! ### The pump's timers and requests -/

/-- The run-up expires (R129). -/
def State.runUpExpired (s : State) : State :=
  if s.hs.pump ≠ .runUp then s
  else if s.lines.pressureOk then
    let s1 := s.setHs { s.hs with pump := .ready, runUpTimer := none }
    if s1.hs.anyRequest then s1.decideGrant else s1.startIdle
  else
    (s.setHs { s.hs with pump := .fault, contactor := false, runUpTimer := none }).reportFault .pumpFault 0

/-- The lockout expires (R130). -/
def State.lockoutExpired (s : State) : State :=
  if s.hs.pump ≠ .lockout then s else (s.setHs { s.hs with pump := .off, lockoutTimer := none }).pumpStart

/-- The idle timer expires (R134). -/
def State.idleExpired (s : State) : State :=
  match s.hs.idleTimer with
  | some _ => if s.hs.pump = .ready ∧ s.hs.holder = none then s.setHs s.hs.stop else s
  | none => s

/-- The reply of PUMP_ON and PUMP_OFF (R136). -/
def Supply.reply (h : Supply) : List Byte :=
  [Status.ok.code, byteOf h.pump.code, h.flags, byteOf (holderCode h.holder), boolByte h.stopPending]

/-- PUMP_ON (R136). -/
def decidePumpOn (s : State) : State × List Byte :=
  let h := s.hs
  let s1 :=
    if h.enable then s
    else
      let on : Supply := { h with enable := true }
      match h.pump with
      | .ready => s.setHs { on with stopPending := false }
      | .off => (s.setHs on).pumpStart
      | _ => s.setHs on
  (s1, s1.hs.reply)

/-- PUMP_OFF (R136). -/
def decidePumpOff (s : State) : State × List Byte :=
  let h := s.hs
  let s1 :=
    if h.enable = false then s
    else
      let off : Supply := { h with enable := false }
      match h.pump, h.holder with
      | .ready, none => s.setHs off.stop
      | .ready, some _ => s.setHs { off with stopPending := true }
      | .runUp, _ => s.setHs off.stop
      | _, _ => s.setHs off
  (s1, s1.hs.reply)

/-! ### Emergency stop, soft reset, CLEAR_FAULT (R137, R138) -/

/-- The supply after an emergency stop (R137). -/
def Supply.estop (h : Supply) : Supply :=
  let h1 := if h.pump = .runUp ∨ h.pump = .ready then h.stop else h
  { h1.noRequests with holder := none, stopPending := false, idleTimer := none, runUpTimer := none }

/-- CLEAR_FAULT at the pump: FAULT goes to LOCKOUT with a fresh lockout (R138). -/
def Supply.clearFault (h : Supply) : Supply :=
  if h.pump = .fault then { h with pump := .lockout, lockoutTimer := some Config.lockoutMs } else h

/-- The supply as pressure is lost in READY (R135). -/
def Supply.pressureGone (h : Supply) : Supply :=
  { h with pump := .fault, contactor := false, idleTimer := none, stopPending := false, holder := none }

end Sys2Proof.Machine
end

