-- ==== Sys2Proof/Machine/CutStation.lean ====
section
/-! DEFINITION. The Cut Station (06) up to the end of a cycle: handing, pedal, permission and clamp conditions, clamp
and knife, withdrawals, the stroke counter, recovery. What an end does is in Machine/Ends.lean. -/

namespace Sys2Proof.Machine

/-! ### Entering states -/

/-- The knife-top and clamp-up sensors are both made. -/
def State.cutterHome (s : State) : Bool := s.lines.clampUp && s.lines.knifeTop

/-- What a station that is to become READY becomes: BLADE_CHANGE with the key on (R118, R123). -/
def State.readyState (s : State) : CutState := if s.keyOn then .bladeChange else .ready

/-- The station at rest in a state, with no cycle, its timers stopped and its valves at rest. The clamp's valves at
rest are closed, as they are for a clamp that rises (log 49). -/
def CutStation.rest (c : CutStation) (x : CutState) : CutStation :=
  { c with
    state := x
    cycle := none
    pedalDwell := none
    clampTimer := none
    knifeTimer := none
    clampValve := .closed
    knifeValve := .rest }

/-- In RECOVER without the grant the station requests it while the latch is clear (R126). -/
def State.recoverRequest (s : State) : State :=
  if s.cs.state = .recover ∧ s.sm.estopLatch = false then s.request .cut else s

/-- The cycle record marked (R117). -/
def Cycle.marked (c : Cycle) (m : CycleMark) : Cycle := { c with mark := m }

/-- The cycle in hand marked aborted. -/
def CutStation.abortedCycle (c : CutStation) : Option Cycle := c.cycle.map fun x => x.marked .aborted

/-- The station enters RECOVER from a place of rest (R123, R126, R127). -/
def State.enterRecover (s : State) : State := (s.setCs (s.cs.rest .recover)).recoverRequest

/-- The station in RECOVER with its knife stopped where it is (R121, R127): the clamp valves stay as they stand until
the grant closes them (R126). -/
def CutStation.knifeStopped (c : CutStation) : CutStation := { c.rest .recover with clampValve := c.clampValve }

/-- The knife stops where it is, and the station enters RECOVER (R121, R127). -/
def State.stopKnife (s : State) : State := (s.setCs s.cs.knifeStopped).recoverRequest

/-- RECOVER if a sensor is not made, else READY or BLADE_CHANGE (R123, R126, R127). -/
def State.homeOrRecover (s : State) : State :=
  if s.cutterHome then s.setCs (s.cs.rest s.readyState) else s.enterRecover

/-! ### Handing and withdrawal (R112, R120) -/

/-- The READY station takes a cycle into ARMED (R112). -/
def State.csTake (s : State) (c : Cycle) : State :=
  s.setCs { s.cs with state := .armed, cycle := some c, pedalCounts := !s.cs.pedal }

/-- A cycle in ARMED, GRANT_WAIT or PRECLAMPED is withdrawn (R120). -/
def State.csWithdraw (s : State) : State := (s.setCs (s.cs.rest s.readyState)).giveUp .cut

/-- The cycle returns to ARMED, still in hand (R114 to R116, R121). -/
def CutStation.backToArmed (c : CutStation) (counts : Bool) : CutStation :=
  { c with
    state := .armed
    pedalCounts := counts
    pedalDwell := none
    clampTimer := none
    clampValve := .closed }

/-! ### Pedal (R113 to R115) -/

/-- The pedal is pressed (R113, R114). -/
def State.pedalDown (s : State) : State :=
  let s1 := s.setCs { s.cs with pedal := true }
  if s.cs.state = .armed ∧ s.cs.pedalCounts = true then
    let s2 := s1.setCs { s1.cs with pedalCounts := false }
    if s.sm.clampConditions then s2.request .cut else s2
  else s1

/-- The pedal is released (R113 to R115). -/
def State.pedalUp (s : State) : State :=
  let c : CutStation := { s.cs with pedal := false }
  match s.cs.state with
  | .armed => (s.setCs { c with pedalCounts := true }).withdrawRequest .cut
  | .grantWait => s.setCs { c with pedalCounts := true }
  | .preclamped => (s.setCs (c.backToArmed true)).release .cut
  | _ => s.setCs c

/-- The PEDAL_DWELL expires (R115). -/
def State.pedalDwellExpired (s : State) : State :=
  if s.cs.state = .preclamped then (s.setCs (s.cs.backToArmed s.cs.pedalCounts)).release .cut else s

/-! ### Permission and clamp conditions (R113 to R117, R169) -/

/-- The two-hand permission rises (R113, R115). -/
def State.permissionRises (s : State) : State :=
  match s.cs.state with
  | .armed => (s.setCs { s.cs with state := .grantWait }).request .cut
  | .preclamped =>
    s.setCs
      { s.cs with
        state := .clamping, pedalDwell := none, clampValve := .high, clampTimer := some Config.clampMs }
  | _ => s

/-- One change reaches the station: a fall of the permission, a lapse of a clamp condition, or both (R169). -/
def State.permissionFalls (s : State) (fall lapse : Bool) : State :=
  match s.cs.state with
  | .armed => if lapse then s.withdrawRequest .cut else s
  | .grantWait =>
    if fall then (s.setCs { s.cs with state := .armed }).withdrawRequest .cut else s
  | .preclamped => if lapse then (s.setCs (s.cs.backToArmed s.cs.pedalCounts)).release .cut else s
  | .clamping => if fall then (s.setCs (s.cs.backToArmed (!s.cs.pedal))).release .cut else s
  | .cutting =>
    if fall then
      s.setCs
        { s.cs with
          state := .abortReturn
          knifeTimer := none
          knifeValve := .up
          cycle := s.cs.abortedCycle }
    else s
  | _ => s

/-- The blade key turns on: a READY station is in BLADE_CHANGE (R123). -/
def State.keyTurnsOn (s : State) : State :=
  if s.cs.state = .ready then s.setCs { s.cs with state := .bladeChange } else s

/-- The blade key turns off: BLADE_CHANGE is left (R123). -/
def State.keyTurnsOff (s : State) : State := if s.cs.state = .bladeChange then s.homeOrRecover else s

/-! ### Clamp and knife (R116, R117, R122) -/

/-- Full pressure: the height is measured and the knife starts down (R116). -/
def State.fullPressure (s : State) : State :=
  if s.cs.state = .clamping then
    s.setCs
      { s.cs with
        state := .cutting
        clampTimer := none
        knifeTimer := some Config.knifeMs
        knifeValve := .down
        cycle :=
          s.cs.cycle.map fun c =>
            { c with measured := some (min Config.hmax s.lines.clampHeight.toNat), leftTop := true } }
  else s

/-- A stroke is counted, and KNIFE_WARN_REACHED raised when the level is first reached (R122). -/
def State.countStroke (s : State) : State :=
  let n := min Config.strokeCeiling (s.cs.counter + 1)
  let s1 := s.setCs { s.cs with counter := n }
  if s.ps.settings.knifeWarn ≤ n ∧ s.cs.warn = false then
    (s1.setCs { s1.cs with warn := true }).plainWarning .knifeWarnReached 0 n
  else s1

/-- Bottom dead centre (R117). -/
def State.bottomReached (s : State) : State :=
  if s.cs.state = .cutting then
    (s.setCs { s.cs with state := .returning, knifeTimer := none, knifeValve := .up }).countStroke
  else s

/-- The knife times out (R117). -/
def State.knifeTimedOut (s : State) : State :=
  if s.cs.state = .cutting then
    s.setCs
      { s.cs with
        state := .abortReturn
        knifeTimer := none
        knifeValve := .up
        cycle := s.cs.cycle.map fun c => c.marked .timedOut }
  else s

/-! ### Manual cuts, BLADE_RESET, CLEAR_FAULT -/

/-- A manual cut has ended without its knife having left the top: CUT_NOW_ENDED with its cause (R125). -/
def State.cutNowEnded (s : State) (cause : Nat) : State := s.plainWarning .cutNowEnded s.loadId cause

/-- The cause that stops a manual cut at its hold point, if one stands: line halt 2, blade key 3 (R120, R125); with both
standing, line halt (log 48). -/
def State.manualStop (s : State) : Option Nat :=
  if s.pr.lineHalt then some 2 else if s.keyOn then some 3 else none

/-- BLADE_RESET (R123). -/
def decideBladeReset (s : State) : State × List Byte :=
  if s.cs.state = .bladeChange then
    (s.setCs { s.cs with counter := 0, warn := false }, Status.ok.code :: leBytes 4 s.cs.counter)
  else (s, [Status.badState.code])

/-- CLEAR_FAULT at the station (R126). -/
def State.csClearFault (s : State) : State := if s.cs.state = .fault then s.homeOrRecover else s

end Sys2Proof.Machine
end

