-- ==== Sys2Proof/Machine/Turner.lean ====
section
/-! DEFINITION. The Pile Turner (09) up to the end of a turn: handing and its checks, grip, quarters, interruption and
resumption. What an end does is in Machine/Ends.lean. -/

namespace Sys2Proof.Machine

/-- The refusals of a handing, in their order (R156). -/
inductive HandRefusal where
  | halted | safetyBlocked | guard | notReferenced | notClear
  deriving DecidableEq, Repr

/-- Checks 4 and 5 of R156: the reference, and the gauge at rest clear of `r`. -/
def State.clearRefusal (s : State) (r : Int) : Option HandRefusal :=
  if s.bg.referenced = false then some .notReferenced
  else if s.gaugeBusy = true ∨ s.bg.actual < r - Config.tolerance then some .notClear
  else none

/-- The first condition that refuses a handing or a resumption (R156, R159). -/
def State.handRefusal (s : State) (r : Int) : Option HandRefusal :=
  if s.pr.lineHalt then some .halted
  else if s.sm.estopLatch then some .safetyBlocked
  else if s.guardOpen then some .guard
  else s.clearRefusal r

/-- A GRIPPING turner with the clamp up and the knife at its top sets its TURN request (R156, R157). -/
def State.gripRequest (s : State) : State :=
  if s.pt.state = .gripping ∧ s.cutterHome = true then s.request .turn else s

/-- A handing that passed its checks is stored and GRIPPING entered (R156). -/
def State.turnTaken (s : State) (x : TurnRec) : State :=
  (s.setPt { s.pt with state := .gripping, record := some x }).gripRequest

/-- An interrupted turn whose checks passed goes on (R159): GRIPPING is re-entered; an interrupted RELEASE sets its
request and stays INTERRUPTED until the grant takes it to RELEASING (log 20). -/
def State.turnResumed (s : State) : State :=
  if s.pt.releaseCut then s.request .turn
  else (s.setPt { s.pt.resumed with state := .gripping }).gripRequest

/-- The closed feedback is made under the grant (R157). -/
def State.gripClosedMade (s : State) : State :=
  if s.pt.state = .gripping ∧ s.hs.holder = some .turn then s.setPt s.pt.gripDone else s

/-- A quarter mark in TURNING (R155, R157). -/
def State.quarterMade (s : State) : State :=
  if s.pt.state = .turning then
    let t : Turner := { s.pt with record := s.pt.record.map fun r => { r with completed := r.completed + 1 } }
    s.setPt (if t.allMade then t.toPark else t)
  else s

/-- The phase a moving turner is interrupted in (R155, R158). -/
def TurnerState.phase : TurnerState → TurnPhase
  | .turning => .rotate
  | .releasing => .release
  | _ => .grip

/-- The turner interrupted (R158): the drive stops, opening arms stop, the record keeps the phase; an issuer whose run
is gone is nobody (log 21). -/
def Turner.interrupt (t : Turner) (runOpen : Bool) : Turner :=
  { t with
    state := .interrupted
    rotate := .stopped
    gripValve := if t.state = .releasing then .rest else t.gripValve
    record :=
      t.record.map fun r =>
        { r with
          interrupted := some t.state.phase
          issuer := if r.issuer = .runner ∧ runOpen = false then .nobody else r.issuer } }

/-- The turner parked, with no turn in hand (R157). -/
def Turner.parked (t : Turner) : Turner :=
  { t with state := .parked, record := none, parkFromFault := false, gripValve := .rest, rotate := .stopped }

/-- The turner back in FAULT from a parking that was stopped (R162). -/
def Turner.parkStopped (t : Turner) : Turner :=
  { t with state := .fault, parkFromFault := false, gripValve := .rest, rotate := .stopped }

/-- TURN_ENDED with its cause (R161). -/
def State.turnEnded (s : State) (cause : Int) : State := s.plainWarning .turnEnded s.loadId cause

/-- The park sensor becomes unmade while PARKED: FAULT, NOT_PARKED (R155). -/
def State.parkLost (s : State) : State :=
  if s.pt.state = .parked then (s.setPt { s.pt with state := .fault }).reportFault .notParked 0 else s

/-- Status of a refused resumption by TURNER_PARK (R162). -/
def HandRefusal.status : HandRefusal → Status
  | .halted => .badState
  | .safetyBlocked => .safetyBlocked
  | .guard => .safetyBlocked
  | .notReferenced => .notReferenced
  | .notClear => .busy

/-- TURNER_PARK (R162). The reply carries the state the decision leaves: INTERRUPTED while a RELEASE waits for its
grant (log 20). The conditions of R162's table come before the resumption checks of R156 (log 54). -/
def decideTurnerPark (s : State) : State × List Byte :=
  let stopped : Bool := decide (s.pt.state = .interrupted)
  match firstRefusal
      [(s.runOpen, .owned),
        (!(stopped || decide (s.pt.state = .fault)) || (stopped && s.pr.lineHalt), .badState),
        (s.manualInFlight || s.gaugeBusy, .busy), (s.sm.estopLatch || s.guardOpen, .safetyBlocked)] with
  | some st => (s, [st.code])
  | none =>
    if stopped then
      match s.pt.record.bind fun r => s.handRefusal r.clearance with
      | some why => (s, [why.status.code])
      | none =>
        let s1 := s.turnResumed
        (s1, [Status.ok.code, byteOf s1.pt.state.code])
    else
      let s1 := (s.setPt { s.pt with state := .releasing, parkFromFault := true }).request .turn
      (s1, [Status.ok.code, byteOf s1.pt.state.code])

end Sys2Proof.Machine
end

