-- ==== Sys2Proof/Machine/Runner.lean ====
section
/-! DEFINITION. The Program Runner at work (04): steps and their phases, the step boundary, holds and resumption, the
ends of operations it hears of, SKIP and ABORT taking effect. -/

namespace Sys2Proof.Machine

/-! ### Small changes of the Runner -/

/-- The Runner in a phase. -/
def State.inPhase (s : State) (p : Phase) : State := s.setPr { s.pr with phase := p }

/-- The Runner enters a wait phase: one RUN_STATE (R67). -/
def State.enterWait (s : State) (p : Phase) : State := (s.inPhase p).owe

/-- A step is finished or skipped: steps done, single-step flag, next step, phase none (R66, R75, R73). -/
def State.advance (s : State) : State :=
  s.setPr
    { s.pr with
      done := min 65535 (s.pr.done + 1)
      singleStep := true
      step := s.pr.step + 1
      iter := 0
      phase := .none
      skipPending := false
      waits := .nothing
      noticeDue := true }

/-- The prepared format is discarded as the Runner leaves a step by SKIP or LOCATE (R56). -/
def State.dropPrepared (s : State) : State := s.setGt { s.gt with prepared := none }

/-- The kind of the step at the Runner's position. -/
def State.stepKind (s : State) : Option StepKind := s.currentStep.map StepRec.kind

/-- The Runner holds for a reason that stands; `none` answers that none does (R83). -/
def State.holdOr (s : State) (next : State → State) : State :=
  match s.standingReason with
  | some why => s.toHeld why
  | none => next s

/-! ### Handing operations (R75, R79, R103, R156) -/

/-- The cycle of the iteration's figures is handed to the station, when it is READY (R75, R112; log 19). -/
def State.handCycle (s : State) : State :=
  match s.pr.figures with
  | some c =>
    if s.cs.state = .ready then (s.setPr { s.pr with phase := .cutting, waits := .nothing }).csTake c
    else s.setPr { s.pr with phase := .cutting, waits := .cycle }
  | none => s

/-- A POSITIONING approach is complete: the hold point before the cycle is handed (R75, R83). -/
def State.positioned (s : State) : State := s.holdOr State.handCycle

/-- The gauge's answer to a move the Runner handed it (R103, R85). -/
def State.runnerMove (s : State) (start : State → Started) (done : State → Bool → State) : State :=
  match s.moveRefusal with
  | some .busy => s.setPr { s.pr with waits := .move }
  | some .notReferenced => s.reportFault .notReferenced 0
  | some .latch => s
  | some .guard => s.toHeld .guardOpen
  | none =>
    match start (s.setPr { s.pr with waits := .nothing }) with
    | .moving s1 => s1
    | .completed s1 backward => done s1 backward

/-- The turn of the step in progress is handed to the turner, or resumed there (R79, R156, R159). -/
def State.handTurn (s : State) : State :=
  let resumed : Bool := decide (s.pt.state = .interrupted)
  let r : Int := if resumed then (s.pt.record.map TurnRec.clearance).getD s.pr.retractPos else s.pr.retractPos
  match s.handRefusal r with
  | some .halted => s.toHeld .lineHalt
  | some .safetyBlocked => s
  | some .guard => s.toHeld .guardOpen
  | some .notReferenced => s.reportFault .notReferenced 0
  | some .notClear =>
    (s.inPhase .retract).runnerMove (fun x => x.retract .runner r) fun x _ => x.setPr { x.pr with waits := .move }
  | none =>
    if resumed then s.turnResumed
    else if s.pt.state = .parked then
      s.turnTaken
        { issuer := .runner
          tracked := true
          loadId := s.loadId
          commanded := (s.currentStep.map StepRec.value).getD 0
          completed := 0
          clearance := r
          interrupted := none }
    else s

/-- A RETRACT is complete: PLACE_WAIT of a LOAD or RECALL step, TURNING of a TURN step (R77, R79, R80). -/
def State.retracted (s : State) : State :=
  if s.stepKind = some .turn then (s.inPhase .turning).handTurn
  else s.enterWait .placeWait

/-- The Runner hands the approach of POSITIONING (R75). -/
def State.handPositioning (s : State) : State :=
  match s.pr.figures with
  | some c =>
    s.runnerMove (fun x => x.approach .runner false .approach c.target) fun x backward =>
      (x.warnBackward backward true c.target).positioned
  | none => s

/-- The Runner hands the retract of the step in progress (R77, R79, R80). -/
def State.handRetract (s : State) : State :=
  s.runnerMove (fun x => x.retract .runner x.pr.retractPos) fun x _ => x.retracted

/-! ### Starting a step (R74 to R81) -/

/-- The cycle record with an iteration's figures (R75, R111). -/
def State.cycleOf (s : State) (r : StepRec) (x : Target) : Cycle where
  issuer := .runner
  tracked := true
  nominal := x.nominal
  comp := x.comp
  target := x.target
  draw := x.draw
  heightUsed := x.height
  disposition := r.disposition
  step := s.pr.step
  iter := s.pr.iter
  loadId := s.loadId
  measured := none
  leftTop := false
  mark := .clean

/-- An iteration that passed its checks: step base kept, figures fixed, POSITIONING entered (R58, R75). -/
def State.fixIteration (s : State) (r : StepRec) (base : Int) (x : Target) : State :=
  ((s.setGt { s.gt with stepBase := some ⟨s.pr.program, s.pr.step, base⟩ }).warnSaturated x).setPr
    { s.pr with phase := .positioning, figures := some (s.cycleOf r x) }

/-- A start check fails: the step does nothing, and the stop is at the step boundary (R74, R90). -/
def State.checkFault (s : State) (k : FaultKind) (d : Int) : State := (s.inPhase .none).reportFault k d

/-- The WARNING of a target that was computed saturated and then failed OUT_OF_TRAVEL: a CUT iteration of a run warns
each time its target is computed so (R60), and its failed check changes no record of the tracker, the warnings list
among them (R74; log 12). -/
def State.warnFailed (s : State) (g : Int) : State :=
  match s.gt.table with
  | some t =>
    let x := s.targetFor t g
    if x.comp = x.raw then s else s.warn .compSaturated s.loadId s.warnStep s.warnIter x.raw
  | none => s

/-- A CUT iteration's check has failed (R74): only one that failed OUT_OF_TRAVEL had its target computed (R60). -/
def State.iterationFault (s : State) (g : Int) (k : FaultKind) (d : Int) : State :=
  (if k = .outOfTravel then s.warnFailed g else s).checkFault k d

/-- A CUT iteration starts, or starts afresh (R74, R75, R70). -/
def State.startIteration (s : State) (r : StepRec) : State :=
  let base := s.iterationBase r
  if s.bg.referenced = false then s.checkFault .notReferenced 0
  else
    match s.checkCut r.disposition (base - s.pr.iter * r.pitch) with
    | .error (k, d) => s.iterationFault (base - s.pr.iter * r.pitch) k d
    | .ok x => (s.fixIteration r base x).handPositioning

/-- A LOAD step starts (R74, R77); the slot is looked at by `infeedLook`. -/
def State.startLoad (s : State) : State :=
  if s.bg.referenced = false then s.checkFault .notReferenced 0
  else
    match s.checkLoad with
    | .error (k, d) => s.checkFault k d
    | .ok _ => s.enterWait .infeedWait

/-- A TURN step starts (R74, R79). -/
def State.startTurn (s : State) : State :=
  if s.bg.referenced = false then s.checkFault .notReferenced 0
  else
    match s.checkTurn with
    | .error (k, d) => s.checkFault k d
    | .ok r => (s.setPr { s.pr with phase := .retract, retractPos := r }).handRetract

/-- An EJECT step starts (R74, R80). -/
def State.startEject (s : State) (d : Disposition) : State :=
  match s.checkEject d with
  | .error (k, x) => s.checkFault k x
  | .ok _ => s.enterWait .removeWait

/-- The retract position that clears a depth: the smaller of GMAX and it plus TURN_CLEARANCE (R77, R80). -/
def State.clearOf (s : State) (d : Nat) : Int := min Config.gmax (d + s.ps.settings.turnClearance : Nat)

/-- A RECALL step starts (R74, R80). -/
def State.startRecall (s : State) : State :=
  if s.bg.referenced = false then s.checkFault .notReferenced 0
  else
    match s.checkRecall with
    | .error (k, d) => s.checkFault k d
    | .ok p => (s.setPr { s.pr with phase := .retract, retractPos := s.clearOf p.depth }).handRetract

/-- The step limit is reached (R71, R81). -/
def State.limitReached (s : State) : Bool := decide (s.pr.limit ≠ 0 ∧ s.pr.done = s.pr.limit)

/-- A PAUSE step is finished as it begins (R81). -/
def State.startPause (s : State) : State :=
  let s1 := s.advance
  if s1.limitReached then s1.endReady .stepLimit s1.pr.step else s1.toHeld .programPause

/-- The step at the Runner's position begins (R71 point 5). -/
def State.startStep (s : State) : State :=
  match s.currentStep with
  | none => s
  | some r =>
    match r.kind with
    | .cut => s.startIteration r
    | .turn => s.startTurn
    | .load => s.startLoad
    | .eject => s.startEject r.disposition
    | .recall => s.startRecall
    | .pause => s.startPause

/-! ### The step boundary (R71 to R73) -/

/-- Points 3 to 5 of the step boundary (R71). -/
def State.boundaryHold (s : State) : State :=
  s.holdOr fun x =>
    if x.pr.mode = .single ∧ x.pr.singleStep = true then x.toHeld .singleDone else x.startStep

/-- Points 2 to 5 of the step boundary, by way of `next` past the limit (R71). -/
def State.boundaryLimit (s : State) (next : State → State) : State :=
  if s.limitReached then s.endReady .stepLimit s.pr.step else next s

/-- The Runner stands at the end position of its program. -/
def State.atEnd (s : State) : Bool := s.currentProgram.any fun p => decide (s.pr.step = p.steps.length)

/-- Point 1 of the step boundary at the end position: the link is read now (R72). -/
def State.followLink (s : State) (next : State → State) : State :=
  match s.currentProgram.bind fun p => p.header.link with
  | none => s.endReady .programEnd 0
  | some n =>
    match s.program n with
    | some q =>
      if q.complete then (s.setPr { s.pr with program := n, step := 0, iter := 0, noticeDue := true }).boundaryLimit next
      else s.reportFault .linkInvalid n
    | none => s.reportFault .linkInvalid n

/-- The end-of-program and step-limit points, then `next` (R71, R86). -/
def State.boundaryBy (s : State) (next : State → State) : State :=
  if s.atEnd then s.followLink next else s.boundaryLimit next

/-- The step boundary (R71). -/
def State.boundary (s : State) : State := s.boundaryBy State.boundaryHold

/-- A step of a RUNNING Runner is finished (R75). -/
def State.finishStep (s : State) : State := s.advance.boundary

/-! ### Contact (R78 to R80, R57) -/

/-- The Runner hands the contact move, and the step is finished when it completes (R78, R79, R80). -/
def State.handContact (s : State) : State :=
  (s.inPhase .contact).runnerMove (fun x => x.approach .runner false .approach x.contactPosition) fun x backward =>
    (x.warnBackward backward true x.bg.target).finishStep

/-! ### SKIP and ABORT taking effect (R86, R87) -/

/-- The step at the position is ended by SKIP (R86): on to the boundary in RUNNING, to its first two points in HELD,
and no further in FAULTED or while an emergency stop is being handed round (log 16). -/
def State.doSkip (s : State) : State :=
  let s1 := s.advance.dropPrepared
  if s.sm.estopLatch then s1
  else
    match s.pr.state with
    | .running => s1.boundary
    | .held => s1.boundaryBy id
    | _ => s1

/-- Work in flight has ended: a pending abort or skip takes effect, or else `next` follows (R86, R87). The abort ends
the run at the position and count it had: a completion that ends it moves neither first (log 47). -/
def State.afterWork (s : State) (next : State → State) : State :=
  if s.pr.abortPending then s.abortEnd
  else if s.pr.skipPending then s.doSkip
  else next s

/-! ### Ends of operations (R75, R76, R79, R85, R91) -/

/-- A hold or SINGLE_DONE between iterations is taken here, with POSITIONING suspended; or the next iteration starts
(R75, R83; log 15). -/
def State.nextIteration (s : State) (r : StepRec) : State :=
  let p := s.inPhase .positioning
  p.holdOr fun x =>
    if x.pr.mode = .single then x.toHeld .singleDone else x.startIteration r

/-- A completed cycle of the run, already applied by the tracker (R75, R91). -/
def State.runnerCycleDone (s : State) : State :=
  s.afterWork fun x =>
    match x.currentStep with
    | none => x
    | some r =>
      let y := x.setPr { x.pr with iter := x.pr.iter + 1, singleStep := true, noticeDue := true }
      if r.count ≤ y.pr.iter then (if x.pr.state = .running then y.finishStep else y.advance)
      else if x.pr.state = .running then y.nextIteration r
      else y.inPhase .positioning

/-- A cycle of the run that was aborted after its knife left the top, already applied by the tracker (R76). -/
def State.runnerCycleAborted (s : State) : State :=
  s.afterWork fun x => if x.pr.state = .running then x.toHeld .strokeAborted else x

/-- A POSITIONING approach, RETRACT or CONTACT of the run is complete (R75, R77 to R80, R91). -/
def State.runnerMoveDone (s : State) : State :=
  s.afterWork fun x =>
    match x.pr.phase, decide (x.pr.state = .running) with
    | .positioning, true => x.positioned
    | .retract, true => x.retracted
    | .contact, true => x.finishStep
    | .retract, false => if x.stepKind = some .turn then x.inPhase .turning else x.enterWait .placeWait
    | .contact, false => x.advance
    | _, _ => x

/-- A move of the run was stopped by the rear guard (R85), by an emergency stop or a fault: the pending abort ends the
run; a pending skip takes effect (log 16). -/
def State.runnerMoveStopped (s : State) (byGuard : Bool) : State :=
  if s.pr.abortPending then s.abortEnd
  else
    let s1 := if byGuard = true ∧ s.pr.state = .running then s.toHeld .guardOpen else s
    if s1.pr.skipPending then s1.doSkip else s1

/-- A turn of the run is complete, already applied by the tracker (R79, R91). -/
def State.runnerTurnDone (s : State) : State :=
  s.afterWork fun x => if x.pr.state = .running then x.handContact else x.inPhase .contact

/-- A turn of the run was interrupted (R85, R158). -/
def State.runnerTurnStopped (s : State) (byGuard : Bool) : State :=
  s.afterWork fun x => if byGuard = true ∧ x.pr.state = .running then x.toHeld .guardOpen else x

/-! ### Resumption (R70) -/

/-- The suspended phase is resumed from its start (R70). -/
def State.resume (s : State) : State :=
  match s.pr.phase with
  | .none => s.boundary
  | .positioning | .cutting =>
    match s.currentStep with
    | some r => s.startIteration r
    | none => s
  | .infeedWait | .placeWait | .removeWait => s
  | .retract => s.handRetract
  | .contact => s.handContact
  | .turning => s.handTurn

/-! ### What the Runner does as soon as it can -/

/-- A cycle of the run stands at its hold point, or waits to be handed (R83). -/
def State.runnerCycleHeld (s : State) : Bool :=
  (s.cutAtHoldPoint && s.cs.cycle.any fun c => decide (c.issuer = .runner)) || decide (s.pr.waits = .cycle)

/-- A cycle of the run at its hold point is withdrawn (R83, R86, R87). -/
def State.withdrawRunner (s : State) : State :=
  if s.cutAtHoldPoint && s.cs.cycle.any (fun c => decide (c.issuer = .runner)) then s.csWithdraw else s

/-- A cycle back in ARMED under a pending abort or skip is withdrawn, and that takes effect (log 16). -/
def State.pendingAtArmed (s : State) : State :=
  if s.runnerCycleHeld && (s.pr.abortPending || s.pr.skipPending) then s.withdrawRunner.afterWork id else s

/-- The Runner is at a hold point it waits in: a wait phase, or a cycle short of the clamp's descent (R83). -/
def State.atHoldPoint (s : State) : Bool :=
  decide (s.pr.state = .running) &&
    (match s.pr.phase with
      | .infeedWait | .placeWait | .removeWait => true
      | .cutting => s.runnerCycleHeld
      | _ => false)

/-- A standing reason at a hold point is taken at once, the cycle withdrawn first (R83). -/
def State.takeHold (s : State) : State :=
  if s.atHoldPoint then
    match s.standingReason with
    | some why => s.withdrawRunner.toHeld why
    | none => s
  else s

/-- The lift has nothing to give: EXHAUSTED or NO_PILE (R77). -/
def Lift.spent (l : Lift) : Bool := decide (l.state = .exhausted ∨ l.state = .noPile)

/-- The Runner looks at the jogger slot in INFEED_WAIT (R77). -/
def State.infeedLook (s : State) : State :=
  if s.pr.state = .running ∧ s.pr.phase = .infeedWait then
    match s.jg.state with
    | .ready =>
      match s.checkReady with
      | .error (k, d) => s.checkFault k d
      | .ok (w, ls) =>
        ((s.setGt { s.gt with prepared := some (w, ls) }).setPr
          { s.pr with phase := .retract, retractPos := s.clearOf ls }).handRetract
    | .empty => if s.pl.spent then s.toHeld .pileEmpty else s
    | _ => s
  else s

/-- What the Runner could not hand before, it hands when the unit is free (R103, log 19). -/
def State.handAgain (s : State) : State :=
  if s.pr.state ≠ .running then s
  else
    match s.pr.waits with
    | .nothing => s
    | .cycle => if s.cs.state = .ready then s.holdOr State.handCycle else s
    | .move =>
      match s.gaugeBusy, s.pr.phase with
      | false, .positioning => s.handPositioning
      | false, .retract => s.handRetract
      | false, .contact => s.handContact
      | _, _ => s

end Sys2Proof.Machine
end

