-- ==== Sys2Proof/Machine/RunRequests.lean ====
section
/-! DEFINITION. The Runner's requests (04): SELECT, RUN, HOLD, SKIP, ABORT, LOCATE by index and by label, CLEAR_FAULT,
LINE_HALT, CONFIRM. -/

namespace Sys2Proof.Machine

/-- A refusal: the status alone, and no change (R7). -/
def refuse (s : State) (st : Status) : State × List Byte := (s, [st.code])

/-- A taken request with its reply (R7). -/
def take (s : State) (rest : List Byte) : State × List Byte := (s, Status.ok.code :: rest)

/-- A program number 1..99. -/
def programNumber (n : Nat) : Bool := decide (1 ≤ n ∧ n ≤ Config.maxProgram)

/-- SELECT (R68). -/
def decideSelect (body : List Byte) (s : State) : State × List Byte :=
  let n := fieldAt body 0 1
  match firstRefusal
      [(!programNumber n, .badFields), ((s.program n).isNone, .notFound),
        ((s.program n).any fun p => !p.complete, .incomplete), (s.runOpen, .badState)] with
  | some st => refuse s st
  | none =>
    take (s.setPr { s.pr with state := .ready, program := n, step := 0, iter := 0, phase := .none, noticeDue := true })
      (leBytes 1 (((s.program n).map fun p => p.steps.length).getD 0))

/-- The turner is engaged otherwise than INTERRUPTED in a turn of this run (R69). -/
def State.turnerEngaged (s : State) : Bool :=
  match s.pt.state with
  | .parked => false
  | .interrupted => !(s.runOpen && s.pt.record.any fun r => decide (r.issuer = .runner))
  | _ => true

/-- RUN (R69, R70). -/
def decideRun (body : List Byte) (s : State) : State × List Byte :=
  let mode := fieldAt body 0 1
  let limit := fieldAt body 1 2
  match firstRefusal
      [(decide (1 < mode ∨ (mode = 1 ∧ limit ≠ 0)), .badFields),
        (decide (s.pr.state ≠ .ready ∧ s.pr.state ≠ .held) || s.pr.lineHalt || s.pr.abortPending, .badState),
        (decide (s.cs.state ≠ .ready) || s.gaugeBusy || s.bg.slot.isSome || s.turnerEngaged || s.manualInFlight,
          .busy),
        (s.sm.estopLatch || s.guardOpen, .safetyBlocked)] with
  | some st => refuse s st
  | none =>
    let s1 :=
      s.setPr
        { s.pr with
          state := .running
          mode := if mode = 1 then .single else .continuous
          limit := limit
          done := 0
          hold := .none
          holdReq := false
          singleStep := false
          noticeDue := true }
    take s1.resume []

/-- HOLD (R84). -/
def decideHold (s : State) : State × List Byte :=
  if s.pr.abortPending then refuse s .badState
  else
    match s.pr.state with
    | .running => take (s.setPr { s.pr with holdReq := true }) []
    | .held => take s []
    | _ => refuse s .badState

/-- A cycle of the run is past its hold point, or held as a pending completion (R86, log 27). -/
def State.runnerCycleInFlight (s : State) : Bool :=
  (s.cutPastHoldPoint && s.cs.cycle.any fun c => decide (c.issuer = .runner)) ||
    s.cs.pendingDone.any fun c => decide (c.issuer = .runner)

/-- The turner is GRIPPING, TURNING, RELEASING or INTERRUPTED (R86, R88). -/
def State.turnUnfinished (s : State) : Bool := s.turnerMoving || decide (s.pt.state = .interrupted)

/-- The Runner is in a wait phase. -/
def State.waiting (s : State) : Bool :=
  match s.pr.phase with
  | .infeedWait | .placeWait | .removeWait => true
  | _ => false

/-- SKIP (R86). -/
def decideSkip (s : State) : State × List Byte :=
  match firstRefusal
      [(decide (s.pr.state ≠ .running ∧ s.pr.state ≠ .held) || s.pr.abortPending || s.pr.skipPending ||
          s.turnUnfinished || s.atEnd ||
          (decide (s.stepKind ≠ some .cut ∧ s.pr.state = .running) && !s.waiting), .badState)] with
  | some st => refuse s st
  | none =>
    if s.runnerMoveInFlight || s.runnerCycleInFlight then take (s.setPr { s.pr with skipPending := true }) []
    else take s.withdrawRunner.doSkip []

/-- Work of the run that ABORT waits for (R87). -/
def State.abortWaits (s : State) : Bool :=
  s.runnerMoveInFlight || (s.turnerMoving && s.pt.record.any fun r => decide (r.issuer = .runner)) ||
    (s.cutPastHoldPoint && s.cs.cycle.any fun c => decide (c.issuer = .runner))

/-- ABORT (R87). -/
def decideAbort (s : State) : State × List Byte :=
  if s.pr.abortPending then refuse s .badState
  else
    match s.pr.state with
    | .idle => refuse s .badState
    | .ready => take s.goIdle []
    | _ =>
      if s.abortWaits then take (s.setPr { s.pr with abortPending := true }).withdrawRunner []
      else take s.withdrawRunner.abortEnd []

/-- The Runner is put at a position by LOCATE (R88). -/
def State.locateAt (s : State) (program index : Nat) : State :=
  (s.setPr
    { s.pr with
      program := program, step := index, iter := 0, phase := .none, waits := .nothing
      noticeDue := true }).dropPrepared

/-- The Runner's state or a unit forbids LOCATE: a cycle past its hold point does, whoever issued it (R88, R120), and so
does a pending completion (log 27). -/
def State.locateBarred (s : State) : Bool :=
  decide (s.pr.state ≠ .ready ∧ s.pr.state ≠ .held) || s.turnUnfinished || s.runnerMoveInFlight ||
    s.cutPastHoldPoint || s.cs.pendingDone.isSome

/-- LOCATE by index (R88). -/
def locateByIndex (program index : Nat) (follow : Nat) (s : State) : State × List Byte :=
  let steps := ((s.program program).map fun p => p.steps.length).getD 0
  match firstRefusal
      [(decide (1 < follow) || !programNumber program, .badFields), (decide (steps ≤ index), .notFound),
        ((s.program program).any fun p => !p.complete, .incomplete), (s.locateBarred, .badState)] with
  | some st => refuse s st
  | none => take (s.locateAt program index) (leBytes 1 program ++ leBytes 1 index)

/-- The first step from index `from_` carrying a label. -/
def findLabel (label from_ : Nat) (steps : List StepRec) : Option Nat :=
  ((steps.drop from_).findIdx? fun r => decide (r.label = label)).map (· + from_)

/-- The label search of R89 over at most `fuel` programs: program `n` from a step, then its links when `follow`. -/
def searchLabel (s : State) (label : Nat) (follow : Bool) : Nat → Nat → Nat → Option (Nat × Nat)
  | 0, _, _ => none
  | fuel + 1, n, from_ =>
    match s.program n with
    | none => none
    | some p =>
      match findLabel label from_ p.steps with
      | some i => some (n, i)
      | none =>
        match follow, p.header.link with
        | true, some l => if (s.program l).any Program.complete then searchLabel s label follow fuel l 0 else none
        | _, _ => none

/-- LOCATE by label (R88, R89). In IDLE it is refused with no search made. -/
def locateLabel (label follow : Nat) (s : State) : State × List Byte :=
  if ¬ (1 ≤ label ∧ label ≤ 9999) ∨ 1 < follow then refuse s .badFields
  else if s.pr.state = .idle then refuse s .badState
  else
    match searchLabel s label (decide (follow = 1)) Config.labelSpan s.pr.program (s.pr.step + 1) with
    | none => refuse s .notFound
    | some (n, i) =>
      if s.locateBarred then refuse s .badState else take (s.locateAt n i) (leBytes 1 n ++ leBytes 1 i)

/-- LOCATE (R88): by index or by label. -/
def decideLocate (body : List Byte) (s : State) : State × List Byte :=
  match fieldAt body 0 1 with
  | 0 => locateByIndex (fieldAt body 1 1) (fieldAt body 2 1) (fieldAt body 5 1) s
  | 1 => locateLabel (fieldAt body 3 2) (fieldAt body 5 1) s
  | _ => refuse s .badFields

/-- The fault record as CLEAR_FAULT returns it: 11 bytes, 0 when no fault is pending (R92). -/
def Runner.faultBytes (r : Runner) : List Byte :=
  match r.fault with
  | some f => f.bytes
  | none => List.replicate 11 0

/-- What CLEAR_FAULT does to the Runner (R92 points 1 and 2). -/
def State.runnerCleared (s : State) : State :=
  let s1 := s.setPr { s.pr with fault := none, second := false }
  if s.pr.state = .faulted then s1.toHeld .cleared else s1

/-- A FAILED slot becomes STOPPED, keeping its height (R92, R153). -/
def State.slotCleared (s : State) : State :=
  if s.jg.state = .failed then s.slotEnter .stopped .slotStopped else s

/-- A gauge in FAULT becomes UNREFERENCED (R92, R108). -/
def State.gaugeCleared (s : State) : State :=
  if s.bg.state = .fault then s.setBg { s.bg with state := .unreferenced } else s

/-- CLEAR_FAULT (R92). -/
def decideClearFault (s : State) : State × List Byte :=
  if s.sm.estopLatch then refuse s .safetyBlocked
  else
    let s1 := s.runnerCleared
    let s2 := ((s1.setHs s1.hs.clearFault).slotCleared.gaugeCleared).csClearFault
    take s2 (s.pr.faultBytes ++ [boolByte s.pr.second])

/-- LINE_HALT (R93). -/
def decideLineHalt (body : List Byte) (s : State) : State × List Byte :=
  match fieldAt body 0 1 with
  | 0 => take (s.setPr { s.pr with lineHalt := false }) [0]
  | 1 => take (s.setPr { s.pr with lineHalt := true }) [1]
  | _ => refuse s .badFields

/-- The CONFIRM of a PLACE_WAIT: a LOAD step opens the load and empties the slot, a RECALL step places the top piece;
then the contact (R78, R80). -/
def State.placed (s : State) : State :=
  match s.stepKind, s.gt.prepared with
  | some .load, some (w, ls) => ((s.openWith w ls 0 s.jg.height.toOption).slotEmptied).handContact
  | some .recall, _ => s.recallTop.handContact
  | _, _ => s

/-- The CONFIRM of a REMOVE_WAIT (R80). -/
def State.removed (s : State) : State :=
  (s.eject ((s.currentStep.map StepRec.disposition).getD .waste)).finishStep

/-- The CONFIRM of a PROGRAM_PAUSE hold (R81). -/
def State.pauseConfirmed (s : State) : State :=
  (s.setPr { s.pr with state := .running, hold := .none, singleStep := false, noticeDue := true }).boundary

/-- What a CONFIRM does now, if it acts (R82). -/
def State.confirmed (s : State) : Option State :=
  match s.pr.state, s.pr.phase, s.pr.hold with
  | .running, .placeWait, _ => some s.placed
  | .running, .removeWait, _ => some s.removed
  | .held, _, .programPause => some s.pauseConfirmed
  | _, _, _ => none

/-- CONFIRM, the request (R82). -/
def decideConfirm (s : State) : State × List Byte :=
  match s.confirmed with
  | some s1 => take s1 []
  | none => refuse s .badState

end Sys2Proof.Machine
end

