-- ==== Sys2Proof/Machine/Ends.lean ====
section
/-! DEFINITION. The ends of operations at their issuers: cycles (06, 6.3 to 6.6), gauge moves (05, 5.5 to 5.8), turns
(09, 9.2 to 9.5), raises and losses of pressure; the manual cut and the manual turn; and `settle`, what the blocks do
as soon as a command has left them able to. -/

namespace Sys2Proof.Machine

/-! ### Cycles -/

/-- A completed cycle is given to the tracker and to the Runner (R118, R75, R125). -/
def State.cycleCompleted (s : State) (c : Cycle) : State :=
  let s1 := s.applyCut c
  if c.issuer = .runner ∧ s1.runOpen = true then s1.runnerCycleDone else s1

/-- A cycle that ended after the knife left its top without completion: tracker, CYCLE notice, then the knife timeout's
fault, then the Runner (R76, R118). -/
def State.cycleAborted (s : State) (c : Cycle) : State :=
  let s1 := s.applyAborted c
  let s2 :=
    if c.mark = .timedOut then s1.reportFault .knifeTimeout (if c.tracked then c.nominal else 0) else s1
  if c.issuer = .runner ∧ s2.runOpen = true then s2.runnerCycleAborted else s2

/-- A cycle that ended before its knife left the top (R119): a manual cut ends with its cause; the Runner's own
response covers its cycle, and a pending abort or skip takes effect. -/
def State.cycleDropped (s : State) (c : Cycle) (cause : Nat) : State :=
  match c.issuer with
  | .manual => s.cutNowEnded cause
  | .runner => if s.runOpen then s.afterWork id else s

/-- A cycle cut short is reported by what its knife has done (R118, R119). -/
def State.cycleCut (s : State) (c : Option Cycle) (cause : Nat) : State :=
  match c with
  | some x => if x.leftTop then s.cycleAborted x else s.cycleDropped x cause
  | none => s

/-- The station's state after an abort return: FAULT for a timed-out cycle (R118). -/
def CutStation.timedOut (c : CutStation) : Bool := c.cycle.any fun x => decide (x.mark = .timedOut)

/-- A return ends (R118): the grant is released, the state left, the end reported. A clamp that a soft reset sent back
with the knife at its top ends before the knife left it, cause soft reset (log 30). -/
def State.returnEnded (s : State) : State :=
  match s.cs.state with
  | .returning =>
    let s1 := (s.setCs (s.cs.rest s.readyState)).release .cut
    match s.cs.cycle with
    | some c => s1.cycleCompleted c
    | none => s1
  | .abortReturn =>
    ((s.setCs (s.cs.rest (if s.cs.timedOut then .fault else s.readyState))).release .cut).cycleCut s.cs.cycle 5
  | _ => s

/-- A recovery ends (R126): the grant is released, a pending completion reported, the station READY. -/
def State.recoverEnded (s : State) : State :=
  if s.cs.state = .recover ∧ s.hs.holder = some .cut then
    let s1 := (s.setCs { s.cs.rest s.readyState with pendingDone := none }).release .cut
    match s.cs.pendingDone with
    | some c => s1.cycleCompleted c
    | none => s1
  else s

/-- The clamp times out (R116): FAULT, CLAMP_TIMEOUT, and the cycle's end (R119). -/
def State.clampTimedOut (s : State) : State :=
  if s.cs.state = .clamping then
    let s1 := ((s.setCs (s.cs.rest .fault)).release .cut).reportFault .clampTimeout Config.clampMs
    match s.cs.cycle with
    | some c => s1.cycleDropped c 6
    | none => s1
  else s

/-- The knife stops where it is and a RETURNING cycle becomes the pending completion (R121, R127), of a run that ends
under a pending abort too: the run stays open until RECOVER_END reports the cycle (R87; log 50). -/
def State.returnCut (s : State) : State := (s.setCs { s.cs with pendingDone := s.cs.cycle }).stopKnife

/-- The station's grant is gone for want of pressure (R121). -/
def State.csRevoked (s : State) : State :=
  match s.cs.state with
  | .preclamped | .clamping => s.setCs (s.cs.backToArmed (!s.cs.pedal))
  | .cutting => s.stopKnife.cycleCut s.cs.cycle 0
  | .abortReturn =>
    (if s.cs.timedOut then s.setCs (s.cs.rest .fault) else s.stopKnife).cycleCut s.cs.cycle 5
  | .returning => s.returnCut
  | .recover => (s.setCs { s.cs with knifeValve := .rest }).recoverRequest
  | _ => s

/-- A manual cut whose approach is complete and which still waits for the station ends with a cause (R125), at an
emergency stop or a soft reset too (log 19). -/
def State.waitingCutEnds (s : State) (cause : Nat) : State :=
  match s.cs.manual with
  | some m => if m.approachDone then (s.setCs { s.cs with manual := none }).cutNowEnded cause else s
  | none => s

/-- An emergency stop at the station (R127). -/
def State.csEstop (s : State) : State :=
  (match s.cs.state with
    | .armed | .grantWait | .preclamped | .clamping => s.homeOrRecover.cycleCut s.cs.cycle 4
    | .cutting => s.stopKnife.cycleCut s.cs.abortedCycle 4
    | .abortReturn =>
      (if s.cs.timedOut then s.setCs (s.cs.rest .fault) else s.stopKnife).cycleCut s.cs.cycle 4
    | .returning => s.returnCut
    | .recover => s.setCs { s.cs with knifeValve := .rest }
    | .ready | .bladeChange | .fault => s).waitingCutEnds 4

/-- A soft reset at the station (R127); the requests the supply clears are set again by `settle`. -/
def State.csReset (s : State) : State :=
  (match s.cs.state with
    | .armed | .grantWait | .preclamped => s.csWithdraw.cycleCut s.cs.cycle 5
    | .clamping =>
      s.setCs
        { s.cs with
          state := .abortReturn
          clampTimer := none
          clampValve := .closed
          cycle := s.cs.abortedCycle }
    | .cutting =>
      s.setCs
        { s.cs with
          state := .abortReturn
          knifeTimer := none
          knifeValve := .up
          cycle := s.cs.abortedCycle }
    | _ => s).waitingCutEnds 5

/-- The station withdraws what may not stay at its hold point (R120): a cycle of a Runner that is not RUNNING, a manual
cycle under a line halt or the blade key. A manual cycle that comes back to ARMED under a flag set meanwhile is withdrawn
too (log 52). -/
def State.csFollow (s : State) : State :=
  match s.cs.cycle with
  | some c =>
    if s.cutAtHoldPoint then
      match c.issuer with
      | .runner => if s.pr.state = .running then s else s.csWithdraw
      | .manual =>
        match s.manualStop with
        | some cause => s.csWithdraw.cutNowEnded cause
        | none => s
    else s
  | none => s

/-- A manual cut whose approach is complete is taken by the READY station, or ends (R125; log 19). -/
def State.manualCutNext (s : State) : State :=
  match s.cs.manual with
  | some m =>
    if m.approachDone then
      match s.manualStop with
      | some cause => (s.setCs { s.cs with manual := none }).cutNowEnded cause
      | none =>
        if s.cs.state = .ready then (s.setCs { s.cs with manual := none }).csTake m.cycle else s
    else s
  | none => s

/-- The approach of a manual cut is complete (R125 point 1). -/
def State.manualCutApproached (s : State) (backward : Bool) : State :=
  match s.cs.manual with
  | some m =>
    ((s.warnBackward backward m.cycle.tracked m.cycle.target).setCs
      { s.cs with manual := some { m with approachDone := true } }).manualCutNext
  | none => s

/-- The approach of a manual cut was refused, or ended stopped or faulted (R125 point 2). -/
def State.manualCutFailed (s : State) (cause : Nat) : State :=
  match s.cs.manual with
  | some _ => (s.setCs { s.cs with manual := none }).cutNowEnded cause
  | none => s

/-! ### Manual turns (R161, R163) -/

/-- A TURN_NOW ends with its cause (R161). -/
def State.manualTurnEnds (s : State) (cause : Int) : State :=
  match s.pt.manual with
  | some _ => (s.setPt { s.pt with manual := none }).turnEnded cause
  | none => s

/-- The cause a refused gauge move gives a TURN_NOW (R161): latch 4, guard 3, else gauge 1. -/
def MoveRefusal.turnCause : MoveRefusal → Int
  | .latch => 4
  | .guard => 3
  | .busy => 1
  | .notReferenced => 1

/-- The cause a refused handing gives a TURN_NOW (R161). -/
def HandRefusal.cause : HandRefusal → Int
  | .halted => 2
  | .safetyBlocked => 4
  | .guard => 3
  | .notReferenced => 1
  | .notClear => 1

/-- The retract of a TURN_NOW is complete: its turn is handed (R161 point 1; a turner not PARKED: log 11). -/
def State.manualTurnRetracted (s : State) : State :=
  match s.pt.manual with
  | none => s
  | some m =>
    match s.handRefusal m.clearance with
    | some why => s.manualTurnEnds why.cause
    | none =>
      if s.pt.state = .parked then
        (s.setPt { s.pt with manual := some { m with stage := .turn } }).turnTaken
          { issuer := .turnNow
            tracked := m.tracked
            loadId := m.loadId
            commanded := m.quarters
            completed := 0
            clearance := m.clearance
            interrupted := none }
      else s.manualTurnEnds (Config.notParkedCause m.clearance).toInt

/-- The contact of a TURN_NOW is complete (R161 point 4). -/
def State.manualTurnContacted (s : State) (backward : Bool) : State :=
  (s.warnBackward backward true s.bg.target).manualTurnEnds 0

/-- The turn of a TURN_NOW is complete (R161 point 3): after a soft reset or untracked it ends, else its contact. -/
def State.manualTurnMade (s : State) (m : ManualTurn) : State :=
  if m.afterReset then s.manualTurnEnds 6
  else if m.tracked = false then s.manualTurnEnds 0
  else
    let s1 := s.setPt { s.pt with manual := some { m with stage := .contact } }
    match s1.moveRefusal with
    | some why => s1.manualTurnEnds why.turnCause
    | none =>
      match s1.approach .manualTurn false .approach s1.contactPosition with
      | .moving s2 => s2
      | .completed s2 backward => s2.manualTurnContacted backward

/-- A move of a TURN_NOW is complete: its retract, or its contact (R161). -/
def State.manualTurnMoved (s : State) (backward : Bool) : State :=
  match s.pt.manual.map ManualTurn.stage with
  | some .contact => s.manualTurnContacted backward
  | _ => s.manualTurnRetracted

/-! ### Turns -/

/-- The turn is complete at its issuer (R157, R159, R161). -/
def State.turnReported (s : State) (r : TurnRec) : State :=
  match r.issuer, s.pt.manual with
  | .runner, _ => if s.runOpen then s.runnerTurnDone else s
  | .turnNow, some m => s.manualTurnMade m
  | .turnNow, none => s.turnEnded 0
  | .nobody, _ => s.turnEnded 0

/-- The park sensor is made at the end of RELEASING (R157, R162). -/
def State.parkMade (s : State) : State :=
  if s.pt.state = .releasing ∧ s.hs.holder = some .turn then
    let s1 := (s.setPt s.pt.parked).release .turn
    match s.pt.record with
    | some r => (s1.applyTurn r.tracked r.loadId r.commanded).turnReported r
    | none => s1.turnEnded 0
  else s

/-- The turner gives up its request or grant at a guard opening; at an emergency stop or a loss of pressure the supply
takes them (R158). -/
def State.turnGivenUp (s : State) (cause : Nat) : State := if cause = 3 then s.giveUp .turn else s

/-- A turn, or a parking from FAULT, is interrupted with a cause: guard 3, emergency stop 4, pressure lost 5 (R158,
R162). -/
def State.turnInterrupted (s : State) (cause : Nat) : State :=
  if s.turnerMoving then
    if s.pt.parkFromFault then ((s.setPt s.pt.parkStopped).turnGivenUp cause).turnEnded cause
    else
      let s1 := (s.setPt (s.pt.interrupt s.runOpen)).turnGivenUp cause
      match s.pt.record.map TurnRec.issuer, s.pt.manual with
      | some .runner, _ => if s.runOpen then s1.runnerTurnStopped (decide (cause = 3)) else s1
      | _, some _ => s1.manualTurnEnds cause
      | _, none => s1.turnEnded cause
  else s

/-- A soft reset at the turner (R163): the turn goes on; an interrupted turn of the run is nobody's. -/
def State.ptReset (s : State) : State :=
  s.setPt
    { s.pt.orphan with
      manual := s.pt.manual.map fun m => if m.stage = .turn then { m with afterReset := true } else m }

/-! ### Gauge moves -/

/-- How a gauge move ended. -/
inductive MoveEnd where
  | completed (backward : Bool) | guard | estop | reset | fault
  deriving DecidableEq, Repr

/-- The outcome of GAUGE_DONE for an end (R107). -/
def MoveEnd.outcome : MoveEnd → GaugeOutcome
  | .completed _ => .completed
  | .guard => .stoppedGuard
  | .estop => .stoppedEstop
  | .reset => .stoppedReset
  | .fault => .fault

/-- The cause an end short of completion gives a manual cut (R125). -/
def MoveEnd.cutCause : MoveEnd → Nat
  | .guard => 7
  | .estop => 4
  | .reset => 5
  | .completed _ => 1
  | .fault => 1

/-- The cause an end short of completion gives a manual turn (R161, R163). -/
def MoveEnd.turnCause : MoveEnd → Int
  | .guard => 3
  | .estop => 4
  | .reset => 6
  | .completed _ => 1
  | .fault => 1

/-- The stored move after the end of the operation ahead of it (R106): started, or cancelled. -/
def State.slotAfter (s : State) : MoveEnd → State
  | .completed _ => s.slotNext
  | .guard => s.slotNext
  | .estop => s.slotCancel
  | .reset => s.slotCancel
  | .fault => s.slotCancel

/-- A completed move reaches its issuer (R102, R104). -/
def State.moveDoneAt (s : State) (m : Move) (backward : Bool) : State :=
  match m.issuer with
  | .runner => if s.runOpen then (s.warnBackward backward true m.goal).runnerMoveDone else s
  | .manualCut => s.manualCutApproached backward
  | .manualTurn => s.manualTurnMoved backward
  | .gaugeMove | .gaugeReference =>
    (s.gaugeDone (decide (m.kind = .reference)) .completed backward m.fromSlot m.goal).slotNext

/-- A move ended short of completion reaches its issuer (R108 to R110). -/
def State.moveCutAt (s : State) (m : Move) (e : MoveEnd) : State :=
  match m.issuer with
  | .runner => if s.runOpen then s.runnerMoveStopped (decide (e = .guard)) else s
  | .manualCut => s.manualCutFailed e.cutCause
  | .manualTurn => s.manualTurnEnds e.turnCause
  | .gaugeMove | .gaugeReference =>
    (s.gaugeDone (decide (m.kind = .reference)) e.outcome false m.fromSlot m.goal).slotAfter e

/-- A segment ends (R97, R102, R104): the move's completion is reported. -/
def State.gaugeSegmentEnd (s : State) : State :=
  match s.segmentEnded with
  | (s1, some m) => s1.moveDoneAt m (s1.endedBackward m)
  | (s1, none) => s1

/-- The rear guard opening stops a busy gauge (R109). -/
def State.gaugeGuard (s : State) : State :=
  if s.gaugeBusy then
    match s.bg.move with
    | some m => s.gaugeStopped.moveCutAt m .guard
    | none => s.gaugeStopped
  else s

/-- A fault stops the gauge (R108): FAULT, the fault's report, the move's end, the slot cancelled. -/
def State.gaugeFault (s : State) (k : FaultKind) (detail : Int) : State :=
  let s1 := s.gaugeFaulted.reportFault k detail
  match s.bg.move with
  | some m => (s1.moveCutAt m .fault).slotCancel
  | none => s1.slotCancel

/-- An emergency stop at the gauge (R110). -/
def State.gaugeEstop (s : State) : State :=
  let s1 :=
    if s.gaugeBusy then
      match s.bg.move with
      | some m => s.gaugeStopped.moveCutAt m .estop
      | none => s.gaugeStopped
    else s.setBg { s.bg with inPos := false }
  s1.slotCancel

/-- A soft reset at the gauge (R110). -/
def State.gaugeReset (s : State) : State :=
  let s1 :=
    if s.gaugeBusy then
      match s.bg.move with
      | some m => s.gaugeStopped.moveCutAt m .reset
      | none => s.gaugeStopped
    else s
  s1.slotCancel

/-! ### Raises and pressure -/

/-- A raise under the grant ends with measurement `m` (R141). -/
def State.raiseEnded (s : State) (m : Nat) : State :=
  if s.pl.state = .raising ∧ s.hs.holder = some .lift then (s.raiseMeasured m).release .lift else s

/-- The raise timer expires (R142). -/
def State.raiseExpired (s : State) : State :=
  if s.pl.state = .raising ∧ s.hs.holder = some .lift then s.raiseTimedOut.release .lift else s

/-- The holder is told that its grant is gone for want of pressure (R135). A unit that still waits for the grant is told
nothing, a parking from FAULT (R162) neither (log 51). -/
def State.holderRevoked (s : State) : Option Consumer → State
  | some .cut => s.csRevoked
  | some .lift => s.liftRevoked
  | some .turn => s.turnInterrupted 5
  | none => s

/-- Pressure is lost in READY (R135); `faultFirst` orders the two reports at the Runner (log 37), which are separate
events there: each raises the RUN_STATE it owes (R67, log 18). -/
def State.pressureFails (s : State) (faultFirst : Bool) : State :=
  if s.hs.pump ≠ .ready then s
  else
    let s1 := s.setHs s.hs.pressureGone
    let detail : Int := holderCode s.hs.holder
    if faultFirst then (s1.reportFault .pressureLost detail).flush.holderRevoked s.hs.holder
    else (s1.holderRevoked s.hs.holder).flush.reportFault .pressureLost detail

/-! ### Settling -/

/-- The requests that units set again at once, or as soon as they can (R126, R142, R152, R156, R163). -/
def State.renewRequests (s : State) : State :=
  let s1 := s.recoverRequest
  let s2 := if s1.pl.state = .raising then s1.request .lift else s1
  if s2.pt.state = .releasing then s2.request .turn else s2.gripRequest

/-- What the blocks do at the end of every decision and event: pending ends and holds at a hold point (R83, R86, R87),
what could not be handed before (R103), the look at the slot (R77), withdrawals (R120), requests, and last the one
RUN_STATE notice (R67). -/
def State.settle (s : State) : State :=
  (((((((s.pendingAtArmed.handAgain).takeHold).infeedLook).csFollow).manualCutNext).renewRequests)).flush

end Sys2Proof.Machine
end

