-- ==== Sys2Proof/Machine/ManualRequests.lean ====
section
/-! DEFINITION. The manual requests: GAUGE_MOVE, GAUGE_REFERENCE (05), CUT_NOW (06), TURN_NOW (09), NEW_PILE, LIFT_LOWER,
JOG_START and its button (08). -/

namespace Sys2Proof.Machine

/-! ### Gauge -/

/-- GAUGE_MOVE (R105). -/
def decideGaugeMove (body : List Byte) (s : State) : State × List Byte :=
  let t := signedAt body 0 4
  let queue := fieldAt body 4 1
  match firstRefusal
      [(outOfTravel t || decide (1 < queue), .badFields), (s.runOpen, .owned),
        (s.manualInFlight || (s.gaugeBusy && (decide (queue = 0) || s.bg.slot.isSome)) || s.turnerMoving, .busy),
        (!s.bg.referenced && !s.gaugeBusy, .notReferenced),
        (s.sm.estopLatch || (s.guardOpen && !s.gaugeBusy), .safetyBlocked)] with
  | some st => refuse s st
  | none =>
    if s.gaugeBusy then take (s.setBg { s.bg with slot := some t }) [1]
    else
      match s.approach .gaugeMove false .approach t with
      | .moving s1 => take s1 [0]
      | .completed s1 backward => take (s1.gaugeDone false .completed backward false t) [0]

/-- GAUGE_REFERENCE (R98). -/
def decideGaugeReference (s : State) : State × List Byte :=
  match firstRefusal
      [(s.runOpen, .owned), (decide (s.bg.state = .fault), .badState),
        (s.gaugeBusy || s.manualInFlight || s.turnerMoving, .busy),
        (s.sm.estopLatch || s.guardOpen, .safetyBlocked)] with
  | some st => refuse s st
  | none => take s.startReference []

/-! ### CUT_NOW -/

/-- The figures of a CUT_NOW at nominal `g`: tracked as a load is open, untracked otherwise (R124, R61). -/
def State.cutNowTarget (s : State) (d : Disposition) (g : Int) : Except (FaultKind × Int) Target :=
  if s.gt.openLoad.isSome then s.checkCut d g
  else if outOfTravel g then .error (.outOfTravel, g)
  else .ok { nominal := g, raw := 0, comp := 0, target := g, draw := 0, height := none }

/-- The GT's NO_LOAD or ASIDE_FULL fails (R124). -/
def failsLoad : Except (FaultKind × Int) Target → Bool
  | .error (.noLoad, _) => true
  | .error (.asideFull, _) => true
  | _ => false

/-- Some check fails. -/
def fails : Except (FaultKind × Int) Target → Bool
  | .error _ => true
  | .ok _ => false

/-- The refusals of CUT_NOW, in the order of its own rule (R124). -/
def State.cutNowRefusal (s : State) (dispositionOk : Bool) (x : Except (FaultKind × Int) Target) : Option Status :=
  firstRefusal
    [(!dispositionOk, .badFields), (s.runOpen, .owned),
      (s.pr.lineHalt || (s.gt.openLoad.isNone && decide (s.knifeLimit ≤ s.cs.counter)) || failsLoad x, .badState),
      (decide (s.cs.state ≠ .ready) || s.manualInFlight || s.gaugeBusy || s.bg.slot.isSome ||
          decide (s.pt.state ≠ .parked), .busy),
      (!s.bg.referenced, .notReferenced), (s.sm.estopLatch || s.guardOpen, .safetyBlocked), (fails x, .badFields)]

/-- The cycle record of a manual cut (R111, R124). -/
def State.manualCycle (s : State) (d : Disposition) (x : Target) : Cycle where
  issuer := .manual
  tracked := s.gt.openLoad.isSome
  nominal := x.nominal
  comp := x.comp
  target := x.target
  draw := x.draw
  heightUsed := x.height
  disposition := d
  step := 0xFF
  iter := 0xFF
  loadId := s.loadId
  measured := none
  leftTop := false
  mark := .clean

/-- A CUT_NOW that is taken (R124, R125): its approach is handed to the gauge. -/
def State.cutNowTaken (s : State) (d : Disposition) (x : Target) : State :=
  let s1 := (s.warnSaturated x).setCs { s.cs with manual := some ⟨s.manualCycle d x, false⟩ }
  match s1.approach .manualCut false .approach x.target with
  | .moving s2 => s2
  | .completed s2 backward => s2.manualCutApproached backward

/-- CUT_NOW (R124). -/
def decideCutNow (body : List Byte) (s : State) : State × List Byte :=
  let d := Disposition.ofCode (fieldAt body 4 1)
  let x := s.cutNowTarget (d.getD .waste) (signedAt body 0 4)
  match s.cutNowRefusal d.isSome x, x with
  | some st, _ => refuse s st
  | none, .ok y => take (s.cutNowTaken (d.getD .waste) y) (leInt 4 y.target ++ leInt 2 y.comp)
  | none, .error _ => refuse s .badFields

/-! ### TURN_NOW -/

/-- The clearance position of a TURN_NOW: tracked by TURN's checks, GMAX untracked (R160). -/
def State.turnNowClearance (s : State) : Except (FaultKind × Int) Int :=
  if s.gt.openLoad.isSome then s.checkTurn else .ok Config.gmax

/-- A TURN_NOW that is taken (R160, R161): its retract is handed to the gauge. -/
def State.turnNowTaken (s : State) (n : Nat) (r : Int) : State :=
  let s1 := s.setPt { s.pt with manual := some ⟨n, r, s.gt.openLoad.isSome, s.loadId, .retract, false⟩ }
  match s1.retract .manualTurn r with
  | .moving s2 => s2
  | .completed s2 _ => s2.manualTurnRetracted

/-- TURN_NOW (R160), its refusals in the order of its own rule. -/
def decideTurnNow (body : List Byte) (s : State) : State × List Byte :=
  let n := fieldAt body 0 1
  let x := s.turnNowClearance
  match firstRefusal
      [(decide (n < 1 ∨ 3 < n), .badFields), (s.runOpen, .owned),
        (s.pr.lineHalt || !x.isOk, .badState),
        (decide (s.pt.state ≠ .parked) || s.manualInFlight || decide (s.cs.state ≠ .ready) || s.gaugeBusy ||
            s.bg.slot.isSome, .busy),
        (!s.bg.referenced, .notReferenced), (s.sm.estopLatch || s.guardOpen, .safetyBlocked)], x with
  | some st, _ => refuse s st
  | none, .ok r => take (s.turnNowTaken n r) (leInt 4 r ++ leBytes 2 s.loadId)
  | none, .error _ => refuse s .badState

/-! ### Infeed -/

/-- A raise begins (R141): RAISING, its kind recorded, the LIFT request set. -/
def State.startRaise (s : State) (k : RaiseKind) : State :=
  (s.setPl { s.pl with state := .raising, raising := some k }).request .lift

/-- NEW_PILE (R143). -/
def decideNewPile (body : List Byte) (s : State) : State × List Byte :=
  let w := fieldAt body 0 4
  let ls := fieldAt body 4 4
  let declared : Bool :=
    match s.pl.state with
    | .noPile | .lowered | .lowering => false
    | .raising | .atTransfer | .exhausted | .stopped | .fault => true
  match firstRefusal
      [(decide (w = 0 ∨ Config.lmax < w ∨ ls = 0 ∨ Config.gmax < ls), .badFields),
        (declared || s.pr.lineHalt, .badState), (decide (s.pl.state = .lowering), .busy),
        (s.sm.estopLatch, .safetyBlocked)] with
  | some st => refuse s st
  | none => take ((s.setPl { s.pl with pile := some ⟨w, ls, 0, 0, 0, 0, 0⟩ }).startRaise .initial) []

/-- The slot as LIFT_LOWER discards an interrupted take-off its height is pending for (R145). -/
def State.slotForLower (s : State) : Jogger :=
  if s.pl.raising = some .takeOff ∧ s.jg.height = .pending then s.jg.withHeight .unknown else s.jg

/-- LIFT_LOWER (R145). -/
def decideLiftLower (s : State) : State × List Byte :=
  match firstRefusal
      [(s.pl.moving || decide (s.jg.state = .waitHeight), .busy), (s.sm.estopLatch, .safetyBlocked)] with
  | some st => refuse s st
  | none =>
    let s1 :=
      (s.setPl { s.pl with state := .lowering, raising := none, pile := none, lowerValve := true }).setJg
        s.slotForLower
    take (if s.lines.floorStop then s1.reachedFloor else s1) []

/-- The floor stop is made (R145). -/
def State.floorMade (s : State) : State := if s.pl.state = .lowering then s.reachedFloor else s

/-- What a start of JOG_START does by the slot and lift states, if the table of R147 has a row for them. -/
def State.jogStarted (s : State) : Option State :=
  match s.jg.state, s.pl.state with
  | .empty, .atTransfer => some (((s.setJg { s.jg with height := .pending }).startJog).startRaise .takeOff)
  | .empty, .noPile | .empty, .exhausted | .empty, .lowering | .empty, .lowered =>
    some (s.setJg { s.jg with height := .unknown }).startJog
  | .stopped, l =>
    some
      (if s.jg.height = .pending ∧ l = .stopped ∧ s.pl.raising = some .takeOff then s.startJog.startRaise .takeOff
      else s.startJog)
  | _, _ => none

/-- The reply of JOG_START: OK, slot state, lift state (R147). -/
def State.jogReply (s : State) : List Byte := [byteOf s.jg.state.code, byteOf s.pl.state.code]

/-- JOG_START, mode start (R147). -/
def decideJogStart (s : State) : State × List Byte :=
  match s.jogStarted with
  | none => refuse s (if s.pr.lineHalt then .badState else .busy)
  | some s1 =>
    if s.pr.lineHalt then refuse s .badState
    else if s.sm.estopLatch then refuse s .safetyBlocked
    else take s1 s1.jogReply

/-- The JOG_START button (R147). -/
def State.jogButton (s : State) : State :=
  if s.pr.lineHalt || s.sm.estopLatch then s else s.jogStarted.getD s

/-- The Runner stands in the RETRACT or PLACE_WAIT of a LOAD step, running or suspended (R150). -/
def State.loadStands (s : State) : Bool :=
  s.runOpen && decide ((s.pr.phase = .retract ∨ s.pr.phase = .placeWait) ∧ s.stepKind = some .load)

/-- JOG_START, mode discard (R150). -/
def decideDiscard (s : State) : State × List Byte :=
  let engaged : Bool :=
    match s.jg.state with
    | .ready | .stopped | .failed => false
    | .empty | .jogging | .waitHeight => true
  if engaged || decide (s.jg.height = .pending) || s.loadStands then refuse s .badState
  else
    let s1 := s.slotEmptied
    take s1 s1.jogReply

/-- JOG_START (R147). -/
def decideJog (body : List Byte) (s : State) : State × List Byte :=
  match fieldAt body 0 1 with
  | 0 => decideJogStart s
  | 1 => decideDiscard s
  | _ => refuse s .badFields

end Sys2Proof.Machine
end

