-- ==== Sys2Proof/Machine/Store.lean ====
section
/-! DEFINITION. The Program Store's requests (02): STORE_OPEN, STEP, REPLACE_STEP, DELETE_PROGRAM, READ_PROGRAM,
LIST_PROGRAMS. -/

namespace Sys2Proof.Machine

/-- The store with other programs. -/
def State.setPrograms (s : State) (l : List (Nat × Program)) : State := s.setPs { s.ps with programs := l }

/-- The free units as replies report them: 2 bytes. -/
def State.freeBytes (s : State) : List Byte := leBytes 2 (freeUnits s.ps.programs)

/-- The program is the current one of a Runner READY, RUNNING, HELD or FAULTED (R23, R32). -/
def State.inUse (s : State) (n : Nat) : Bool := decide (s.pr.state ≠ .idle ∧ s.pr.program = n)

/-- The stored program, or the empty one STORE_OPEN creates (R24 point 1). -/
def State.programOr (s : State) (n : Nat) (h : Header) : Program := (s.program n).getD ⟨h, [], false⟩

/-- STORE_OPEN (R23, R24). -/
def decideStoreOpen (body : List Byte) (s : State) : State × List Byte :=
  let f := fieldAt body 37 1
  let n := fieldAt body 38 1
  match decodeHeader (body.take 37) with
  | none => refuse s .badFields
  | some (number, h) =>
    let old := s.programOr number h
    if old.steps.length < f ∨ ¬ (1 ≤ n ∧ n ≤ Config.maxSteps - f) then refuse s .badFields
    else if s.inUse number then refuse s .inUse
    else
      let p : Program := ⟨h, old.steps.take f, false⟩
      let s1 :=
        s.setPs
          { s.ps with
            programs := progInsert s.ps.programs number p
            window := some ⟨number, f, f + n⟩ }
      take s1 (leBytes 2 (old.units - p.units) ++ s1.freeBytes)

/-- STEP (R25 to R27). -/
def decideStep (body : List Byte) (s : State) : State × List Byte :=
  match decodeStep body with
  | none => refuse s .badFields
  | some r =>
    match s.ps.window with
    | none => refuse s .noWindow
    | some w =>
      match s.program w.program with
      | none => refuse s .noWindow
      | some p =>
        if freeUnits s.ps.programs < r.units then refuse s.closeWindow .poolFull
        else
          let full : Bool := decide (w.pointer + 1 = w.endIndex)
          let q : Program := ⟨p.header, p.steps ++ [r], full⟩
          let s1 :=
            s.setPs
              { s.ps with
                programs := progInsert s.ps.programs w.program q
                window := if full then none else some { w with pointer := w.pointer + 1 } }
          take s1 (leBytes 1 w.pointer ++ [boolByte full] ++ s1.freeBytes)

/-- The step is the current one or before it, in an open run (R30). -/
def State.stepInUse (s : State) (n index : Nat) : Bool :=
  s.runOpen && decide (s.pr.program = n ∧ index ≤ s.pr.step)

/-- REPLACE_STEP (R30, R31). -/
def decideReplaceStep (body : List Byte) (s : State) : State × List Byte :=
  let n := fieldAt body 0 1
  let i := fieldAt body 1 1
  match programNumber n, decodeStep (body.drop 2) with
  | true, some r =>
    match s.program n with
    | none => refuse s .notFound
    | some p =>
      match p.steps[i]? with
      | none => refuse s .notFound
      | some old =>
        if s.stepInUse n i then refuse s .inUse
        else if old.units + freeUnits s.ps.programs < r.units then refuse s .poolFull
        else
          let s1 := s.setPrograms (progInsert s.ps.programs n { p with steps := p.steps.set i r })
          take s1 s1.freeBytes
  | _, _ => refuse s .badFields

/-- DELETE_PROGRAM (R32). -/
def decideDeleteProgram (body : List Byte) (s : State) : State × List Byte :=
  let n := fieldAt body 0 1
  if !programNumber n then refuse s .badFields
  else
    match s.program n with
    | none => refuse s .notFound
    | some p =>
      if s.inUse n then refuse s .inUse
      else
        let s1 := s.setPrograms (progErase s.ps.programs n)
        take s1 (leBytes 2 p.units ++ s1.freeBytes)

/-- The header report (Table 17). -/
def Program.report (p : Program) (n : Nat) : List Byte :=
  encodeHeader n p.header ++ [boolByte p.complete] ++ leBytes 1 p.steps.length ++ leBytes 2 p.units

/-- READ_PROGRAM (R33). -/
def decideReadProgram (body : List Byte) (s : State) : State × List Byte :=
  let n := fieldAt body 0 1
  let i := fieldAt body 1 1
  if !programNumber n then refuse s .badFields
  else
    match s.program n with
    | none => refuse s .notFound
    | some p =>
      if p.steps.length < i then refuse s .notFound
      else
        let shown := (p.steps.drop i).take 8
        take s (p.report n ++ leBytes 1 shown.length ++ shown.flatMap encodeStep)

/-- A directory entry (Table 22). -/
def directoryEntry (n : Nat) (p : Program) : List Byte :=
  leBytes 1 n ++ [boolByte p.complete] ++ leBytes 1 p.steps.length ++ leBytes 2 p.units ++
    leBytes 1 p.header.name.length ++ p.header.name

/-- The entries that fit, and the next program (R34): at most `room` more entries, with `used` bytes so far. -/
def directory : List (Nat × Program) → Nat → Nat → List (List Byte) × Nat
  | [], _, _ => ([], 0)
  | (n, _) :: _, 0, _ => ([], n)
  | (n, p) :: rest, room + 1, used =>
    let e := directoryEntry n p
    if Config.maxBody < used + e.length then ([], n)
    else
      let (es, next) := directory rest room (used + e.length)
      (e :: es, next)

/-- LIST_PROGRAMS (R34, R35). -/
def decideListPrograms (body : List Byte) (s : State) : State × List Byte :=
  let first := fieldAt body 0 1
  if !programNumber first then refuse s .badFields
  else
    let (es, next) := directory (s.ps.programs.filter fun e => decide (first ≤ e.1)) 12 5
    take s (s.freeBytes ++ leBytes 1 next ++ leBytes 1 es.length ++ es.flatten)

end Sys2Proof.Machine
end

