-- ==== Sys2Proof/Machine/SettingRequests.lean ====
section
/-! DEFINITION. The setting requests (11): SETTING_READ, SETTING_WRITE and the priority group. -/

namespace Sys2Proof.Machine

/-- Code of the priority group (Table 63). -/
abbrev priorityCode : Nat := 10

/-- The priority group as four bytes (R178). -/
def Settings.priorities (x : Settings) : List Byte :=
  [byteOf x.priorityCut, byteOf x.priorityLift, byteOf x.priorityTurn, 0]

/-- SETTING_READ (R178). -/
def decideSettingRead (body : List Byte) (s : State) : State × List Byte :=
  let code := fieldAt body 0 1
  if code = priorityCode then
    take s (leBytes 1 code ++ s.ps.settings.priorities ++ [0, 0, 0, 0] ++ [2, 2, 2, 0] ++ [2, 0, 1, 0])
  else
    match settingRange code with
    | none => refuse s .badFields
    | some r =>
      take s
        (leBytes 1 code ++ leInt 4 (s.ps.settings.get code) ++ leInt 4 r.least ++ leInt 4 r.greatest ++
          leInt 4 r.default)

/-- The value stored for a value written: brought to the nearest limit of the range (R179). -/
def SettingRange.clamp (r : SettingRange) (v : Int) : Int := max r.least (min r.greatest v)

/-- A permutation of 0, 1 and 2 (R180). -/
def permutation (a b c : Nat) : Bool :=
  decide (a < 3 ∧ b < 3 ∧ c < 3 ∧ a ≠ b ∧ b ≠ c ∧ a ≠ c)

/-- The store with other settings. -/
def State.setSettings (s : State) (x : Settings) : State := s.setPs { s.ps with settings := x }

/-- SETTING_WRITE of the priority group (R180). -/
def writePriorities (body : List Byte) (s : State) : State × List Byte :=
  let a := fieldAt body 1 1
  let b := fieldAt body 2 1
  let c := fieldAt body 3 1
  if permutation a b c = true ∧ fieldAt body 4 1 = 0 then
    let s1 :=
      s.setSettings { s.ps.settings with priorityCut := a, priorityLift := b, priorityTurn := c }
    take s1 (leBytes 1 priorityCode ++ s1.ps.settings.priorities)
  else refuse s .badFields

/-- SETTING_WRITE (R179, R180). -/
def decideSettingWrite (body : List Byte) (s : State) : State × List Byte :=
  let code := fieldAt body 0 1
  let v := signedAt body 1 4
  if code = priorityCode then writePriorities body s
  else
    match settingRange code with
    | none => refuse s .badFields
    | some r =>
      (s.setSettings (s.ps.settings.put code (r.clamp v)),
        (if r.clamp v = v then Status.ok.code else Status.clamped.code) :: (leBytes 1 code ++ leInt 4 (r.clamp v)))

end Sys2Proof.Machine
end

