-- ==== Sys2Proof/Machine/SafetyMonitor.lean ====
section
/-! DEFINITION. The Safety Monitor (10): channels, discrepancy, the two-hand permission, the guard, the blade key, the
emergency stop and its acknowledgement. -/

namespace Sys2Proof.Machine

/-! ### SAFETY notices (R175) -/

/-- Events of a SAFETY notice (Table 61). -/
inductive SafetyEvent where
  | powerOn | estopLatched | estopAcknowledged | guardOpened | guardClosed | bladeKeyOn | bladeKeyOff
  | discrepancyLatched (i : SafetyIn) | discrepancyCleared (i : SafetyIn)
  deriving DecidableEq, Repr

/-- Event and input codes (Table 61). -/
def SafetyEvent.codes : SafetyEvent → List Byte
  | .powerOn => [0, 0xFF]
  | .estopLatched => [1, 0xFF]
  | .estopAcknowledged => [2, 0xFF]
  | .guardOpened => [3, 0xFF]
  | .guardClosed => [4, 0xFF]
  | .bladeKeyOn => [5, 0xFF]
  | .bladeKeyOff => [6, 0xFF]
  | .discrepancyLatched i => [7, byteOf (safetyCode i)]
  | .discrepancyCleared i => [8, byteOf (safetyCode i)]

/-- Raise a SAFETY notice (R175, Table 61). -/
def State.safetyNotice (s : State) (e : SafetyEvent) : State :=
  s.raise .safety (e.codes ++ [s.sm.flags, s.sm.latches] ++ s.sm.channels)

/-! ### Channels and discrepancy (R164 to R167) -/

/-- The input with one channel's reading. -/
def SafetyInput.read (x : SafetyInput) (c : Channel) (reading : Bool) : SafetyInput :=
  match c with
  | .a => { x with a := reading }
  | .b => { x with b := reading }

/-- After a reading: the latch clears when both channels read unsafe (R167); the timer runs while they disagree with
the latch clear (R166). -/
def SafetyInput.follow (x : SafetyInput) : SafetyInput :=
  let latch := x.latch && !(x.a && x.b)
  { x with latch := latch, timer := x.disagree && !latch }

/-- The power-on value of an input (R164): latch clear, the timer running when its channels disagree. -/
def SafetyInput.powerOn (r : Readings) : SafetyInput := ⟨r.a, r.b, r.a != r.b, false⟩

/-! ### The two-hand permission (R168, R169) -/

/-- The other button. -/
def otherButton : SafetyIn → SafetyIn
  | .twoHandLeft => .twoHandRight
  | _ => .twoHandLeft

/-- The press now completes a synchronous pair (R168). -/
def Monitor.pairCompletes (m : Monitor) (now : Nat) : Bool :=
  m.rearm && m.clampConditions &&
    (match m.pairStart with
      | some t => decide (now ≤ t + Config.syncMs)
      | none => false)

/-- A button's effective value becomes pressed at `now` (R168). -/
def Monitor.pressed (m : Monitor) (i : SafetyIn) (now : Nat) : Monitor :=
  if (m.input (otherButton i)).atUnsafe then { m with pairStart := some now }
  else if m.pairCompletes now then { m with pairStart := none, rearm := false, permission := true }
  else { m with pairStart := none }

/-- A button's effective value becomes released (R168, R169; log 40). -/
def Monitor.released (m : Monitor) (i : SafetyIn) : Monitor :=
  { m with
    pairStart := none
    rearm := m.rearm || (m.input (otherButton i)).atUnsafe
    permission := false }

/-- The monitor once the permission has fallen (R169). -/
def Monitor.fallen (m : Monitor) : Monitor := { m with permission := false }

/-! ### Handing an event to the blocks (R171, R173; log 6) -/

/-- The blocks of an event in the order given, each once, those not given after them in the default order. -/
def deliveryOrder (given default : List Consumers) : List Consumers :=
  let first := (given.filter fun c => decide (c ∈ default)).reverse.eraseDups.reverse
  first ++ default.filter fun c => decide (c ∉ first)

/-- The emergency stop at the Runner (R95). -/
def State.runnerEstop (s : State) : State := if s.runOpen then s.reportFault .estop 0 else s

/-- The emergency stop at the supply (R137). -/
def State.supplyEstop (s : State) : State := s.setHs s.hs.estop

/-- The emergency stop at one block (R173). -/
def State.estopAt (s : State) : Consumers → State
  | .runner => s.runnerEstop
  | .gauge => s.gaugeEstop
  | .cutStation => s.csEstop
  | .supply => s.supplyEstop
  | .infeed => s.infeedEstop
  | .turner => s.turnInterrupted 4

/-- The guard's opening at one block (R171); `fell` says whether the permission fell with it. -/
def State.guardAt (s : State) (fell : Bool) : Consumers → State
  | .gauge => s.gaugeGuard
  | .turner => s.turnInterrupted 3
  | .cutStation => s.permissionFalls fell true
  | _ => s

/-- An event is handed to the blocks in an order, as separate events: each raises the RUN_STATE it owes (R67, R171,
R173; log 18). -/
def State.deliver (s : State) (respond : State → Consumers → State) (order : List Consumers) : State :=
  order.foldl (fun x c => (respond x c).flush) s

/-- The emergency stop event (R173): latch, permission, notice, then the blocks. -/
def State.emergencyStop (s : State) (order : List Consumers) : State :=
  let s1 := (s.setSm { s.sm.fallen with estopLatch := true }).safetyNotice .estopLatched
  s1.deliver State.estopAt (deliveryOrder order [.runner, .gauge, .cutStation, .supply, .infeed, .turner])

/-- The rear guard opens (R171). -/
def State.guardOpens (s : State) (order : List Consumers) : State :=
  let s1 := (s.setSm s.sm.fallen).safetyNotice .guardOpened
  s1.deliver (fun x c => x.guardAt s.sm.permission c) (deliveryOrder order [.cutStation, .gauge, .turner])

/-- The blade key turns on (R172, R123). -/
def State.keyGoesOn (s : State) : State :=
  (((s.setSm s.sm.fallen).safetyNotice .bladeKeyOn).permissionFalls s.sm.permission true).keyTurnsOn

/-- An input's effective value becomes unsafe (R169 to R173). -/
def State.becomesUnsafe (s : State) (i : SafetyIn) (order : List Consumers) : State :=
  match i with
  | .twoHandLeft | .twoHandRight => (s.setSm (s.sm.released i)).permissionFalls s.sm.permission false
  | .lightCurtain => (s.setSm s.sm.fallen).permissionFalls s.sm.permission true
  | .emergencyStop => if s.sm.estopLatch then s else s.emergencyStop order
  | .rearGuard => s.guardOpens order
  | .bladeKey => s.keyGoesOn

/-- An input's effective value becomes permissive (R168 to R173). -/
def State.becomesPermissive (s : State) (i : SafetyIn) (now : Nat) : State :=
  match i with
  | .twoHandLeft | .twoHandRight =>
    let s1 := s.setSm (s.sm.pressed i now)
    if s1.sm.permission = true ∧ s.sm.permission = false then s1.permissionRises else s1
  | .lightCurtain | .emergencyStop => s
  | .rearGuard => s.safetyNotice .guardClosed
  | .bladeKey => (s.safetyNotice .bladeKeyOff).keyTurnsOff

/-- A channel comes to a reading (R165 to R173): timer and latch, DISCREPANCY_CLEARED, and the event of a change of
the effective value. -/
def State.channelReads (s : State) (i : SafetyIn) (c : Channel) (reading : Bool) (now : Nat)
    (order : List Consumers) : State :=
  let x := s.sm.input i
  let y := (x.read c reading).follow
  let s1 := s.setSm (s.sm.setInput i y)
  let s2 := if x.latch = true ∧ y.latch = false then s1.safetyNotice (.discrepancyCleared i) else s1
  match x.atUnsafe, y.atUnsafe with
  | false, true => s2.becomesUnsafe i order
  | true, false => s2.becomesPermissive i now
  | _, _ => s2

/-- A discrepancy timer passes 100 ms with the channels still disagreeing (R166). -/
def State.discrepancyExpires (s : State) (i : SafetyIn) : State :=
  let x := s.sm.input i
  if x.timer = true ∧ x.disagree = true then
    ((s.setSm (s.sm.setInput i { x with timer := false, latch := true })).safetyNotice
      (.discrepancyLatched i)).reportFault .safetyDiscrepancy (safetyCode i)
  else s

/-- ESTOP_ACK (R174). -/
def decideEstopAck (s : State) : State × List Byte :=
  if s.sm.estopLatch = false then take s [s.sm.flags, s.sm.latches]
  else if s.sm.emergencyStop.atUnsafe then refuse s .safetyBlocked
  else
    let s1 := (s.setSm { s.sm with estopLatch := false }).safetyNotice .estopAcknowledged
    take s1.recoverRequest.pumpStart [s1.sm.flags, s1.sm.latches]

end Sys2Proof.Machine
end

