-- ==== Sys2Proof/Machine/Requests.lean ====
section
/-! DEFINITION. The link's own requests (01: NOTICE_SELECT, IDENT, STATUS, RESET), the deciding of every request by its
owner (R5, R6, R12, R13), the taking and sending of frames (R4, R10), the soft reset (R16) and power-on. -/

namespace Sys2Proof.Machine

/-! ### The link's own requests -/

/-- NOTICE_SELECT (R11). -/
def decideNoticeSelect (body : List Byte) (s : State) : State × List Byte :=
  let mask := fieldAt body 0 2
  if mask < 2 ^ 9 then take (s.setLi { s.li with mask := BitVec.ofNat 16 mask }) (leBytes 2 mask)
  else refuse s .badFields

/-- A string of the identification record: 16 bytes, padded with spaces (R14). -/
def padded (name : List Byte) : List Byte := name ++ List.replicate (16 - name.length) 0x20

/-- "Zetjan" in ASCII. -/
def vendorName : List Byte := [0x5A, 0x65, 0x74, 0x6A, 0x61, 0x6E]

/-- "Ostika LC-420" in ASCII. -/
def modelName : List Byte := [0x4F, 0x73, 0x74, 0x69, 0x6B, 0x61, 0x20, 0x4C, 0x43, 0x2D, 0x34, 0x32, 0x30]

/-- The identification record (Table 12). -/
def identRecord : List Byte :=
  padded vendorName ++ padded modelName ++ [1, 0] ++
    leBytes 4 Config.gmin ++ leBytes 4 Config.gmax ++ leBytes 4 Config.refPosition ++ leBytes 4 Config.lmax ++
    leBytes 2 Config.hmax ++ leBytes 2 Config.tolerance ++ leBytes 2 Config.followLimit ++
    leBytes 2 Config.transferPlane ++
    leBytes 1 Config.maxProgram ++ leBytes 2 Config.poolUnits ++ leBytes 2 Config.maxSteps ++
    leBytes 1 Config.asidePlaces ++ leBytes 1 Config.warningEntries ++ leBytes 1 Config.queueFrames ++
    leBytes 1 Config.maxBody ++ leBytes 1 Config.labelSpan ++ leBytes 1 Config.compLimit ++
    leBytes 2 Config.runUpMs ++ leBytes 2 Config.lockoutMs ++ leBytes 2 Config.clampMs ++ leBytes 2 Config.knifeMs ++
    leBytes 2 Config.raiseMs ++ leBytes 2 Config.syncMs ++ leBytes 2 Config.discrepancyMs ++
    leBytes 1 Config.gapMs ++ leBytes 4 Config.strokeCeiling

/-- IDENT (R14). -/
def decideIdent (s : State) : State × List Byte := take s identRecord

/-- The Runner's part of the status record (Table 13, offsets 0 to 10). -/
def State.statusRunner (s : State) : List Byte :=
  [byteOf s.pr.state.code, byteOf (if s.pr.state = .held then s.pr.hold.code else 0), byteOf s.pr.program,
      byteOf s.pr.step, byteOf s.pr.iter, byteOf s.pr.mode.code, s.lineLoadFlags] ++
    leBytes 2 s.pr.done ++ leBytes 2 s.pr.limit

/-- The gauge, cut station and supply in the status record (Table 13, offsets 11 to 28). -/
def State.statusMachine (s : State) : List Byte :=
  [byteOf s.bg.state.code] ++ leInt 4 s.bg.actual ++ leInt 4 s.bg.target ++ [s.bg.flags, byteOf s.cs.state.code] ++
    leBytes 4 s.cs.counter ++ [byteOf s.hs.pump.code, s.hs.flags, byteOf (holderCode s.hs.holder)]

/-- The infeed and the turner in the status record (Table 13, offsets 29 to 39). -/
def State.statusInfeed (s : State) : List Byte :=
  [byteOf s.pl.state.code] ++ leBytes 2 s.pl.platform ++ leBytes 2 s.pl.shownPile.hc ++ [byteOf s.jg.state.code] ++
    leBytes 2 s.jg.heightOnLink ++
    [byteOf s.pt.state.code, byteOf ((s.pt.record.map TurnRec.commanded).getD 0),
      byteOf ((s.pt.record.map TurnRec.completed).getD 0)]

/-- Safety, the load and the link in the status record (Table 13, offsets 40 to 50). -/
def State.statusLink (s : State) : List Byte :=
  [s.sm.flags, s.sm.latches] ++ leBytes 2 s.loadId ++ [byteOf s.gt.aside.length] ++ leBytes 2 s.li.mask.toNat ++
    [byteOf s.li.queue.length] ++ leBytes 2 s.li.lost ++ [byteOf s.li.notices.length]

/-- The status record (Table 13). -/
def State.statusRecord (s : State) : List Byte :=
  s.statusRunner ++ s.statusMachine ++ s.statusInfeed ++ s.statusLink

/-- STATUS (R15): the lost count it reports returns to 0. -/
def decideStatus (s : State) : State × List Byte := take (s.setLi { s.li with lost := 0 }) s.statusRecord

/-- RESET (R16): taken in every state; the soft reset follows when its reply has been sent. -/
def decideReset (s : State) : State × List Byte := take s []

/-! ### Deciding (R5, R6, R12, R13) -/

/-- The owning block decides a request whose body has its length (Table 11). -/
def decideOwner (r : Request) (body : List Byte) (s : State) : State × List Byte :=
  match r with
  | .storeOpen => decideStoreOpen body s
  | .step => decideStep body s
  | .replaceStep => decideReplaceStep body s
  | .deleteProgram => decideDeleteProgram body s
  | .readProgram => decideReadProgram body s
  | .listPrograms => decideListPrograms body s
  | .select => decideSelect body s
  | .run => decideRun body s
  | .hold => decideHold s
  | .skip => decideSkip s
  | .abort => decideAbort s
  | .locate => decideLocate body s
  | .clearFault => decideClearFault s
  | .lineHalt => decideLineHalt body s
  | .confirm => decideConfirm s
  | .gaugeMove => decideGaugeMove body s
  | .gaugeReference => decideGaugeReference s
  | .cutNow => decideCutNow body s
  | .turnNow => decideTurnNow body s
  | .turnerPark => decideTurnerPark s
  | .newPile => decideNewPile body s
  | .liftLower => decideLiftLower s
  | .jogStart => decideJog body s
  | .pumpOn => decidePumpOn s
  | .pumpOff => decidePumpOff s
  | .trackQuery => decideTrackQuery body s
  | .trackDeclare => decideTrackDeclare body s
  | .trackClear => decideTrackClear s
  | .settingRead => decideSettingRead body s
  | .settingWrite => decideSettingWrite body s
  | .estopAck => decideEstopAck s
  | .bladeReset => decideBladeReset s
  | .noticeSelect => decideNoticeSelect body s
  | .ident => decideIdent s
  | .status => decideStatus s
  | .reset => decideReset s

/-- The window closing that comes before any check of the body (R12, R28). -/
def State.closeFor (s : State) (r : Request) : State := if r.keepsWindow then s else s.closeWindow

/-- The decision of a frame: the reply's body with its status byte, and the state after it (R6, R12, R13). -/
def decideFrame (f : Frame) (s : State) : State × List Byte :=
  match Request.ofKind f.kind with
  | none => (s, [Status.unknown.code, f.kind])
  | some r =>
    if f.body.length = r.bodyLength then decideOwner r f.body (s.closeFor r)
    else refuse (s.closeFor r) .badFields

/-- The reply frame of a decided request (R6, R7). -/
def replyFrame (f : Frame) (body : List Byte) : Frame := ⟨f.kind + 0x80, f.tag, body⟩

/-- The head of the receive queue has its reply ready (R5). -/
def Link.setReply (l : Link) (r : Frame) : Link :=
  match l.queue with
  | q :: rest => { l with queue := { q with reply := some r } :: rest }
  | [] => l

/-- The head of the receive queue is decided, if it awaits its decision (R5). -/
def State.decideHead (s : State) : State :=
  match s.li.queue with
  | ⟨f, none⟩ :: _ =>
    let (s1, body) := decideFrame f s
    (s1.setLi (s1.li.setReply (replyFrame f body))).settle
  | _ => s

/-! ### Taking frames (R4) -/

/-- The receive queue with a frame behind the others. -/
def Link.enqueue (l : Link) (f : Frame) : Link := { l with queue := l.queue ++ [⟨f, none⟩] }

/-- A good frame is taken, and decided at once if the queue was empty; or it is dropped (R4, R5). -/
def State.acceptFrame (s : State) (f : Frame) : State :=
  if s.li.queue.length < Config.queueFrames then
    if s.li.queue = [] then ((s.setLi (s.li.enqueue f)).decideHead).kick
    else (s.setLi (s.li.enqueue f)).kick
  else (s.setLi (s.li.dropBusy f)).kick

/-- A byte of the host link arrives (R2 to R4). -/
def State.byteArrives (s : State) (byte : Byte) (gap : Nat) (framingError : Bool) : State :=
  match receive s.li.receiver byte gap framingError with
  | (r, none) => s.setLi { s.li with receiver := r }
  | (r, some f) => (s.setLi { s.li with receiver := r }).acceptFrame f

/-! ### Soft reset (R16) -/

/-- The Link Interface after a soft reset, its line free (R16; log 5). -/
def Link.softReset : Link where
  receiver := .hunting
  queue := []
  busy := []
  notices := []
  lost := 0
  mask := 0x01FF
  line := none

/-- The Runner's soft-reset response, and what the tracker discards with it (R95, R66). -/
def State.runnerReset (s : State) : State :=
  (s.setPr { Runner.powerOn with noticeDue := true }).setGt { s.gt with prepared := none, stepBase := none }

/-- The supply's soft-reset response (R138). -/
def State.supplyReset (s : State) : State := s.setHs s.hs.noRequests

/-- The soft reset: the link, then the blocks' responses (R16; order: log 22). -/
def State.softReset (s : State) : State :=
  ((((((s.setLi Link.softReset).runnerReset).gaugeReset).csReset).supplyReset).jogReset).ptReset.settle.kick

/-! ### The transmit line (R10) -/

/-- The reply of a taken RESET (R16). -/
def Frame.isResetReply (f : Frame) : Bool := decide (f.kind = Request.reset.kind + 0x80 ∧ f.body = [Status.ok.code])

/-- The link with the next frame on its line (R10). -/
def Link.startNext (l : Link) (noticeFirst : Bool) : Link := { l with line := l.nextFrame noticeFirst }

/-- The last byte of a reply has been sent: its frame leaves the queue, the next is decided, the next frame starts
(R5, R10; log 8). -/
def State.replySent (s : State) : State :=
  let s1 := (s.setLi { s.li with queue := s.li.queue.tail }).decideHead
  s1.setLi (s1.li.startNext (!s.li.notices.isEmpty))

/-- The last byte of the frame on the line has been sent (R10; a free line: log 38). -/
def State.frameSent (s : State) : State :=
  match s.li.line with
  | none => s
  | some ⟨.linkBusy, _⟩ => s.setLi (Link.startNext { s.li with busy := s.li.busy.tail } false)
  | some ⟨.notice, _⟩ => s.setLi (Link.startNext { s.li with notices := s.li.notices.tail } false)
  | some ⟨.reply, f⟩ => if f.isResetReply then s.softReset else s.replySent

/-! ### Power-on -/

/-- The Safety Monitor at power-on (R164). -/
def Monitor.powerOn (x : AllReadings) : Monitor where
  twoHandLeft := .powerOn x.twoHandLeft
  twoHandRight := .powerOn x.twoHandRight
  lightCurtain := .powerOn x.lightCurtain
  emergencyStop := .powerOn x.emergencyStop
  rearGuard := .powerOn x.rearGuard
  bladeKey := .powerOn x.bladeKey
  pairStart := none
  rearm := (x.twoHandLeft.a || x.twoHandLeft.b) && (x.twoHandRight.a || x.twoHandRight.b)
  permission := false
  estopLatch := true

/-- Every block at its power-on values, before any notice: the non-volatile contents are kept (R17, R36, R111, R176),
and the lines give the rest (R96, R111, R139, R155; log 2). -/
def State.powerOnBlocks (s : State) (m : Lines) (pedal : Bool) (x : AllReadings) : State :=
  { State.reset with
    li := Link.softReset
    ps := { s.ps with window := none }
    bg := { State.reset.bg with zero := -m.encoder }
    cs :=
      { State.reset.cs with
        state :=
          if m.knifeTop = false ∨ m.clampUp = false then .recover
          else if x.bladeKey.a || x.bladeKey.b then .bladeChange
          else .ready
        pedal := pedal
        counter := s.cs.counter
        warn := s.cs.warn }
    pl := { State.reset.pl with platform := m.platform }
    pt := { State.reset.pt with state := if m.park then .parked else .fault }
    sm := Monitor.powerOn x
    lines := m
    pending := s.pending }

/-- Power-on: the blocks, the POWER_ON notice, the report of a turner not parked (R164, R155; order: log 29). -/
def State.powerOn (s : State) (m : Lines) (pedal : Bool) (x : AllReadings) : State :=
  let s1 := (s.powerOnBlocks m pedal x).safetyNotice .powerOn
  (if m.park then s1 else s1.reportFault .notParked 0).settle.kick

end Sys2Proof.Machine
end

