-- ==== Sys2Proof/Machine/Events.lean ====
section
/-! DEFINITION. The meaning of every command, one definition each: the frames of the host link, then the inputs and the
expiries of the machine side, block by block. A command samples the lines it carries (log 1); a row that itself says
what a line reads overrides the sample. -/

namespace Sys2Proof.Machine

/-- How a command answers: no command of the LC-420 stops the machine (log 34). -/
abbrev Answer := Host.Outcome State Fault Refusal

/-- A good frame reaches the link whole, with the lines sampled (R4; log 4). -/
def onFrame (kind tag : Byte) (body : List Byte) (m : Lines) (s : State) : State :=
  (s.sample m).acceptFrame ⟨kind, tag, body⟩

/-- A machine-side event: the lines sampled, its effect, what the blocks then do, and a free line's next frame. -/
def onEvent (effect : State → State) (m : Lines) (s : State) : State := (effect (s.sample m)).settle.kick

/-! ### The host link (01) -/

/-- POWER_ON (R164, and each block's power-on values). -/
def execPowerOn (m : Lines) (pedal : Bool) (readings : AllReadings) (s : State) : Answer :=
  .next (s.powerOn m pedal readings)

/-- RECEIVE_BYTE (R2 to R4). -/
def execReceiveByte (m : Lines) (byte : Byte) (gap : Nat) (framingError : Bool) (s : State) : Answer :=
  .next ((s.sample m).byteArrives byte gap framingError)

/-- TRANSMIT_END (R5, R10). -/
def execTransmitEnd (m : Lines) (s : State) : Answer := .next (s.sample m).frameSent

/-- UNKNOWN_REQUEST: a good frame of any kind, refused UNKNOWN when the kind is no request's (R6). -/
def execUnknownRequest (m : Lines) (kind tag : Byte) (body : List Byte) (s : State) : Answer :=
  .next (onFrame kind tag body m s)

/-- SOFT_RESET (R16): the RESET reply has been sent (log 5). -/
def execSoftReset (m : Lines) (s : State) : Answer := .next (s.sample m).softReset

/-! ### Requests: a good frame of the kind is taken or dropped (R4), decided in its turn (R5) -/

/-- STORE_OPEN (R23, R24). -/
def execStoreOpen (m : Lines) (tag : Byte) (body : List Byte) (s : State) : Answer :=
  .next (onFrame Request.storeOpen.kind tag body m s)

/-- STEP (R25 to R27). -/
def execStep (m : Lines) (tag : Byte) (body : List Byte) (s : State) : Answer :=
  .next (onFrame Request.step.kind tag body m s)

/-- REPLACE_STEP (R30, R31). -/
def execReplaceStep (m : Lines) (tag : Byte) (body : List Byte) (s : State) : Answer :=
  .next (onFrame Request.replaceStep.kind tag body m s)

/-- DELETE_PROGRAM (R32). -/
def execDeleteProgram (m : Lines) (tag : Byte) (body : List Byte) (s : State) : Answer :=
  .next (onFrame Request.deleteProgram.kind tag body m s)

/-- READ_PROGRAM (R33). -/
def execReadProgram (m : Lines) (tag : Byte) (body : List Byte) (s : State) : Answer :=
  .next (onFrame Request.readProgram.kind tag body m s)

/-- LIST_PROGRAMS (R34, R35). -/
def execListPrograms (m : Lines) (tag : Byte) (body : List Byte) (s : State) : Answer :=
  .next (onFrame Request.listPrograms.kind tag body m s)

/-- SELECT (R68). -/
def execSelect (m : Lines) (tag : Byte) (body : List Byte) (s : State) : Answer :=
  .next (onFrame Request.select.kind tag body m s)

/-- RUN (R69, R70). -/
def execRun (m : Lines) (tag : Byte) (body : List Byte) (s : State) : Answer :=
  .next (onFrame Request.run.kind tag body m s)

/-- HOLD (R84). -/
def execHold (m : Lines) (tag : Byte) (body : List Byte) (s : State) : Answer :=
  .next (onFrame Request.hold.kind tag body m s)

/-- SKIP (R86). -/
def execSkip (m : Lines) (tag : Byte) (body : List Byte) (s : State) : Answer :=
  .next (onFrame Request.skip.kind tag body m s)

/-- ABORT (R87). -/
def execAbort (m : Lines) (tag : Byte) (body : List Byte) (s : State) : Answer :=
  .next (onFrame Request.abort.kind tag body m s)

/-- LOCATE (R88). -/
def execLocate (m : Lines) (tag : Byte) (body : List Byte) (s : State) : Answer :=
  .next (onFrame Request.locate.kind tag body m s)

/-- LOCATE_BY_LABEL (R89): the body of mode 1. -/
def execLocateByLabel (m : Lines) (tag program index : Byte) (label : BitVec 16) (follow : Byte) (s : State) :
    Answer :=
  .next (onFrame Request.locate.kind tag ([1, program, index] ++ leBytes 2 label.toNat ++ [follow]) m s)

/-- CLEAR_FAULT (R92). -/
def execClearFault (m : Lines) (tag : Byte) (body : List Byte) (s : State) : Answer :=
  .next (onFrame Request.clearFault.kind tag body m s)

/-- LINE_HALT (R93). -/
def execLineHalt (m : Lines) (tag : Byte) (body : List Byte) (s : State) : Answer :=
  .next (onFrame Request.lineHalt.kind tag body m s)

/-- CONFIRM (R82). -/
def execConfirm (m : Lines) (tag : Byte) (body : List Byte) (s : State) : Answer :=
  .next (onFrame Request.confirm.kind tag body m s)

/-- GAUGE_MOVE (R105). -/
def execGaugeMove (m : Lines) (tag : Byte) (body : List Byte) (s : State) : Answer :=
  .next (onFrame Request.gaugeMove.kind tag body m s)

/-- GAUGE_REFERENCE (R98). -/
def execGaugeReference (m : Lines) (tag : Byte) (body : List Byte) (s : State) : Answer :=
  .next (onFrame Request.gaugeReference.kind tag body m s)

/-- CUT_NOW (R124). -/
def execCutNow (m : Lines) (tag : Byte) (body : List Byte) (s : State) : Answer :=
  .next (onFrame Request.cutNow.kind tag body m s)

/-- BLADE_RESET (R123). -/
def execBladeReset (m : Lines) (tag : Byte) (body : List Byte) (s : State) : Answer :=
  .next (onFrame Request.bladeReset.kind tag body m s)

/-- PUMP_ON (R136). -/
def execPumpOn (m : Lines) (tag : Byte) (body : List Byte) (s : State) : Answer :=
  .next (onFrame Request.pumpOn.kind tag body m s)

/-- PUMP_OFF (R136). -/
def execPumpOff (m : Lines) (tag : Byte) (body : List Byte) (s : State) : Answer :=
  .next (onFrame Request.pumpOff.kind tag body m s)

/-- NEW_PILE (R143). -/
def execNewPile (m : Lines) (tag : Byte) (body : List Byte) (s : State) : Answer :=
  .next (onFrame Request.newPile.kind tag body m s)

/-- LIFT_LOWER (R145). -/
def execLiftLower (m : Lines) (tag : Byte) (body : List Byte) (s : State) : Answer :=
  .next (onFrame Request.liftLower.kind tag body m s)

/-- JOG_START (R147). -/
def execJogStart (m : Lines) (tag : Byte) (body : List Byte) (s : State) : Answer :=
  .next (onFrame Request.jogStart.kind tag body m s)

/-- JOG_START_DISCARD (R150): the body of the discard mode. -/
def execJogStartDiscard (m : Lines) (tag : Byte) (s : State) : Answer :=
  .next (onFrame Request.jogStart.kind tag [1] m s)

/-- TURN_NOW (R160). -/
def execTurnNow (m : Lines) (tag : Byte) (body : List Byte) (s : State) : Answer :=
  .next (onFrame Request.turnNow.kind tag body m s)

/-- TURNER_PARK (R159, R162). -/
def execTurnerPark (m : Lines) (tag : Byte) (body : List Byte) (s : State) : Answer :=
  .next (onFrame Request.turnerPark.kind tag body m s)

/-- TRACK_QUERY (R62). -/
def execTrackQuery (m : Lines) (tag : Byte) (body : List Byte) (s : State) : Answer :=
  .next (onFrame Request.trackQuery.kind tag body m s)

/-- TRACK_DECLARE (R63). -/
def execTrackDeclare (m : Lines) (tag : Byte) (body : List Byte) (s : State) : Answer :=
  .next (onFrame Request.trackDeclare.kind tag body m s)

/-- TRACK_CLEAR (R64). -/
def execTrackClear (m : Lines) (tag : Byte) (body : List Byte) (s : State) : Answer :=
  .next (onFrame Request.trackClear.kind tag body m s)

/-- SETTING_READ (R178). -/
def execSettingRead (m : Lines) (tag : Byte) (body : List Byte) (s : State) : Answer :=
  .next (onFrame Request.settingRead.kind tag body m s)

/-- SETTING_WRITE (R179, R180). -/
def execSettingWrite (m : Lines) (tag : Byte) (body : List Byte) (s : State) : Answer :=
  .next (onFrame Request.settingWrite.kind tag body m s)

/-- ESTOP_ACK (R174). -/
def execEstopAck (m : Lines) (tag : Byte) (body : List Byte) (s : State) : Answer :=
  .next (onFrame Request.estopAck.kind tag body m s)

/-- NOTICE_SELECT (R11). -/
def execNoticeSelect (m : Lines) (tag : Byte) (body : List Byte) (s : State) : Answer :=
  .next (onFrame Request.noticeSelect.kind tag body m s)

/-- IDENT (R14). -/
def execIdent (m : Lines) (tag : Byte) (body : List Byte) (s : State) : Answer :=
  .next (onFrame Request.ident.kind tag body m s)

/-- STATUS (R15). -/
def execStatus (m : Lines) (tag : Byte) (body : List Byte) (s : State) : Answer :=
  .next (onFrame Request.status.kind tag body m s)

/-- RESET (R16). -/
def execReset (m : Lines) (tag : Byte) (body : List Byte) (s : State) : Answer :=
  .next (onFrame Request.reset.kind tag body m s)

/-! ### Buttons and pedal -/

/-- The CONFIRM button (R82): as the request, ignored where it does not apply. -/
def execConfirmButton (m : Lines) (s : State) : Answer :=
  .next (onEvent (fun x => x.confirmed.getD x) m s)

/-- The JOG_START button (R147). -/
def execJogStartButton (m : Lines) (s : State) : Answer :=
  .next (onEvent State.jogButton m s)

/-- The pedal is pressed (R113). -/
def execPedalPressed (m : Lines) (s : State) : Answer :=
  .next (onEvent State.pedalDown m s)

/-- The pedal is released (R113, R115). -/
def execPedalReleased (m : Lines) (s : State) : Answer :=
  .next (onEvent State.pedalUp m s)

/-- PEDAL_DWELL runs out (R115). -/
def execPedalDwellExpiry (m : Lines) (s : State) : Answer :=
  .next (onEvent State.pedalDwellExpired m s)

/-! ### The back gauge (05) -/

/-- The reversal dwell runs out (R97). -/
def execReversalDwellExpiry (m : Lines) (s : State) : Answer :=
  .next (onEvent State.dwellEnded m s)

/-- A segment ends at rest within 2 of its end position (R97). -/
def execSegmentEnd (m : Lines) (s : State) : Answer :=
  .next (onEvent State.gaugeSegmentEnd m s)

/-- The reference switch is made (R99). -/
def execReferenceSwitchMade (m : Lines) (s : State) : Answer :=
  .next (onEvent State.switchFound { m with refSwitch := true } s)

/-- Both switches are released on the drive-off (R99). -/
def execReferenceSwitchesReleased (m : Lines) (s : State) : Answer :=
  .next (onEvent State.switchesReleased { m with refSwitch := false, rearOvertravel := false } s)

/-- The axis lags by more than 100 under servo control (R108). -/
def execFollowingError (m : Lines) (lag : Int) (s : State) : Answer :=
  .next
    (onEvent
      (fun x => if x.servoed = true ∧ Config.followLimit < lag.natAbs then x.gaugeFault .followingError lag else x)
      m s)

/-- An overtravel switch becomes made (R108). -/
def execOvertravel (m : Lines) (s : State) : Answer :=
  .next (onEvent (fun x => if x.bg.state = .fault then x else x.gaugeFault .overtravel x.bg.actual) m s)

/-- The standing gauge leaves its target by more than 2 (R102). -/
def execInPositionLost (m : Lines) (s : State) : Answer :=
  .next (onEvent State.positionLost m s)

/-! ### The cut station (06) -/

/-- The clamp reaches full pressure (R116). -/
def execClampFullPressure (m : Lines) (s : State) : Answer :=
  .next (onEvent State.fullPressure m s)

/-- The clamp timer reaches its limit (R116). -/
def execClampTimeout (m : Lines) (s : State) : Answer :=
  .next (onEvent State.clampTimedOut m s)

/-- The knife reaches bottom dead centre (R117). -/
def execKnifeBdc (m : Lines) (s : State) : Answer :=
  .next (onEvent State.bottomReached m s)

/-- The knife timer reaches its limit (R117). -/
def execKnifeTimeout (m : Lines) (s : State) : Answer :=
  .next (onEvent State.knifeTimedOut m s)

/-- The knife is at its top and the clamp up at the end of a return (R118). -/
def execReturnEnd (m : Lines) (s : State) : Answer :=
  .next (onEvent State.returnEnded { m with knifeTop := true, clampUp := true } s)

/-- The knife is at its top and the clamp up in RECOVER (R126). -/
def execRecoverEnd (m : Lines) (s : State) : Answer :=
  .next (onEvent State.recoverEnded { m with knifeTop := true, clampUp := true } s)

/-! ### The hydraulic supply (07) -/

/-- The run-up timer expires (R129). -/
def execPumpRunUpExpiry (m : Lines) (s : State) : Answer :=
  .next (onEvent State.runUpExpired m s)

/-- The lockout timer expires (R130). -/
def execPumpLockoutExpiry (m : Lines) (s : State) : Answer :=
  .next (onEvent State.lockoutExpired m s)

/-- The idle timer expires (R134). -/
def execPumpIdleExpiry (m : Lines) (s : State) : Answer :=
  .next (onEvent State.idleExpired m s)

/-- PRESSURE_OK is lost (R135). -/
def execPressureLost (m : Lines) (faultFirst : Bool) (s : State) : Answer :=
  .next (onEvent (fun x => x.pressureFails faultFirst) { m with pressureOk := false } s)

/-! ### The pile lift and the jogger (08) -/

/-- The floor stop is made (R145). -/
def execFloorStopMade (m : Lines) (s : State) : Answer :=
  .next (onEvent State.floorMade { m with floorStop := true } s)

/-- The top-of-pile sensor trips (R141): the height is the transfer plane less the platform. -/
def execTopOfPileTrip (m : Lines) (s : State) : Answer :=
  .next (onEvent (fun x => x.raiseEnded (measuredHeight x.lines.platform)) { m with topOfPile := true } s)

/-- The platform stands at the transfer plane with no trip (R141): the height is 0. -/
def execPlatformAtTp (m : Lines) (s : State) : Answer :=
  .next (onEvent (fun x => x.raiseEnded 0) { m with platform := Config.transferPlane } s)

/-- The raise timer expires (R142). -/
def execRaiseTimeout (m : Lines) (s : State) : Answer :=
  .next (onEvent State.raiseExpired m s)

/-- A jog cycle ends (R148). -/
def execJogCycleExpiry (m : Lines) (s : State) : Answer :=
  .next (onEvent State.jogExpired m s)

/-! ### The pile turner (09) -/

/-- The gripper is closed (R157). -/
def execGripClosed (m : Lines) (s : State) : Answer :=
  .next (onEvent State.gripClosedMade { m with gripClosed := true } s)

/-- The quarter sensor becomes made (R155, R157). -/
def execQuarterMark (m : Lines) (s : State) : Answer :=
  .next (onEvent State.quarterMade m s)

/-- The park sensor is made (R157, R162). -/
def execParkSensorMade (m : Lines) (s : State) : Answer :=
  .next (onEvent State.parkMade { m with park := true } s)

/-- The park sensor becomes unmade (R155). -/
def execParkSensorLost (m : Lines) (s : State) : Answer :=
  .next (onEvent State.parkLost { m with park := false } s)

/-! ### The safety inputs (10) -/

/-- A channel of a safety input changes (R165 to R173). -/
def execSafetyChannelChange (m : Lines) (input : SafetyIn) (channel : Channel) (reading : Bool) (now : Nat)
    (order : List Consumers) (s : State) : Answer :=
  .next (onEvent (fun x => x.channelReads input channel reading now order) m s)

/-- A discrepancy timer expires (R166). -/
def execDiscrepancyTimeout (m : Lines) (input : SafetyIn) (s : State) : Answer :=
  .next (onEvent (fun x => x.discrepancyExpires input) m s)

end Sys2Proof.Machine
end

