-- ==== Sys2Proof/Machine/Dispatch.lean ====
section
/-! DEFINITION. One arm per command, each one call of its meaning. -/

namespace Sys2Proof.Machine

def exec (i : Instr) (s : State) : Host.Outcome State Fault Refusal :=
  match i with
  | .powerOn m pedal readings => Sys2Proof.Machine.execPowerOn m pedal readings s
  | .receiveByte m byte gap framingError => Sys2Proof.Machine.execReceiveByte m byte gap framingError s
  | .transmitEnd m => Sys2Proof.Machine.execTransmitEnd m s
  | .unknownRequest m kind tag body => Sys2Proof.Machine.execUnknownRequest m kind tag body s
  | .storeOpen m tag body => Sys2Proof.Machine.execStoreOpen m tag body s
  | .step m tag body => Sys2Proof.Machine.execStep m tag body s
  | .replaceStep m tag body => Sys2Proof.Machine.execReplaceStep m tag body s
  | .deleteProgram m tag body => Sys2Proof.Machine.execDeleteProgram m tag body s
  | .readProgram m tag body => Sys2Proof.Machine.execReadProgram m tag body s
  | .listPrograms m tag body => Sys2Proof.Machine.execListPrograms m tag body s
  | .select m tag body => Sys2Proof.Machine.execSelect m tag body s
  | .run m tag body => Sys2Proof.Machine.execRun m tag body s
  | .hold m tag body => Sys2Proof.Machine.execHold m tag body s
  | .skip m tag body => Sys2Proof.Machine.execSkip m tag body s
  | .abort m tag body => Sys2Proof.Machine.execAbort m tag body s
  | .locate m tag body => Sys2Proof.Machine.execLocate m tag body s
  | .locateByLabel m tag program index label follow => Sys2Proof.Machine.execLocateByLabel m tag program index label follow s
  | .clearFault m tag body => Sys2Proof.Machine.execClearFault m tag body s
  | .lineHalt m tag body => Sys2Proof.Machine.execLineHalt m tag body s
  | .confirm m tag body => Sys2Proof.Machine.execConfirm m tag body s
  | .confirmButton m => Sys2Proof.Machine.execConfirmButton m s
  | .gaugeMove m tag body => Sys2Proof.Machine.execGaugeMove m tag body s
  | .gaugeReference m tag body => Sys2Proof.Machine.execGaugeReference m tag body s
  | .reversalDwellExpiry m => Sys2Proof.Machine.execReversalDwellExpiry m s
  | .segmentEnd m => Sys2Proof.Machine.execSegmentEnd m s
  | .referenceSwitchMade m => Sys2Proof.Machine.execReferenceSwitchMade m s
  | .followingError m lag => Sys2Proof.Machine.execFollowingError m lag s
  | .overtravel m => Sys2Proof.Machine.execOvertravel m s
  | .inPositionLost m => Sys2Proof.Machine.execInPositionLost m s
  | .cutNow m tag body => Sys2Proof.Machine.execCutNow m tag body s
  | .pedalPressed m => Sys2Proof.Machine.execPedalPressed m s
  | .pedalReleased m => Sys2Proof.Machine.execPedalReleased m s
  | .pedalDwellExpiry m => Sys2Proof.Machine.execPedalDwellExpiry m s
  | .clampFullPressure m => Sys2Proof.Machine.execClampFullPressure m s
  | .clampTimeout m => Sys2Proof.Machine.execClampTimeout m s
  | .knifeBdc m => Sys2Proof.Machine.execKnifeBdc m s
  | .knifeTimeout m => Sys2Proof.Machine.execKnifeTimeout m s
  | .returnEnd m => Sys2Proof.Machine.execReturnEnd m s
  | .recoverEnd m => Sys2Proof.Machine.execRecoverEnd m s
  | .bladeReset m tag body => Sys2Proof.Machine.execBladeReset m tag body s
  | .pumpOn m tag body => Sys2Proof.Machine.execPumpOn m tag body s
  | .pumpOff m tag body => Sys2Proof.Machine.execPumpOff m tag body s
  | .pumpRunUpExpiry m => Sys2Proof.Machine.execPumpRunUpExpiry m s
  | .pumpLockoutExpiry m => Sys2Proof.Machine.execPumpLockoutExpiry m s
  | .pumpIdleExpiry m => Sys2Proof.Machine.execPumpIdleExpiry m s
  | .pressureLost m faultFirst => Sys2Proof.Machine.execPressureLost m faultFirst s
  | .newPile m tag body => Sys2Proof.Machine.execNewPile m tag body s
  | .liftLower m tag body => Sys2Proof.Machine.execLiftLower m tag body s
  | .floorStopMade m => Sys2Proof.Machine.execFloorStopMade m s
  | .topOfPileTrip m => Sys2Proof.Machine.execTopOfPileTrip m s
  | .platformAtTp m => Sys2Proof.Machine.execPlatformAtTp m s
  | .raiseTimeout m => Sys2Proof.Machine.execRaiseTimeout m s
  | .jogStart m tag body => Sys2Proof.Machine.execJogStart m tag body s
  | .jogStartButton m => Sys2Proof.Machine.execJogStartButton m s
  | .jogStartDiscard m tag => Sys2Proof.Machine.execJogStartDiscard m tag s
  | .jogCycleExpiry m => Sys2Proof.Machine.execJogCycleExpiry m s
  | .turnNow m tag body => Sys2Proof.Machine.execTurnNow m tag body s
  | .turnerPark m tag body => Sys2Proof.Machine.execTurnerPark m tag body s
  | .gripClosed m => Sys2Proof.Machine.execGripClosed m s
  | .quarterMark m => Sys2Proof.Machine.execQuarterMark m s
  | .parkSensorMade m => Sys2Proof.Machine.execParkSensorMade m s
  | .parkSensorLost m => Sys2Proof.Machine.execParkSensorLost m s
  | .trackQuery m tag body => Sys2Proof.Machine.execTrackQuery m tag body s
  | .trackDeclare m tag body => Sys2Proof.Machine.execTrackDeclare m tag body s
  | .trackClear m tag body => Sys2Proof.Machine.execTrackClear m tag body s
  | .settingRead m tag body => Sys2Proof.Machine.execSettingRead m tag body s
  | .settingWrite m tag body => Sys2Proof.Machine.execSettingWrite m tag body s
  | .estopAck m tag body => Sys2Proof.Machine.execEstopAck m tag body s
  | .noticeSelect m tag body => Sys2Proof.Machine.execNoticeSelect m tag body s
  | .ident m tag body => Sys2Proof.Machine.execIdent m tag body s
  | .status m tag body => Sys2Proof.Machine.execStatus m tag body s
  | .reset m tag body => Sys2Proof.Machine.execReset m tag body s
  | .softReset m => Sys2Proof.Machine.execSoftReset m s
  | .safetyChannelChange m input channel reading now order => Sys2Proof.Machine.execSafetyChannelChange m input channel reading now order s
  | .discrepancyTimeout m input => Sys2Proof.Machine.execDiscrepancyTimeout m input s
  | .referenceSwitchesReleased m => Sys2Proof.Machine.execReferenceSwitchesReleased m s

end Sys2Proof.Machine
end

