-- ==== Sys2Proof/WellFormed.lean ====
section
/-! DEFINITION. Well-formed commands: the sample of the lines within the encoders' ranges, a body the link can carry,
and the operands of a row within what the row stands for. Every command has a meaning whatever its operands (log 36). -/

namespace Sys2Proof

/-- The sample of the lines a command carries. -/
def Instr.lines : Instr → Lines
  | .powerOn m _ _ => m
  | .receiveByte m _ _ _ => m
  | .transmitEnd m => m
  | .unknownRequest m _ _ _ => m
  | .storeOpen m _ _ => m
  | .step m _ _ => m
  | .replaceStep m _ _ => m
  | .deleteProgram m _ _ => m
  | .readProgram m _ _ => m
  | .listPrograms m _ _ => m
  | .select m _ _ => m
  | .run m _ _ => m
  | .hold m _ _ => m
  | .skip m _ _ => m
  | .abort m _ _ => m
  | .locate m _ _ => m
  | .locateByLabel m _ _ _ _ _ => m
  | .clearFault m _ _ => m
  | .lineHalt m _ _ => m
  | .confirm m _ _ => m
  | .confirmButton m => m
  | .gaugeMove m _ _ => m
  | .gaugeReference m _ _ => m
  | .reversalDwellExpiry m => m
  | .segmentEnd m => m
  | .referenceSwitchMade m => m
  | .followingError m _ => m
  | .overtravel m => m
  | .inPositionLost m => m
  | .cutNow m _ _ => m
  | .pedalPressed m => m
  | .pedalReleased m => m
  | .pedalDwellExpiry m => m
  | .clampFullPressure m => m
  | .clampTimeout m => m
  | .knifeBdc m => m
  | .knifeTimeout m => m
  | .returnEnd m => m
  | .recoverEnd m => m
  | .bladeReset m _ _ => m
  | .pumpOn m _ _ => m
  | .pumpOff m _ _ => m
  | .pumpRunUpExpiry m => m
  | .pumpLockoutExpiry m => m
  | .pumpIdleExpiry m => m
  | .pressureLost m _ => m
  | .newPile m _ _ => m
  | .liftLower m _ _ => m
  | .floorStopMade m => m
  | .topOfPileTrip m => m
  | .platformAtTp m => m
  | .raiseTimeout m => m
  | .jogStart m _ _ => m
  | .jogStartButton m => m
  | .jogStartDiscard m _ => m
  | .jogCycleExpiry m => m
  | .turnNow m _ _ => m
  | .turnerPark m _ _ => m
  | .gripClosed m => m
  | .quarterMark m => m
  | .parkSensorMade m => m
  | .parkSensorLost m => m
  | .trackQuery m _ _ => m
  | .trackDeclare m _ _ => m
  | .trackClear m _ _ => m
  | .settingRead m _ _ => m
  | .settingWrite m _ _ => m
  | .estopAck m _ _ => m
  | .noticeSelect m _ _ => m
  | .ident m _ _ => m
  | .status m _ _ => m
  | .reset m _ _ => m
  | .softReset m => m
  | .safetyChannelChange m _ _ _ _ _ => m
  | .discrepancyTimeout m _ => m
  | .referenceSwitchesReleased m => m

/-- The frame of the host link a request row stands for. -/
def Instr.frame : Instr → Option Machine.Frame
  | .powerOn _ _ _ => none
  | .receiveByte _ _ _ _ => none
  | .transmitEnd _ => none
  | .unknownRequest _ kind tag body => some ⟨kind, tag, body⟩
  | .storeOpen _ tag body => some ⟨Machine.Request.storeOpen.kind, tag, body⟩
  | .step _ tag body => some ⟨Machine.Request.step.kind, tag, body⟩
  | .replaceStep _ tag body => some ⟨Machine.Request.replaceStep.kind, tag, body⟩
  | .deleteProgram _ tag body => some ⟨Machine.Request.deleteProgram.kind, tag, body⟩
  | .readProgram _ tag body => some ⟨Machine.Request.readProgram.kind, tag, body⟩
  | .listPrograms _ tag body => some ⟨Machine.Request.listPrograms.kind, tag, body⟩
  | .select _ tag body => some ⟨Machine.Request.select.kind, tag, body⟩
  | .run _ tag body => some ⟨Machine.Request.run.kind, tag, body⟩
  | .hold _ tag body => some ⟨Machine.Request.hold.kind, tag, body⟩
  | .skip _ tag body => some ⟨Machine.Request.skip.kind, tag, body⟩
  | .abort _ tag body => some ⟨Machine.Request.abort.kind, tag, body⟩
  | .locate _ tag body => some ⟨Machine.Request.locate.kind, tag, body⟩
  | .locateByLabel _ tag program index label follow =>
    some ⟨Machine.Request.locate.kind, tag, [1, program, index] ++ Machine.leBytes 2 label.toNat ++ [follow]⟩
  | .clearFault _ tag body => some ⟨Machine.Request.clearFault.kind, tag, body⟩
  | .lineHalt _ tag body => some ⟨Machine.Request.lineHalt.kind, tag, body⟩
  | .confirm _ tag body => some ⟨Machine.Request.confirm.kind, tag, body⟩
  | .confirmButton _ => none
  | .gaugeMove _ tag body => some ⟨Machine.Request.gaugeMove.kind, tag, body⟩
  | .gaugeReference _ tag body => some ⟨Machine.Request.gaugeReference.kind, tag, body⟩
  | .reversalDwellExpiry _ => none
  | .segmentEnd _ => none
  | .referenceSwitchMade _ => none
  | .followingError _ _ => none
  | .overtravel _ => none
  | .inPositionLost _ => none
  | .cutNow _ tag body => some ⟨Machine.Request.cutNow.kind, tag, body⟩
  | .pedalPressed _ => none
  | .pedalReleased _ => none
  | .pedalDwellExpiry _ => none
  | .clampFullPressure _ => none
  | .clampTimeout _ => none
  | .knifeBdc _ => none
  | .knifeTimeout _ => none
  | .returnEnd _ => none
  | .recoverEnd _ => none
  | .bladeReset _ tag body => some ⟨Machine.Request.bladeReset.kind, tag, body⟩
  | .pumpOn _ tag body => some ⟨Machine.Request.pumpOn.kind, tag, body⟩
  | .pumpOff _ tag body => some ⟨Machine.Request.pumpOff.kind, tag, body⟩
  | .pumpRunUpExpiry _ => none
  | .pumpLockoutExpiry _ => none
  | .pumpIdleExpiry _ => none
  | .pressureLost _ _ => none
  | .newPile _ tag body => some ⟨Machine.Request.newPile.kind, tag, body⟩
  | .liftLower _ tag body => some ⟨Machine.Request.liftLower.kind, tag, body⟩
  | .floorStopMade _ => none
  | .topOfPileTrip _ => none
  | .platformAtTp _ => none
  | .raiseTimeout _ => none
  | .jogStart _ tag body => some ⟨Machine.Request.jogStart.kind, tag, body⟩
  | .jogStartButton _ => none
  | .jogStartDiscard _ tag => some ⟨Machine.Request.jogStart.kind, tag, [1]⟩
  | .jogCycleExpiry _ => none
  | .turnNow _ tag body => some ⟨Machine.Request.turnNow.kind, tag, body⟩
  | .turnerPark _ tag body => some ⟨Machine.Request.turnerPark.kind, tag, body⟩
  | .gripClosed _ => none
  | .quarterMark _ => none
  | .parkSensorMade _ => none
  | .parkSensorLost _ => none
  | .trackQuery _ tag body => some ⟨Machine.Request.trackQuery.kind, tag, body⟩
  | .trackDeclare _ tag body => some ⟨Machine.Request.trackDeclare.kind, tag, body⟩
  | .trackClear _ tag body => some ⟨Machine.Request.trackClear.kind, tag, body⟩
  | .settingRead _ tag body => some ⟨Machine.Request.settingRead.kind, tag, body⟩
  | .settingWrite _ tag body => some ⟨Machine.Request.settingWrite.kind, tag, body⟩
  | .estopAck _ tag body => some ⟨Machine.Request.estopAck.kind, tag, body⟩
  | .noticeSelect _ tag body => some ⟨Machine.Request.noticeSelect.kind, tag, body⟩
  | .ident _ tag body => some ⟨Machine.Request.ident.kind, tag, body⟩
  | .status _ tag body => some ⟨Machine.Request.status.kind, tag, body⟩
  | .reset _ tag body => some ⟨Machine.Request.reset.kind, tag, body⟩
  | .softReset _ => none
  | .safetyChannelChange _ _ _ _ _ _ => none
  | .discrepancyTimeout _ _ => none
  | .referenceSwitchesReleased _ => none

/-- The platform lies between the floor stop and the transfer plane (R139), and the axis encoder and the clamp height
within fields of the link (log 36). -/
def Lines.fit (m : Lines) : Bool :=
  decide (m.platform ≤ Config.transferPlane ∧ m.encoder.natAbs < 2 ^ 29 ∧ m.clampHeight.natAbs < 2 ^ 15)

/-- A request's body fits a frame (Table 8). -/
def Instr.bodyFits (i : Instr) : Bool := i.frame.all fun f => decide (f.body.length ≤ Config.maxBody)

/-- What a row asks of its own operands. -/
def Instr.operandsFit : Instr → Bool
  | .powerOn _ _ _ => true
  | .receiveByte _ _ _ _ => true
  | .transmitEnd _ => true
  | .unknownRequest _ kind _ _ => decide (Machine.Request.ofKind kind = none)
  | .storeOpen _ _ _ => true
  | .step _ _ _ => true
  | .replaceStep _ _ _ => true
  | .deleteProgram _ _ _ => true
  | .readProgram _ _ _ => true
  | .listPrograms _ _ _ => true
  | .select _ _ _ => true
  | .run _ _ _ => true
  | .hold _ _ _ => true
  | .skip _ _ _ => true
  | .abort _ _ _ => true
  | .locate _ _ body => decide (body.head? ≠ some 1 ∨ body.length ≠ 6)
  | .locateByLabel _ _ _ _ _ _ => true
  | .clearFault _ _ _ => true
  | .lineHalt _ _ _ => true
  | .confirm _ _ _ => true
  | .confirmButton _ => true
  | .gaugeMove _ _ _ => true
  | .gaugeReference _ _ _ => true
  | .reversalDwellExpiry _ => true
  | .segmentEnd _ => true
  | .referenceSwitchMade _ => true
  | .followingError _ lag => decide (Config.followLimit < lag.natAbs ∧ lag.natAbs < 2 ^ 31)
  | .overtravel _ => true
  | .inPositionLost _ => true
  | .cutNow _ _ _ => true
  | .pedalPressed _ => true
  | .pedalReleased _ => true
  | .pedalDwellExpiry _ => true
  | .clampFullPressure _ => true
  | .clampTimeout _ => true
  | .knifeBdc _ => true
  | .knifeTimeout _ => true
  | .returnEnd _ => true
  | .recoverEnd _ => true
  | .bladeReset _ _ _ => true
  | .pumpOn _ _ _ => true
  | .pumpOff _ _ _ => true
  | .pumpRunUpExpiry _ => true
  | .pumpLockoutExpiry _ => true
  | .pumpIdleExpiry _ => true
  | .pressureLost _ _ => true
  | .newPile _ _ _ => true
  | .liftLower _ _ _ => true
  | .floorStopMade _ => true
  | .topOfPileTrip _ => true
  | .platformAtTp _ => true
  | .raiseTimeout _ => true
  | .jogStart _ _ body => decide (body ≠ [1])
  | .jogStartButton _ => true
  | .jogStartDiscard _ _ => true
  | .jogCycleExpiry _ => true
  | .turnNow _ _ _ => true
  | .turnerPark _ _ _ => true
  | .gripClosed _ => true
  | .quarterMark _ => true
  | .parkSensorMade _ => true
  | .parkSensorLost _ => true
  | .trackQuery _ _ _ => true
  | .trackDeclare _ _ _ => true
  | .trackClear _ _ _ => true
  | .settingRead _ _ _ => true
  | .settingWrite _ _ _ => true
  | .estopAck _ _ _ => true
  | .noticeSelect _ _ _ => true
  | .ident _ _ _ => true
  | .status _ _ _ => true
  | .reset _ _ _ => true
  | .softReset _ => true
  | .safetyChannelChange _ _ _ _ _ order => decide order.Nodup
  | .discrepancyTimeout _ _ => true
  | .referenceSwitchesReleased _ => true

/-- The well-formed commands. -/
def Instr.wellFormed (i : Instr) : Bool := i.lines.fit && i.bodyFits && i.operandsFit

end Sys2Proof
end

