-- ==== Sys2Proof/Safety.lean ====
section
/-! DEFINITION. What the LC-420 keeps at every step: the laws of the link, the store, the Runner's program, the gauge,
the travel, the cut station, the supply and the pile, the area law of the tracker, and a machine at rest. -/

namespace Sys2Proof.Machine

/-! ### The link (R4, R5, R9, R10, R11) -/

/-- The frame on the line is the front one of its source (R10). -/
def Link.lineFront (l : Link) : Prop :=
  match l.line with
  | none => l.queue = [] ∧ l.busy = [] ∧ l.notices = []
  | some ⟨.linkBusy, f⟩ => l.busy.head? = some f
  | some ⟨.notice, f⟩ => l.notices.head? = some f
  | some ⟨.reply, f⟩ => l.readyReply = some f

/-- The head of the receive queue is decided, the frames behind it are not (R5). -/
def Link.headDecided (l : Link) : Prop :=
  match l.queue with
  | [] => True
  | q :: rest => q.reply.isSome = true ∧ ∀ x ∈ rest, x.reply = none

/-- The law of the link: its capacities (R4, R9), the mask's bits (R11), the head decided (R5), the line busy while a
frame is ready (R10). -/
structure LinkOk (l : Link) : Prop where
  queue : l.queue.length ≤ Config.queueFrames
  busy : l.busy.length ≤ Config.queueFrames
  notices : l.notices.length ≤ Config.noticePlaces
  lost : l.lost ≤ 65535
  mask : l.mask.toNat < 2 ^ 9
  head : l.headDecided
  line : l.lineFront

/-! ### The store (R17 to R22, R176) -/

/-- Every setting lies within its range, and the priorities are a permutation (R176). -/
def SettingsOk (x : Settings) : Prop :=
  (∀ code r, settingRange code = some r → r.least ≤ x.get code ∧ x.get code ≤ r.greatest) ∧
    permutation x.priorityCut x.priorityLift x.priorityTurn = true

/-- What the store accepts of a program: a header (R19), at most 250 steps (R17), each accepted (R20). -/
def ProgramOk (p : Program) : Prop :=
  p.header.accepted = true ∧ p.steps.length ≤ Config.maxSteps ∧ ∀ r ∈ p.steps, r.accepted = true

/-- The open window stands at the end of an incomplete program, short of its end index (R24, R26). -/
def WindowOk (l : List (Nat × Program)) (w : Window) : Prop :=
  ∃ p, progLookup l w.program = some p ∧ p.complete = false ∧ p.steps.length = w.pointer ∧ w.pointer < w.endIndex ∧
    w.endIndex ≤ Config.maxSteps

/-- The law of the store: numbers 1..99 strictly rising (R17), programs the store accepts, at most 4000 units used
(R18), the window (R22), the settings (R176). -/
structure StoreOk (x : Store) : Prop where
  rising : x.programs.Pairwise fun a b => a.1 < b.1
  numbers : ∀ e ∈ x.programs, 1 ≤ e.1 ∧ e.1 ≤ Config.maxProgram
  programs : ∀ e ∈ x.programs, ProgramOk e.2
  pool : usedUnits x.programs ≤ Config.poolUnits
  window : ∀ w, x.window = some w → WindowOk x.programs w
  settings : SettingsOk x.settings

/-! ### The Runner's program (R66) -/

/-- A Runner READY, RUNNING, HELD or FAULTED has a current program, which exists and is complete; in IDLE there is none
(R66). -/
def RunnerOk (r : Runner) (l : List (Nat × Program)) : Prop :=
  (r.state = .idle ↔ r.program = 0) ∧
    (r.program ≠ 0 → ∃ p, progLookup l r.program = some p ∧ p.complete = true)

/-! ### The gauge (R96, R102) -/

/-- The gauge is busy (05, 5.1), of its state alone. -/
def GaugeState.busy : GaugeState → Bool
  | .referencing | .movingBack | .dwell | .approaching => true
  | .unreferenced | .standing | .fault => false

/-- The reference flag each state has (R96); in REFERENCING the switch is still sought, for the approach that follows
its finding is made in DWELL and APPROACHING (R99). -/
def GaugeState.flag : GaugeState → Bool
  | .standing | .movingBack | .dwell | .approaching => true
  | .unreferenced | .fault | .referencing => false

/-- A segment that goes to a position, and so needs the reference. -/
def Segment.isTo : Segment → Bool
  | .to _ _ => true
  | .offSwitches | .ontoSwitch => false

/-- The law of the gauge: the reference flag of its state (R96), a move exactly while busy, a dwell timer only within
one, in position only in STANDING (R102), positioning segments exactly with the reference. -/
structure GaugeOk (g : Gauge) : Prop where
  flag : g.referenced = g.state.flag
  moves : g.state.busy = g.move.isSome
  dwells : g.dwell.isSome = true → g.state.busy = true
  inPosition : g.inPos = true → g.state = .standing
  segments : ∀ m, g.move = some m → ∀ x ∈ m.plan, x.isTo = g.referenced

/-! ### The travel (R103) -/

/-- A position within the gauge's travel, GMIN..GMAX. -/
abbrev InTravel (x : Int) : Prop := (Config.gmin : Int) ≤ x ∧ x ≤ Config.gmax

/-- The end position of a segment lies within the travel; a search segment has none. -/
def Segment.inTravel : Segment → Prop
  | .to _ x => InTravel x
  | .offSwitches | .ontoSwitch => True

/-- The law of the travel (R103): the target a referenced gauge is commanded to, the goal and every end position of its
move, and the stored move lie within GMIN..GMAX. The issuers keep it by what they hold: the figures of an iteration
(R61), the retract positions (at most GMAX), and depths of at most GMAX on the table, aside and prepared (R57). -/
structure TravelOk (s : State) : Prop where
  target : s.bg.referenced = true → InTravel s.bg.target
  goal : ∀ m, s.bg.move = some m → InTravel m.goal
  plan : ∀ m, s.bg.move = some m → ∀ x ∈ m.plan, x.inTravel
  slot : ∀ t, s.bg.slot = some t → InTravel t
  figures : ∀ c, s.pr.figures = some c → InTravel c.target
  retract : s.pr.retractPos ≤ Config.gmax
  record : ∀ r, s.pt.record = some r → r.clearance ≤ Config.gmax
  manual : ∀ m, s.pt.manual = some m → m.clearance ≤ (Config.gmax : Int)
  table : ∀ t, s.gt.table = some t → t.depth ≤ Config.gmax
  aside : ∀ p ∈ s.gt.aside, p.rect.depth p.q ≤ Config.gmax
  prepared : ∀ x, s.gt.prepared = some x → x.2 ≤ Config.gmax

/-! ### The cut station (R113, R116) -/

/-- The law of the knife (R116): the station holds the grant from PRECLAMPED to the end of a return, the permission is
true in GRANT_WAIT, CLAMPING and CUTTING, the clamp is at high pressure in CLAMPING and CUTTING, and the knife is driven
down exactly in CUTTING. -/
structure CutOk (s : State) : Prop where
  held :
    s.cs.state = .preclamped ∨ s.cs.state = .clamping ∨ s.cs.state = .cutting ∨ s.cs.state = .returning ∨
      s.cs.state = .abortReturn → s.hs.holder = some .cut
  permitted :
    s.cs.state = .grantWait ∨ s.cs.state = .clamping ∨ s.cs.state = .cutting → s.sm.permission = true
  pressed : s.cs.state = .clamping ∨ s.cs.state = .cutting → s.cs.clampValve = .high
  knife : s.cs.knifeValve = .down ↔ s.cs.state = .cutting

/-! ### The supply (R128 to R134) -/

/-- The law of the supply: a grant is held only in READY (R132); each timer runs exactly in its state (R129, R130);
the contactor is closed exactly while the pump runs (R129); the idle timer runs only with no holder and no request
(R134); a stop pends only on a holder with the enable flag clear (R136). -/
structure SupplyOk (h : Supply) : Prop where
  grant : h.holder ≠ none → h.pump = .ready
  lockout : h.lockoutTimer.isSome = decide (h.pump = .lockout)
  runUp : h.runUpTimer.isSome = decide (h.pump = .runUp)
  contactor : h.contactor = decide (h.pump = .runUp ∨ h.pump = .ready)
  idle : h.idleTimer.isSome = true → h.pump = .ready ∧ h.holder = none ∧ h.anyRequest = false
  stop : h.stopPending = true → h.holder ≠ none ∧ h.enable = false

/-! ### The pile (R140) -/

/-- The law of the pile record: H0 plus the restored total equals the taken total plus Hc (R140); the record of an
initial raise has counted nothing yet (R143). -/
structure PileOk (l : Lift) : Prop where
  law : ∀ p, l.pile = some p → p.h0 + p.restored = p.taken + p.hc
  initial : l.raising = some .initial → ∀ p, l.pile = some p → p.taken = 0 ∧ p.restored = 0

/-! ### The area of a load (R44) -/

/-- Every part of the open load's sheet is on the table, set aside, waste or finished (R44). -/
def AreaOk (g : Tracker) : Prop :=
  ∀ o, g.openLoad = some o → g.areaLeft + o.waste + o.finishedArea = o.w * o.ls

/-- The account of the loads (R42, R43, R44): the open load's area law, and with no load open an empty table and an empty
aside stack. -/
structure AccountOk (g : Tracker) : Prop where
  area : AreaOk g
  table : g.openLoad = none → g.table = none
  aside : g.openLoad = none → g.aside = []

/-! ### All of them -/

/-- The laws every step keeps, that of the travel from where a turn fits and the gauge stands in its travel, that of the
account from where a confirm meets what its step's checks found (R55). -/
structure Inv (s : State) : Prop where
  link : LinkOk s.li
  store : StoreOk s.ps
  runner : RunnerOk s.pr s.ps.programs
  gauge : GaugeOk s.bg
  supply : SupplyOk s.hs
  pile : PileOk s.pl
  travel : TravelOk s
  cut : CutOk s
  account : AccountOk s.gt

/-! ### A quiet machine -/

/-- Nothing waits to go on by itself when the command in hand ends: what `State.settle` looks at finds nothing to do,
and only a RUN_STATE that is owed goes out (R67). Nothing waits to be handed; no Runner stands at a hold point with a
reason to hold or looks at the slot; no cycle stands at its hold point without right; no manual cut waits for the
station; and every unit that needs the grant has asked for it or has it. -/
def State.quiet (s : State) : Bool :=
  decide (s.pr.waits = .nothing) &&
    !(s.runnerCycleHeld && (s.pr.abortPending || s.pr.skipPending)) &&
    (!s.atHoldPoint || s.standingReason.isNone) &&
    (!decide (s.pr.state = .running ∧ s.pr.phase = .infeedWait) ||
      (decide (s.jg.state ≠ .ready) && !(decide (s.jg.state = .empty) && s.pl.spent))) &&
    (!s.cutAtHoldPoint ||
      s.cs.cycle.all fun c =>
        match c.issuer with
        | .runner => decide (s.pr.state = .running)
        | .manual => s.manualStop.isNone) &&
    (s.cs.manual.all fun x => !x.approachDone) &&
    (decide (s.cs.state ≠ .recover) || s.sm.estopLatch || s.hs.reqCut || decide (s.hs.holder = some .cut)) &&
    (decide (s.pl.state ≠ .raising) || s.hs.reqLift || decide (s.hs.holder = some .lift)) &&
    (decide (s.pt.state ≠ .releasing) || s.hs.reqTurn || decide (s.hs.holder = some .turn)) &&
    (!(decide (s.pt.state = .gripping) && s.cutterHome) || s.hs.reqTurn || decide (s.hs.holder = some .turn))

/-! ### Requests heard at once (R4, R5, R7) -/

/-- The state in which a command is taken: its lines sampled and, for a request row, its frame alone in the receive
queue, undecided (R4). -/
def State.hearing (s : State) (c : Instr) : State :=
  match c.frame with
  | some f => (s.sample c.lines).setLi { s.li with queue := [⟨f, none⟩] }
  | none => s.sample c.lines

/-- The reply of the request at the head of the receive queue has become ready (R5, R7). -/
def State.replied (s : State) (f : Frame) (body : List Byte) : State := s.setLi (s.li.setReply (replyFrame f body))

/-- The request row leads to `t` with the reply `body`. The blocks then do what they have become able to, which in a
quiet machine is no more than the RUN_STATE notice it may owe (R67), and a free line starts its next frame (R10). -/
def Decides (c : Instr) (s t : State) (body : List Byte) : Prop :=
  ∃ f, c.frame = some f ∧ exec c s = .next (t.replied f body).settle.kick ∧
    (t.quiet = true → exec c s = .next (t.replied f body).flush.kick)

/-- The machine-side row leads to `t`. The blocks then do what they have become able to, which in a quiet machine is no
more than the RUN_STATE notice it may owe (R67), and a free line starts its next frame (R10). -/
def Becomes (c : Instr) (s t : State) : Prop :=
  exec c s = .next t.settle.kick ∧ (t.quiet = true → exec c s = .next t.flush.kick)

/-- Bytes of the host link, each after its gap, arriving one after another without a framing error. -/
def feed (m : Lines) : List (Nat × Byte) → State → Host.Outcome State Fault Refusal
  | [], s => .next s
  | (gap, byte) :: rest, s =>
    match exec (.receiveByte m byte gap false) s with
    | .next t => feed m rest t
    | .fault e => .fault e
    | .refused r => .refused r

end Sys2Proof.Machine
end

