-- ==== Sys2Proof/Certificates/Slice0/Obligations.lean ====
section
/-! DEFINITION. The statements about the LC-420, by the chapters of the spec. -/

open Sys2Proof Sys2Proof.Machine

/-- O1. A step runs the command at the front of the queue. The steps of the part are its operations and events, each
whole (95). The idling step is the model's choice (log 3). -/
def Obligations.StepRunsTheFrontCommand : Prop :=
  (∀ s c rest, s.pending = c :: rest → step s = exec c (s.setPending rest)) ∧
    ∀ s : State, s.pending = [] → step s = .next s

/-- O2. Every command, in every state, has a next state, and leaves the waiting commands alone. Line faults are state
(R90); no operation or event of the table stops the part (log 34). -/
def Obligations.EveryCommandHasANextState : Prop :=
  ∀ (c : Instr) (s : State), ∃ t, exec c s = .next t ∧ t.pending = s.pending

/-- O3. The bytes of a frame, received one by one, do what its request row does. The frame of Table 8 with the check of
R1, assembled by the receiver of R2, is the good frame that R4 takes. -/
def Obligations.WireBytesAreTheRequestRow : Prop :=
  ∀ (c : Instr) (f : Frame) (s : State) (l : List (Nat × Byte)),
    c.frame = some f → f.body.length ≤ 240 → s.li.receiver = .hunting →
      l.map Prod.snd = f.wire → (∀ e ∈ l.tail, e.1 ≤ 20) → feed c.lines l s = exec c s

/-- O4. RECEIVE_BYTE hunts for A5h, collects a frame, and hands a good one on. R2. That a start byte with a framing
error begins no frame is read from its condition on the bytes of a frame. -/
def Obligations.BytesOfAFrameAreCollected : Prop :=
  ∀ (s : State) (m : Lines) (b : Byte) (gap : Nat) (bad : Bool),
    let c : Instr := .receiveByte m b gap bad
    let goes : Receiver → Prop := fun x => exec c s = .next ((s.sample m).setLi { s.li with receiver := x })
    (s.li.receiver = .hunting → b = 0xA5 → bad = false → goes (.assembling [])) ∧
    (s.li.receiver = .hunting → b ≠ 0xA5 ∨ bad = true → goes .hunting) ∧
    ∀ got, s.li.receiver = .assembling got → gap ≤ 20 → bad = false →
      (got.length < 2 → goes (.assembling (got ++ [b]))) ∧
      (∀ kind tag len rest, got ++ [b] = kind :: tag :: len :: rest → len.toNat ≤ 240 →
        rest.length < len.toNat + 2 → goes (.assembling (got ++ [b]))) ∧
      ∀ kind tag len body lo hi, got ++ [b] = kind :: tag :: len :: (body ++ [lo, hi]) → len.toNat ≤ 240 →
        body.length = len.toNat → hi ++ lo = crc (kind :: tag :: len :: body) →
        ∀ row : Instr, row.lines = m → row.frame = some ⟨kind, tag, body⟩ →
          exec c s = exec row (s.setLi { s.li with receiver := .hunting })

/-- O5. A frame that fails is discarded, and the hunt resumes where R3 says. R3, its table row by row. -/
def Obligations.DamagedFramesAreDiscarded : Prop :=
  ∀ (s : State) (m : Lines) (b : Byte) (gap : Nat) (bad : Bool),
    let c : Instr := .receiveByte m b gap bad
    let hunts : Prop := exec c s = .next ((s.sample m).setLi { s.li with receiver := .hunting })
    (s.li.receiver = .hunting → ∀ gap', exec c s = exec (.receiveByte m b gap' bad) s) ∧
    ∀ got, s.li.receiver = .assembling got →
      (20 < gap → exec c s = exec c (s.setLi { s.li with receiver := .hunting })) ∧
      (gap ≤ 20 → bad = true → hunts) ∧
      (gap ≤ 20 → bad = false → ∀ kind tag len, got ++ [b] = [kind, tag, len] → 240 < len.toNat → hunts) ∧
      (gap ≤ 20 → bad = false → ∀ kind tag len body lo hi,
        got ++ [b] = kind :: tag :: len :: (body ++ [lo, hi]) → len.toNat ≤ 240 → body.length = len.toNat →
          hi ++ lo ≠ crc (kind :: tag :: len :: body) → hunts)

/-- O6. A good frame is taken and decided, queued, or dropped with LINK_BUSY. R4. -/
def Obligations.ReceiveQueueTakesOrDrops : Prop :=
  (∀ (c : Instr) (f : Frame) (s : State), c.frame = some f →
    let s1 := s.sample c.lines
    (s.li.queue = [] →
      ∃ t r, exec c s = .next t ∧ t.li.queue = [⟨f, some r⟩] ∧ r.kind = f.kind + 0x80 ∧ r.tag = f.tag) ∧
    (s.li.queue ≠ [] → s.li.queue.length < 4 →
      exec c s = .next ((s1.setLi { s.li with queue := s.li.queue ++ [⟨f, none⟩] }).kick)) ∧
    (4 ≤ s.li.queue.length → s.li.busy.length < 4 →
      exec c s = .next ((s1.setLi { s.li with busy := s.li.busy ++ [⟨f.kind + 0x80, f.tag, [0x0D]⟩] }).kick)) ∧
    (4 ≤ s.li.queue.length → 4 ≤ s.li.busy.length → exec c s = .next s1.kick)) ∧
  ∀ m pedal x s, ∃ t, exec (.powerOn m pedal x) s = .next t ∧ t.li.queue = [] ∧ t.li.busy = []

/-- O7. TRANSMIT_END takes the sent frame away, decides the next request and starts the next frame in the order of R10.
R4, R5 and R10; the lists they name are the model's busy, queue and notices. The model's choices: a LINK_BUSY reply
leaves its list when its last byte is sent (log 7), point 2 looks at the notices that waited before the next
decision (log 8), and a free line (log 38). -/
def Obligations.TransmitLineOrder : Prop :=
  (∀ (s : State) (m : Lines) (src : TxSource) (g : Frame), s.li.line = some ⟨src, g⟩ →
    (src = .reply → g.isResetReply = false) →
      ∃ t, exec (.transmitEnd m) s = .next t ∧
        t.li.receiver = s.li.receiver ∧
        t.li.busy = (if src = .linkBusy then s.li.busy.tail else s.li.busy) ∧
        t.li.queue.map Queued.frame = (if src = .reply then s.li.queue.tail else s.li.queue).map Queued.frame ∧
        (src = .reply → ∀ q, t.li.queue.head? = some q → q.reply.isSome = true) ∧
        (src = .notice → t = (s.sample m).setLi { s.li with notices := s.li.notices.tail, line := t.li.line }) ∧
        (src = .linkBusy → t = (s.sample m).setLi { s.li with busy := s.li.busy.tail, line := t.li.line }) ∧
        (src = .reply → ∃ more, t.li.notices = s.li.notices ++ more) ∧
        (src = .reply →
          let left := (s.sample m).setLi { s.li with queue := s.li.queue.tail }
          (∀ f rest, s.li.queue.tail = ⟨f, none⟩ :: rest →
            let x := ((decideFrame f left).1.replied f (decideFrame f left).2).settle
            t = x.setLi { x.li with line := t.li.line }) ∧
          ((∀ q, s.li.queue.tail.head? = some q → q.reply.isSome = true) →
            t = left.setLi { left.li with line := t.li.line })) ∧
        t.li.line =
          (if t.li.busy ≠ [] then t.li.busy.head?.map (Sending.mk .linkBusy)
          else if src = .reply ∧ s.li.notices ≠ [] then t.li.notices.head?.map (Sending.mk .notice)
          else if t.li.readyReply.isSome then t.li.readyReply.map (Sending.mk .reply)
          else t.li.notices.head?.map (Sending.mk .notice))) ∧
  ∀ (s : State) (m : Lines), s.li.line = none → exec (.transmitEnd m) s = .next (s.sample m)

/-- O8. A frame whose kind is not one of the 36 request kinds is refused UNKNOWN with its kind. R6. -/
def Obligations.UnknownKindsAreRefused : Prop :=
  (∀ (kind tag : Byte) (body : List Byte), Request.ofKind kind = none →
    (∀ s, decideFrame ⟨kind, tag, body⟩ s = (s, [0x0E, kind])) ∧
    ∀ (s : State) (m : Lines), s.li.queue = [] →
      Decides (.unknownRequest m kind tag body) s (s.hearing (.unknownRequest m kind tag body)) [0x0E, kind]) ∧
  (∀ kind : Byte, 0x40 ≤ kind.toNat → Request.ofKind kind = none) ∧
  ((List.range 256).countP fun n => (Request.ofKind (BitVec.ofNat 8 n)).isSome) = 36

/-- O9. A request first closes an open download window, then its body length is checked, then its owner decides. R12,
R13; the kinds are those of Table 11 and the lengths those the chapters give them, in the order of that table. -/
def Obligations.WindowClosesThenLengthIsChecked : Prop :=
  (∀ r : Request, r.keepsWindow = true ↔ r = .step ∨ r = .status ∨ r = .ident ∨ r = .trackQuery) ∧
  allRequests.map Request.kind =
    [0x01, 0x02, 0x03, 0x04, 0x05, 0x06, 0x10, 0x11, 0x12, 0x13, 0x14, 0x15, 0x16, 0x17, 0x18, 0x20, 0x21, 0x22,
      0x23, 0x24, 0x25, 0x26, 0x27, 0x28, 0x29, 0x2C, 0x2D, 0x2E, 0x30, 0x31, 0x32, 0x33, 0x38, 0x39, 0x3A, 0x3B] ∧
  allRequests.map Request.bodyLength =
    [39, 13, 15, 1, 2, 1, 1, 3, 0, 0, 0, 6, 0, 1, 0, 5, 0, 5, 1, 0, 8, 0, 1, 0, 0, 1, 11, 0, 1, 5, 0, 0, 2, 0, 0, 0] ∧
  ∀ (r : Request) (tag : Byte) (body : List Byte),
    (r.keepsWindow = false → ∀ s : State,
      decideFrame ⟨r.kind, tag, body⟩ s =
        decideFrame ⟨r.kind, tag, body⟩ (s.setPs { s.ps with window := none })) ∧
    (body.length = r.bodyLength → ∀ s : State,
      decideFrame ⟨r.kind, tag, body⟩ s =
        decideOwner r body (if r.keepsWindow then s else s.setPs { s.ps with window := none })) ∧
    (body.length ≠ r.bodyLength → ∀ (c : Instr) (s : State), c.frame = some ⟨r.kind, tag, body⟩ → s.li.queue = [] →
      Decides c s
        (if r.keepsWindow then s.hearing c else (s.hearing c).setPs { s.ps with window := none }) [0x05])

/-- O10. NOTICE_SELECT stores the mask that says which notices are raised. R11, with what raising does under a mask
(R9). -/
def Obligations.NoticeSelectStoresTheMask : Prop :=
  (∀ (s : State) (m : Lines) (tag lo hi : Byte), s.li.queue = [] →
    let c : Instr := .noticeSelect m tag [lo, hi]
    let closed := (s.hearing c).setPs { s.ps with window := none }
    (hi.toNat < 2 → Decides c s (closed.setLi { closed.li with mask := hi ++ lo }) [0x00, lo, hi]) ∧
    (2 ≤ hi.toNat → Decides c s closed [0x05])) ∧
  (∀ (s : State) (m : Lines) (tag : Byte) (body : List Byte), s.li.queue = [] → body.length ≠ 2 →
    Decides (.noticeSelect m tag body) s
      ((s.hearing (.noticeSelect m tag body)).setPs { s.ps with window := none }) [0x05]) ∧
  (∀ (l : Link) (k : NoticeKind) (body : List Byte),
    (l.mask.getLsbD k.position = false → l.raise k body = l) ∧
    (l.mask.getLsbD k.position = true → l.notices.length < 16 →
      l.raise k body = { l with notices := l.notices ++ [⟨0x40 + BitVec.ofNat 8 k.position, 0, body⟩] }) ∧
    (l.mask.getLsbD k.position = true → 16 ≤ l.notices.length →
      l.raise k body = { l with lost := min 65535 (l.lost + 1) })) ∧
  ∀ (s : State) (m : Lines) (pedal : Bool) (x : AllReadings),
    (∃ t, exec (.powerOn m pedal x) s = .next t ∧ t.li.mask = 0x01FF) ∧
    ∃ t, exec (.softReset m) s = .next t ∧ t.li.mask = 0x01FF

/-- O11. IDENT answers Table 12 and changes nothing; STATUS answers Table 13 and returns the lost count to 0. R14 byte
by byte; R15 with Table 13 offset by offset, each field modulo its width. -/
def Obligations.IdentAndStatusReportTheirRecords : Prop :=
  (∃ record : List Byte,
    record.length = 88 ∧
    record =
      [0x5A, 0x65, 0x74, 0x6A, 0x61, 0x6E, 0x20, 0x20, 0x20, 0x20, 0x20, 0x20, 0x20, 0x20, 0x20, 0x20,
          0x4F, 0x73, 0x74, 0x69, 0x6B, 0x61, 0x20, 0x4C, 0x43, 0x2D, 0x34, 0x32, 0x30, 0x20, 0x20, 0x20] ++
        [1, 0] ++ leBytes 4 1800 ++ leBytes 4 124000 ++ leBytes 4 124500 ++ leBytes 4 132000 ++ leBytes 2 1650 ++
        leBytes 2 2 ++ leBytes 2 100 ++ leBytes 2 13000 ++ [99] ++ leBytes 2 4000 ++ leBytes 2 250 ++
        [12, 8, 4, 240, 8, 50] ++ leBytes 2 2000 ++ leBytes 2 5000 ++ leBytes 2 4000 ++ leBytes 2 1500 ++
        leBytes 2 20000 ++ leBytes 2 500 ++ leBytes 2 100 ++ [20] ++ leBytes 4 999999 ∧
    (∀ (s : State) (m : Lines) (tag : Byte), s.li.queue = [] →
      Decides (.ident m tag []) s (s.hearing (.ident m tag [])) (0x00 :: record)) ∧
    (∀ (s : State) (tag : Byte), decideFrame ⟨0x39, tag, []⟩ s = (s, 0x00 :: record)) ∧
    ∀ (s : State) (m : Lines) (tag : Byte) (body : List Byte), s.li.queue = [] → body ≠ [] →
      Decides (.ident m tag body) s (s.hearing (.ident m tag body)) [0x05]) ∧
  (∀ (s : State) (m : Lines) (tag : Byte), s.li.queue = [] →
    let h := s.hearing (.status m tag [])
    ∃ r : List Byte,
      Decides (.status m tag []) s (h.setLi { h.li with lost := 0 }) (0x00 :: r) ∧ r.length = 51 ∧
      (fieldAt r 0 1 = h.pr.state.code ∧ fieldAt r 1 1 = (if h.pr.state = .held then h.pr.hold.code else 0) ∧
        fieldAt r 2 1 = h.pr.program % 256 ∧ fieldAt r 3 1 = h.pr.step % 256 ∧ fieldAt r 4 1 = h.pr.iter % 256 ∧
        fieldAt r 5 1 = h.pr.mode.code ∧ fieldAt r 7 2 = h.pr.done % 65536 ∧ fieldAt r 9 2 = h.pr.limit % 65536) ∧
      ((fieldAt r 6 1).testBit 0 = h.pr.lineHalt ∧ (fieldAt r 6 1).testBit 1 = h.pr.fault.isSome ∧
        (fieldAt r 6 1).testBit 2 = h.pr.second ∧ (fieldAt r 6 1).testBit 3 = h.ps.window.isSome ∧
        (fieldAt r 6 1).testBit 4 = h.gt.openLoad.isSome ∧ (fieldAt r 6 1).testBit 5 = h.cs.warn ∧
        (fieldAt r 6 1).testBit 6 = h.bg.referenced ∧ (fieldAt r 6 1).testBit 7 = h.bg.inPos) ∧
      (fieldAt r 11 1 = h.bg.state.code ∧ (fieldAt r 12 4 : Int) = h.bg.actual % 2 ^ 32 ∧
        (fieldAt r 16 4 : Int) = h.bg.target % 2 ^ 32 ∧
        (fieldAt r 20 1).testBit 0 = decide (h.bg.dir = .backward) ∧ (fieldAt r 20 1).testBit 1 = h.bg.slot.isSome) ∧
      (fieldAt r 21 1 = h.cs.state.code ∧ fieldAt r 22 4 = h.cs.counter % 2 ^ 32) ∧
      (fieldAt r 26 1 = h.hs.pump.code ∧ (fieldAt r 27 1).testBit 0 = h.hs.enable ∧
        (fieldAt r 27 1).testBit 1 = h.hs.reqCut ∧ (fieldAt r 27 1).testBit 2 = h.hs.reqLift ∧
        (fieldAt r 27 1).testBit 3 = h.hs.reqTurn ∧ fieldAt r 28 1 = holderCode h.hs.holder) ∧
      (fieldAt r 29 1 = h.pl.state.code ∧ fieldAt r 30 2 = h.pl.platform % 65536 ∧
        fieldAt r 32 2 = ((h.pl.pile.map Pile.hc).getD 0) % 65536 ∧ fieldAt r 34 1 = h.jg.state.code ∧
        fieldAt r 35 2 =
          (if h.jg.state = .empty then 0
          else (match h.jg.height with
            | .known x => x
            | .unknown => 65535
            | .pending => 65535)) % 65536) ∧
      (fieldAt r 37 1 = h.pt.state.code ∧ fieldAt r 38 1 = ((h.pt.record.map TurnRec.commanded).getD 0) % 256 ∧
        fieldAt r 39 1 = ((h.pt.record.map TurnRec.completed).getD 0) % 256) ∧
      ((fieldAt r 40 1).testBit 0 = h.sm.estopLatch ∧ (fieldAt r 40 1).testBit 1 = h.sm.permission ∧
        (fieldAt r 40 1).testBit 2 = !h.sm.lightCurtain.atUnsafe ∧ (fieldAt r 40 1).testBit 3 = !h.guardOpen ∧
        (fieldAt r 40 1).testBit 4 = h.keyOn ∧ (fieldAt r 41 1).testBit 0 = h.sm.twoHandLeft.latch ∧
        (fieldAt r 41 1).testBit 1 = h.sm.twoHandRight.latch ∧ (fieldAt r 41 1).testBit 2 = h.sm.lightCurtain.latch ∧
        (fieldAt r 41 1).testBit 3 = h.sm.emergencyStop.latch ∧ (fieldAt r 41 1).testBit 4 = h.sm.rearGuard.latch ∧
        (fieldAt r 41 1).testBit 5 = h.sm.bladeKey.latch ∧
        (fieldAt r 40 1).testBit 5 = decide (fieldAt r 41 1 ≠ 0)) ∧
      (fieldAt r 42 2 = h.loadId % 65536 ∧ fieldAt r 44 1 = h.gt.aside.length % 256 ∧
        fieldAt r 45 2 = s.li.mask.toNat ∧ fieldAt r 47 1 = 1 ∧ fieldAt r 48 2 = s.li.lost % 65536 ∧
        fieldAt r 50 1 = s.li.notices.length % 256)) ∧
  ∀ (s : State) (m : Lines) (tag : Byte) (body : List Byte), s.li.queue = [] → body ≠ [] →
    Decides (.status m tag body) s (s.hearing (.status m tag body)) [0x05]

/-- O12. RESET answers OK; once its reply is sent, the link is emptied and each block makes its soft-reset response. R16
with R95, R66, R110, R127, R138, R152, R163. The model's choices: the order among the blocks (log 22), that the row
is the end of the reply (log 5), a CLAMPING cycle under a soft reset (log 30), the clamp valves at rest (log 49), a
CUT_NOW that waits for the station (log 19). -/
def Obligations.SoftResetOfTheBlocks : Prop :=
  (∀ (s : State) (m : Lines) (tag : Byte), s.li.queue = [] →
    Decides (.reset m tag []) s ((s.hearing (.reset m tag [])).setPs { s.ps with window := none }) [0x00]) ∧
  (∀ (s : State) (m : Lines) (tag : Byte), s.li.line = some ⟨.reply, ⟨0xBB, tag, [0x00]⟩⟩ →
    exec (.transmitEnd m) s = exec (.softReset m) s) ∧
  (∀ (s : State) (m : Lines), (s.cutAtHoldPoint = true → ∀ c, s.cs.cycle = some c → c.leftTop = false) →
    ∃ t, exec (.softReset m) s = .next t ∧
      (t.li.receiver = .hunting ∧ t.li.queue = [] ∧ t.li.busy = [] ∧ t.li.mask = 0x01FF) ∧
      (t.ps = s.ps ∧ t.sm = s.sm ∧ t.lines = m ∧ t.pending = s.pending) ∧
      t.gt = { s.gt with prepared := none, stepBase := none } ∧
      t.pr = Runner.powerOn ∧
      t.bg =
        (let g := { (s.sample m).bg with slot := none }
        if s.gaugeBusy then
          { g with
            state := if s.bg.state = .referencing then .unreferenced else .standing
            move := none
            dwell := none
            inPos := false }
        else g)) ∧
  (∀ (s : State) (m : Lines),
    Becomes (.softReset m) s
      ((((((((s.sample m).setLi ⟨.hunting, [], [], [], 0, 0x01FF, none⟩).runnerReset).gaugeReset).csReset).supplyReset).jogReset).ptReset)) ∧
  ∀ s : State,
    s.runnerReset =
      (s.setPr { Runner.powerOn with noticeDue := true }).setGt { s.gt with prepared := none, stepBase := none } ∧
    s.supplyReset = s.setHs { s.hs with reqCut := false, reqLift := false, reqTurn := false } ∧
    s.jogReset =
      (if s.jg.state = .jogging then
        (s.setJg { s.jg with state := .stopped, vibrator := false, timer := none }).infeedNotice .slotStopped 0
      else s) ∧
    s.ptReset =
      s.setPt
        { s.pt with
          record :=
            s.pt.record.map fun r =>
              if s.pt.state = .interrupted ∧ r.issuer = .runner then { r with issuer := .nobody } else r
          manual := s.pt.manual.map fun x => if x.stage = .turn then { x with afterReset := true } else x } ∧
    (let home : CutState := if s.keyOn then .bladeChange else .ready
    let withdrawn :=
      ((s.setCs
        { s.cs with
          state := home
          cycle := none
          pedalDwell := none
          clampTimer := none
          knifeTimer := none
          clampValve := .closed
          knifeValve := .rest }).setHs { s.hs with reqCut := false }).release .cut
    let short : Prop := s.cs.state = .armed ∨ s.cs.state = .grantWait ∨ s.cs.state = .preclamped
    (s.cs.manual = none → ∀ c, s.cs.cycle = some c →
      (short → c.leftTop = false → c.issuer = .runner → s.runOpen = false → s.csReset = withdrawn) ∧
      (short → c.leftTop = false → c.issuer = .manual →
        s.csReset = withdrawn.plainWarning .cutNowEnded withdrawn.loadId 5) ∧
      (s.cs.state = .clamping →
        s.csReset =
          s.setCs
            { s.cs with
              state := .abortReturn, clampTimer := none, clampValve := .closed, cycle := some { c with mark := .aborted } }) ∧
      (s.cs.state = .cutting →
        s.csReset =
          s.setCs
            { s.cs with
              state := .abortReturn, knifeTimer := none, knifeValve := .up, cycle := some { c with mark := .aborted } })) ∧
    (¬short → s.cs.state ≠ .clamping → s.cs.state ≠ .cutting →
      (s.cs.manual = none → s.csReset = s) ∧
      ∀ x, s.cs.manual = some x →
        s.csReset =
          if x.approachDone then (s.setCs { s.cs with manual := none }).plainWarning .cutNowEnded s.loadId 5 else s))

/-- O13. POWER_ON keeps the store, the settings, the stroke counter and its warn flag, and starts every other block
afresh. R2, R4, R9, R11, R22, R36, R41, R66, R96, R111, R126, R128, R139, R146, R155, R164, and the flag bytes of
R175. The model's choices: the gauge's zero at power-on (log 25), the order of the two reports (log 29), the valves
and drives at rest within State.reset (log 33). -/
def Obligations.PowerOnStartsEveryBlock : Prop :=
  (∀ (s : State) (m : Lines) (pedal : Bool) (x : AllReadings), ∃ t, exec (.powerOn m pedal x) s = .next t ∧
    t.ps = { s.ps with window := none } ∧
    (t.li.receiver = .hunting ∧ t.li.queue = [] ∧ t.li.busy = [] ∧ t.li.lost = 0 ∧ t.li.mask = 0x01FF) ∧
    (let notice : Frame :=
        ⟨0x46, 0, [0x00, 0xFF, (Monitor.powerOn x).flags, 0x00] ++ (Monitor.powerOn x).channels⟩;
      t.li.notices.head? = some notice ∧ t.li.line = some ⟨.notice, notice⟩ ∧
        t.li.notices.length = if m.park then 1 else 2) ∧
    t.gt = State.reset.gt ∧ t.hs = State.reset.hs ∧ t.jg = State.reset.jg ∧
    t.pl = { State.reset.pl with platform := m.platform } ∧
    t.bg = { State.reset.bg with zero := -m.encoder } ∧
    t.cs =
      { State.reset.cs with
        state :=
          if m.knifeTop = false ∨ m.clampUp = false then .recover
          else if x.bladeKey.a = true ∨ x.bladeKey.b = true then .bladeChange
          else .ready
        pedal := pedal
        counter := s.cs.counter
        warn := s.cs.warn } ∧
    t.pt = { State.reset.pt with state := if m.park then .parked else .fault } ∧
    t.pr =
      (if m.park then Runner.powerOn
      else
        { Runner.powerOn with fault := some ⟨.notParked, 0, 0, 0, 0, 0⟩, lineHalt := s.ps.settings.haltOnFault }) ∧
    (let read : Readings → SafetyInput := fun c => ⟨c.a, c.b, c.a != c.b, false⟩;
      t.sm =
        { twoHandLeft := read x.twoHandLeft
          twoHandRight := read x.twoHandRight
          lightCurtain := read x.lightCurtain
          emergencyStop := read x.emergencyStop
          rearGuard := read x.rearGuard
          bladeKey := read x.bladeKey
          pairStart := none
          rearm := (x.twoHandLeft.a || x.twoHandLeft.b) && (x.twoHandRight.a || x.twoHandRight.b)
          permission := false
          estopLatch := true }) ∧
    t.lines = m ∧ t.pending = s.pending) ∧
  ([SafetyIn.twoHandLeft, .twoHandRight, .lightCurtain, .emergencyStop, .rearGuard, .bladeKey].map safetyCode =
    [0, 1, 2, 3, 4, 5]) ∧
  ∀ k : Monitor,
    let reads : Byte → List Bool → Prop := fun v bits => ∀ n, v.getLsbD n = bits.getD n false
    let bad : SafetyInput → Bool := fun c => c.a || c.b || c.latch
    let latches :=
      [k.twoHandLeft.latch, k.twoHandRight.latch, k.lightCurtain.latch, k.emergencyStop.latch, k.rearGuard.latch,
        k.bladeKey.latch]
    reads k.flags
      [k.estopLatch, k.permission, !bad k.lightCurtain, !bad k.rearGuard, bad k.bladeKey, latches.any id] ∧
    reads k.latches latches ∧
    ∃ lo hi, k.channels = [lo, hi] ∧
      reads lo
        [k.twoHandLeft.a, k.twoHandLeft.b, k.twoHandRight.a, k.twoHandRight.b, k.lightCurtain.a, k.lightCurtain.b,
          k.emergencyStop.a, k.emergencyStop.b] ∧
      reads hi [k.rearGuard.a, k.rearGuard.b, k.bladeKey.a, k.bladeKey.b]

/-- O14. Every step keeps the law of the link. R4, R5, R9, R10, R11. That the LINK_BUSY frame on the line is still the
head of its list is the model's choice (log 7). -/
def Obligations.LinkLawIsKept : Prop :=
  ∀ s t : State, LinkOk s.li → step s = .next t → LinkOk t.li

/-- O15. STORE_OPEN creates or truncates the program, replaces its header, clears its complete flag and opens the
window. R23 and R24 (the closing of the window first: R12). -/
def Obligations.StoreOpenOpensTheWindow : Prop :=
  (∀ (s : State) (m : Lines) (tag f n : Byte) (d : List Byte), d.length = 37 → s.li.queue = [] →
    let c : Instr := .storeOpen m tag (d ++ [f, n])
    let closed := (s.hearing c).setPs { s.ps with window := none }
    (decodeHeader d = none → Decides c s closed [0x05]) ∧
    ∀ number h, decodeHeader d = some (number, h) →
      let old := ((s.program number).map Program.steps).getD []
      let used : Prop := s.pr.state ≠ .idle ∧ s.pr.program = number
      let stored := progInsert s.ps.programs number ⟨h, old.take f.toNat, false⟩
      (¬(f.toNat ≤ old.length ∧ 1 ≤ n.toNat ∧ n.toNat + f.toNat ≤ 250) → Decides c s closed [0x05]) ∧
      (f.toNat ≤ old.length → 1 ≤ n.toNat → n.toNat + f.toNat ≤ 250 → used → Decides c s closed [0x09]) ∧
      (f.toNat ≤ old.length → 1 ≤ n.toNat → n.toNat + f.toNat ≤ 250 → ¬used →
        Decides c s
          (closed.setPs { s.ps with programs := stored, window := some ⟨number, f.toNat, f.toNat + n.toNat⟩ })
          (0x00 :: (leBytes 2 (stepUnits old - stepUnits (old.take f.toNat)) ++ leBytes 2 (4000 - usedUnits stored))))) ∧
  ∀ (l : List (Nat × Program)) (n k : Nat) (p : Program),
    progLookup (progInsert l n p) k = if k = n then some p else progLookup l k

/-- O16. STEP writes its record at the write pointer, and the step at the end index completes the program. R25, R26,
R27. -/
def Obligations.StepWritesAtTheWindow : Prop :=
  ∀ (s : State) (m : Lines) (tag : Byte) (body : List Byte), body.length = 13 → s.li.queue = [] →
    let c : Instr := .step m tag body
    let h := s.hearing c
    (decodeStep body = none → Decides c s h [0x05]) ∧
    (∀ r, decodeStep body = some r → s.ps.window = none → Decides c s h [0x07]) ∧
    ∀ r w p, decodeStep body = some r → s.ps.window = some w → s.program w.program = some p →
      (4000 - usedUnits s.ps.programs < r.units → Decides c s (h.setPs { s.ps with window := none }) [0x08]) ∧
      (r.units ≤ 4000 - usedUnits s.ps.programs →
        let full : Bool := decide (w.pointer + 1 = w.endIndex)
        let stored := progInsert s.ps.programs w.program ⟨p.header, p.steps ++ [r], full⟩
        Decides c s
          (h.setPs
            { s.ps with
              programs := stored
              window := if full then none else some { w with pointer := w.pointer + 1 } })
          (0x00 :: (leBytes 1 w.pointer ++ [if full then 0x01 else 0x00] ++ leBytes 2 (4000 - usedUnits stored))))

/-- O17. REPLACE_STEP overwrites one step and DELETE_PROGRAM removes one program, or they are refused. R30, R31, R32. -/
def Obligations.ReplaceStepAndDeleteProgramEditTheStore : Prop :=
  (∀ (s : State) (m : Lines) (tag n i : Byte) (d : List Byte), d.length = 13 → s.li.queue = [] →
    let c : Instr := .replaceStep m tag (n :: i :: d)
    let closed := (s.hearing c).setPs { s.ps with window := none }
    (¬(1 ≤ n.toNat ∧ n.toNat ≤ 99) ∨ decodeStep d = none → Decides c s closed [0x05]) ∧
    ∀ r, 1 ≤ n.toNat → n.toNat ≤ 99 → decodeStep d = some r →
      (s.program n.toNat = none → Decides c s closed [0x06]) ∧
      ∀ p, s.program n.toNat = some p →
        (p.steps.length ≤ i.toNat → Decides c s closed [0x06]) ∧
        ∀ old, p.steps[i.toNat]? = some old →
          let used : Prop := s.runOpen = true ∧ s.pr.program = n.toNat ∧ i.toNat ≤ s.pr.step
          let fits : Prop := r.units ≤ old.units + (4000 - usedUnits s.ps.programs)
          let stored := progInsert s.ps.programs n.toNat { p with steps := p.steps.set i.toNat r }
          (used → Decides c s closed [0x09]) ∧
          (¬used → ¬fits → Decides c s closed [0x08]) ∧
          (¬used → fits →
            Decides c s (closed.setPs { s.ps with programs := stored, window := none })
              (0x00 :: leBytes 2 (4000 - usedUnits stored)))) ∧
  (∀ (s : State) (m : Lines) (tag n : Byte), s.li.queue = [] →
    let c : Instr := .deleteProgram m tag [n]
    let closed := (s.hearing c).setPs { s.ps with window := none }
    (¬(1 ≤ n.toNat ∧ n.toNat ≤ 99) → Decides c s closed [0x05]) ∧
    (1 ≤ n.toNat → n.toNat ≤ 99 →
      (s.program n.toNat = none → Decides c s closed [0x06]) ∧
      ∀ p, s.program n.toNat = some p →
        let used : Prop := s.pr.state ≠ .idle ∧ s.pr.program = n.toNat
        let stored := progErase s.ps.programs n.toNat
        (used → Decides c s closed [0x09]) ∧
        (¬used →
          Decides c s (closed.setPs { s.ps with programs := stored, window := none })
            (0x00 :: (leBytes 2 (stepUnits p.steps) ++ leBytes 2 (4000 - usedUnits stored)))))) ∧
  ∀ (l : List (Nat × Program)) (n k : Nat), l.Pairwise (fun a b => a.1 < b.1) →
    progLookup (progErase l n) k = if k = n then none else progLookup l k

/-- O18. READ_PROGRAM and LIST_PROGRAMS report what is stored and change nothing but the window. R33, R34, R35. -/
def Obligations.ReadAndListReportTheStore : Prop :=
  (∀ (s : State) (m : Lines) (tag n i : Byte), s.li.queue = [] →
    let c : Instr := .readProgram m tag [n, i]
    let closed := (s.hearing c).setPs { s.ps with window := none }
    (¬(1 ≤ n.toNat ∧ n.toNat ≤ 99) → Decides c s closed [0x05]) ∧
    (1 ≤ n.toNat → n.toNat ≤ 99 →
      (s.program n.toNat = none → Decides c s closed [0x06]) ∧
      ∀ p, s.program n.toNat = some p →
        (p.steps.length < i.toNat → Decides c s closed [0x06]) ∧
        (i.toNat ≤ p.steps.length →
          Decides c s closed
            (0x00 ::
              (encodeHeader n.toNat p.header ++ [if p.complete then 0x01 else 0x00] ++ leBytes 1 p.steps.length ++
                leBytes 2 (stepUnits p.steps) ++ leBytes 1 (min 8 (p.steps.length - i.toNat)) ++
                ((p.steps.drop i.toNat).take 8).flatMap encodeStep))))) ∧
  ∀ (s : State) (m : Lines) (tag n : Byte), s.li.queue = [] →
    let c : Instr := .listPrograms m tag [n]
    let closed := (s.hearing c).setPs { s.ps with window := none }
    (¬(1 ≤ n.toNat ∧ n.toNat ≤ 99) → Decides c s closed [0x05]) ∧
    (1 ≤ n.toNat → n.toNat ≤ 99 →
      ∃ shown rest, (s.ps.programs.filter fun e => decide (n.toNat ≤ e.1)) = shown ++ rest ∧
        (let entries := shown.flatMap fun e => directoryEntry e.1 e.2
        let next := (rest.head?.map Prod.fst).getD 0
        shown.length ≤ 12 ∧ 5 + entries.length ≤ 240 ∧
          (∀ e, rest.head? = some e → shown.length = 12 ∨ 240 < 5 + entries.length + (6 + e.2.header.name.length)) ∧
          Decides c s closed
            (0x00 ::
              (leBytes 2 (4000 - usedUnits s.ps.programs) ++ leBytes 1 next ++ leBytes 1 shown.length ++ entries))))

/-- O19. An accepted record is read back exactly as stored, in the layouts of Tables 16, 18 and 22. R20 and R21 with
Tables 16 and 18, and Table 22 of R35. -/
def Obligations.RecordsRoundTrip : Prop :=
  (∀ r : StepRec, r.accepted = true → decodeStep (encodeStep r) = some r) ∧
  (∀ (b : List Byte) (r : StepRec), b.length = 13 → decodeStep b = some r → encodeStep r = b) ∧
  (∀ (n : Nat) (h : Header), 1 ≤ n → n ≤ 99 → h.accepted = true → decodeHeader (encodeHeader n h) = some (n, h)) ∧
  (∀ r : StepRec, r.accepted = true →
    let b := encodeStep r
    let kind : Nat := match r.kind with
      | .cut => 1
      | .turn => 2
      | .load => 3
      | .eject => 4
      | .recall => 5
      | .pause => 6
    let disposition : Nat := match r.disposition with
      | .waste => 0
      | .aside => 1
      | .finished => 2
    let mode : Nat := match r.mode with
      | .abs => 0
      | .trim => 1
    b.length = 13 ∧ fieldAt b 0 1 = kind ∧ fieldAt b 1 2 = r.label ∧ fieldAt b 3 1 = disposition ∧
      fieldAt b 4 1 = mode ∧ fieldAt b 5 1 = r.count ∧ fieldAt b 6 4 = r.value ∧ fieldAt b 10 3 = r.pitch) ∧
  (∀ (n : Nat) (h : Header), 1 ≤ n → n ≤ 99 → h.accepted = true →
    let b := encodeHeader n h
    b.length = 37 ∧ fieldAt b 0 1 = n ∧ fieldAt b 1 1 = h.name.length ∧
      (b.drop 2).take 16 = h.name ++ List.replicate (16 - h.name.length) 0 ∧
      (∀ k, (fieldAt b 18 1).testBit k =
        [h.link.isSome, h.format.isSome, h.finished.isSome, h.draw.isSome].getD k false) ∧
      fieldAt b 19 1 = h.link.getD 0 ∧
      (fieldAt b 20 4, fieldAt b 24 4) = h.format.getD (0, 0) ∧
      (fieldAt b 28 4, fieldAt b 32 4) = h.finished.getD (0, 0) ∧ signedAt b 36 1 = h.draw.getD 0) ∧
  ∀ (n : Nat) (p : Program),
    directoryEntry n p =
      leBytes 1 n ++ [if p.complete then 0x01 else 0x00] ++ leBytes 1 p.steps.length ++
        leBytes 2 (stepUnits p.steps) ++ leBytes 1 p.header.name.length ++ p.header.name

/-- O20. Every step keeps the law of the store: the pool, the programs, the window and the settings. R17 to R22, R24,
R26, R176. -/
def Obligations.StoreLawIsKept : Prop :=
  ∀ s t : State, StoreOk s.ps → step s = .next t → StoreOk t.ps

/-- O21. Every step keeps a Runner that is not IDLE on a complete stored program, and one in IDLE without a program. R66
with the refusals of R23, R30 and R32 (R37). -/
def Obligations.RunnerProgramLawIsKept : Prop :=
  ∀ s t : State, StoreOk s.ps → RunnerOk s.pr s.ps.programs → step s = .next t → RunnerOk t.pr t.ps.programs

/-- O22. SETTING_READ reports value, least, greatest and default of a setting. R178 and Table 63. -/
def Obligations.SettingReadReportsTheSetting : Prop :=
  ([1, 2, 3, 4, 5, 6, 7, 8, 9, 10, 11, 12, 13, 14].map settingRange =
    [some ⟨50, 1000, 300⟩, some ⟨50, 1000, 150⟩, some ⟨-40, 40, 0⟩, some ⟨5, 200, 30⟩, some ⟨5, 120, 30⟩,
      some ⟨500, 5000, 2000⟩, some ⟨1000, 50000, 8000⟩, some ⟨0, 2000, 400⟩, some ⟨0, 1, 0⟩, none, some ⟨0, 1, 1⟩,
      some ⟨30, 3600, 300⟩, some ⟨2, 60, 8⟩, some ⟨0, 3, 2⟩]) ∧
  (∀ x : Settings,
    [1, 2, 3, 4, 5, 6, 7, 8, 9, 11, 12, 13, 14].map x.get =
        [(x.backlashMargin : Int), x.reversalDwell, x.drawCoeff, x.heightTol, x.pedalDwell, x.turnClearance,
          x.knifeWarn, x.knifeGrace, if x.roundRobin then 1 else 0, if x.haltOnFault then 1 else 0, x.pumpIdleOff,
          x.jogTime, x.jogRetries] ∧
      [Consumer.cut, .lift, .turn].map x.priority = [x.priorityCut, x.priorityLift, x.priorityTurn]) ∧
  (∀ code, settingRange code ≠ none → 1 ≤ code ∧ code ≤ 14) ∧
  ∀ (s : State) (m : Lines) (tag code : Byte), s.li.queue = [] →
    let c : Instr := .settingRead m tag [code]
    let closed := (s.hearing c).setPs { s.ps with window := none }
    let x := s.ps.settings
    (∀ r, settingRange code.toNat = some r →
      Decides c s closed
        (0x00 :: code ::
          (leInt 4 (x.get code.toNat) ++ leInt 4 r.least ++ leInt 4 r.greatest ++ leInt 4 r.default))) ∧
    (code = 10 →
      Decides c s closed
        ([0x00, 0x0A] ++ leBytes 1 x.priorityCut ++ leBytes 1 x.priorityLift ++ leBytes 1 x.priorityTurn ++
          [0, 0, 0, 0, 0, 2, 2, 2, 0, 2, 0, 1, 0])) ∧
    (code ≠ 10 → settingRange code.toNat = none → Decides c s closed [0x05])

/-- O23. SETTING_WRITE stores a value or the nearest limit, and the priority group whole or not at all. R179, R180. -/
def Obligations.SettingWriteStoresOrClamps : Prop :=
  (∀ (s : State) (m : Lines) (tag code : Byte) (d : List Byte), d.length = 4 → s.li.queue = [] →
    let c : Instr := .settingWrite m tag (code :: d)
    let closed := (s.hearing c).setPs { s.ps with window := none }
    let v := signedOf 4 (leNat d)
    (code ≠ 10 → settingRange code.toNat = none → Decides c s closed [0x05]) ∧
    ∀ r, settingRange code.toNat = some r →
      let stored : Int := if v < r.least then r.least else if r.greatest < v then r.greatest else v
      ∃ x : Settings,
        Decides c s (closed.setPs { s.ps with window := none, settings := x })
          ((if r.least ≤ v ∧ v ≤ r.greatest then 0x00 else 0x01) :: code :: leInt 4 stored) ∧
        x.get code.toNat = stored ∧ (∀ k, k ≠ code.toNat → x.get k = s.ps.settings.get k) ∧
        x.priority = s.ps.settings.priority) ∧
  ∀ (s : State) (m : Lines) (tag a b e z : Byte), s.li.queue = [] →
    let c : Instr := .settingWrite m tag [10, a, b, e, z]
    let closed := (s.hearing c).setPs { s.ps with window := none }
    let whole : Prop :=
      (a.toNat < 3 ∧ b.toNat < 3 ∧ e.toNat < 3 ∧ a ≠ b ∧ b ≠ e ∧ a ≠ e) ∧ z = 0
    (whole →
      Decides c s
        (closed.setPs
          { s.ps with
            window := none
            settings :=
              { s.ps.settings with priorityCut := a.toNat, priorityLift := b.toNat, priorityTurn := e.toNat } })
        [0x00, 0x0A, a, b, e, z]) ∧
    (¬whole → Decides c s closed [0x05])

/-- O24. TRACK_QUERY reports the load record, the accounts and up to 7 pieces, and changes nothing. R62, Table 34 with
the entries of Table 28; counts are within their fields (past them log 10). -/
def Obligations.TrackQueryReportsTheTracker : Prop :=
  ∀ (s : State) (m : Lines) (tag first : Byte), s.li.queue = [] →
    let c : Instr := .trackQuery m tag [first]
    let h := s.hearing c
    (12 < first.toNat → Decides c s h [0x05]) ∧
    (first.toNat ≤ 12 →
      let g := s.gt
      ∃ r : List Byte,
        Decides c s h (0x00 :: r) ∧
        (∀ k, (fieldAt r 0 1).testBit k =
          [g.openLoad.isSome, g.table.isSome, g.table.any TableLoad.scored,
            g.table.any fun t => t.height.isSome].getD k false) ∧
        (∀ o, g.openLoad = some o →
          fieldAt r 1 2 = o.id % 65536 ∧ fieldAt r 3 4 = o.w % 2 ^ 32 ∧ fieldAt r 7 4 = o.ls % 2 ^ 32 ∧
          (o.waste < 2 ^ 64 → fieldAt r 30 8 = o.waste) ∧
          (o.finishedArea < 2 ^ 64 → fieldAt r 38 8 = o.finishedArea) ∧
          (o.finishedCount < 2 ^ 32 → fieldAt r 46 4 = o.finishedCount) ∧ fieldAt r 50 2 = o.overflow % 65536 ∧
          fieldAt r 52 1 = o.warnings.length % 256 ∧
          (r.drop 55).take (3 * o.warnings.length) =
            o.warnings.flatMap fun e => leBytes 1 e.kind ++ leBytes 1 e.step ++ leBytes 1 e.iter) ∧
        (g.table = none → (r.drop 11).take 19 = List.replicate 19 0) ∧
        (∀ t, g.table = some t →
          (r.drop 11).take 19 =
            leBytes 4 t.rect.sx ++ leBytes 4 t.rect.sy ++ leBytes 4 t.rect.sw ++ leBytes 4 t.rect.sd ++
              leBytes 1 t.q.val ++ leBytes 2 (t.height.getD 0xFFFF)) ∧
        fieldAt r 53 1 = g.aside.length % 256 ∧ fieldAt r 54 1 = min 7 (g.aside.length - first.toNat) ∧
        r.drop (55 + 3 * ((g.openLoad.map fun o => o.warnings.length).getD 0)) =
          (((g.aside.drop first.toNat).take 7).flatMap fun p =>
            leBytes 4 p.rect.sx ++ leBytes 4 p.rect.sy ++ leBytes 4 p.rect.sw ++ leBytes 4 p.rect.sd ++
              leBytes 1 p.q.val ++ leBytes 2 (p.height.getD 0xFFFF) ++ leBytes 2 p.loadId) ∧
        (g.openLoad = none → g.table = none → g.aside = [] → r = List.replicate 55 0))

/-- O25. TRACK_DECLARE opens a load with the declared values and TRACK_CLEAR abandons one, or they are refused. R63 with
R42, and R64 with Table 26; KNIFE_WARN and KNIFE_GRACE as stored (R122). -/
def Obligations.TrackDeclareAndTrackClearOpenAndEndALoad : Prop :=
  (∀ (s : State) (m : Lines) (tag : Byte) (body : List Byte), body.length = 11 → s.li.queue = [] →
    let c : Instr := .trackDeclare m tag body
    let closed := (s.hearing c).setPs { s.ps with window := none }
    let w := leNat (body.take 4)
    let ls := leNat ((body.drop 4).take 4)
    let q := leNat ((body.drop 8).take 1)
    let h := leNat (body.drop 9)
    let len := if q % 2 = 0 then w else ls
    let depth := if q % 2 = 0 then ls else w
    let fields : Prop := w ≠ 0 ∧ ls ≠ 0 ∧ q ≤ 3 ∧ (h ≤ 1650 ∨ h = 0xFFFF) ∧ depth ≤ 124000 ∧ len ≤ 132000
    let barred : Prop :=
      s.runOpen = true ∨ s.gt.openLoad ≠ none ∨ s.ps.settings.knifeWarn + s.ps.settings.knifeGrace ≤ s.cs.counter
    (¬fields → Decides c s closed [0x05]) ∧
    (fields → barred → Decides c s closed [0x04]) ∧
    (fields → ¬barred → s.manualInFlight = true → Decides c s closed [0x02]) ∧
    (fields → ¬barred → s.manualInFlight = false →
      Decides c s
        (closed.setGt
          { s.gt with
            table := some ⟨s.gt.nextId, ⟨0, 0, w, ls⟩, Fin.ofNat 4 q, if h = 0xFFFF then none else some h, false⟩
            openLoad := some ⟨s.gt.nextId, w, ls, 0, 0, 0, [], 0⟩
            nextId := if s.gt.nextId < 65535 then s.gt.nextId + 1 else 1
            prepared := none })
        (0x00 :: leBytes 2 s.gt.nextId))) ∧
  ∀ (s : State) (m : Lines) (tag : Byte), s.li.queue = [] →
    let c : Instr := .trackClear m tag []
    let closed := (s.hearing c).setPs { s.ps with window := none }
    (s.pr.state ≠ .idle ∨ s.gt.openLoad = none → Decides c s closed [0x04]) ∧
    (s.pr.state = .idle → s.gt.openLoad ≠ none → s.manualInFlight = true → Decides c s closed [0x02]) ∧
    ∀ o, s.pr.state = .idle → s.gt.openLoad = some o → s.manualInFlight = false →
      let left := ((s.gt.table.map fun t => t.rect.sw * t.rect.sd).getD 0) +
        (s.gt.aside.map fun p => p.rect.sw * p.rect.sd).sum
      Decides c s
        ((closed.raise .loadDone
          (leBytes 2 o.id ++ [0x01] ++ leBytes 4 o.w ++ leBytes 4 o.ls ++ count32 o.finishedCount ++
            count64 o.finishedArea ++ count64 o.waste ++ count64 left ++ leBytes 2 o.overflow ++
            leBytes 1 o.warnings.length ++ warnBytes o.warnings)).setGt
          { s.gt with openLoad := none, table := none, aside := [] })
        (0x00 :: leBytes 2 o.id)

/-- O26. Cuts, ejects, recalls, turns and openings keep the area law of the open load, and so does every step. R44, for
each completion the tracker applies and for every step. The second law's premise is what the checks at a step's
start (R55) leave at its confirm (R52, R42). -/
def Obligations.AreaLawOfTheTracker : Prop :=
  (∀ s : State,
    (AreaOk s.gt →
      (∀ c, AreaOk (s.applyCut c).gt) ∧ (∀ c, AreaOk (s.applyAborted c).gt) ∧ (∀ d, AreaOk (s.eject d).gt) ∧
        (∀ tracked id n, AreaOk (s.applyTurn tracked id n).gt) ∧ (s.gt.table = none → AreaOk s.recallTop.gt)) ∧
    (s.gt.aside = [] → ∀ w ls q h, AreaOk (s.openWith w ls q h).gt)) ∧
  ∀ s t : State,
    AccountOk s.gt →
    (s.pr.phase = .placeWait → ∀ r, s.currentStep = some r →
      (r.kind = .recall → s.gt.table = none) ∧ (r.kind = .load → s.gt.aside = [])) →
    step s = .next t → AccountOk t.gt

/-- O27. Completed and aborted cycles and ejects do to the load what R46 to R50, R54 and R43 say, each with its warnings
and notice. R43, R45 to R50, R54, R65 with Tables 26 to 30 and 35. A count past its link field carries a free value
(log 10). -/
def Obligations.CompletedCutUpdatesTheLoad : Prop :=
  let disposes : State → Disposition → Piece → State := fun s d p =>
    let area := p.rect.sw * p.rect.sd
    let account : (OpenLoad → OpenLoad) → State := fun f => s.setGt { s.gt with openLoad := s.gt.openLoad.map f }
    let counted := account fun o => { o with finishedCount := o.finishedCount + 1, finishedArea := o.finishedArea + area }
    let l := p.rect.len p.q
    let e := p.rect.depth p.q
    match d with
    | .waste => account fun o => { o with waste := o.waste + area }
    | .aside => s.setGt { s.gt with aside := p :: s.gt.aside }
    | .finished =>
      match s.currentProgram.bind fun x => x.header.finished with
      | none => counted
      | some (fw, fd) =>
        if (l = fw ∧ e = fd) ∨ (l = fd ∧ e = fw) then counted
        else counted.loadWarning .sizeMismatch (if l * 100000 + e < 2 ^ 31 then l * 100000 + e else l : Nat)
  let notice : State → Cycle → Nat → Rect → Nat → State := fun s c outcome strip q =>
    let disposition : Nat := match c.disposition with
      | .waste => 0
      | .aside => 1
      | .finished => 2
    s.raise .cycle
      (leBytes 1 outcome ++ [if c.tracked then 0x01 else 0x00] ++ leBytes 2 c.loadId ++ leBytes 1 c.step ++
        leBytes 1 c.iter ++ leInt 4 c.nominal ++ leInt 2 c.comp ++ leInt 4 c.target ++ leBytes 2 (c.measured.getD 0) ++
        leBytes 2 (c.heightUsed.getD 0xFFFF) ++ leInt 1 c.draw ++
        leBytes 1 disposition ++
        leBytes 4 strip.sx ++ leBytes 4 strip.sy ++ leBytes 4 strip.sw ++ leBytes 4 strip.sd ++ leBytes 1 q ++
        leBytes 4 s.cs.counter)
  (∀ (s : State) (c : Cycle) (t : TableLoad), s.gt.table = some t → c.tracked = true → t.loadId = c.loadId →
    1 ≤ c.nominal → c.nominal < t.depth →
      let depth := t.depth - c.nominal.toNat
      let r := t.rect
      let strip : Rect :=
        if t.q = 0 then ⟨r.sx, r.sy, r.sw, depth⟩
        else if t.q = 1 then ⟨r.sx + r.sw - depth, r.sy, depth, r.sd⟩
        else if t.q = 2 then ⟨r.sx, r.sy + r.sd - depth, r.sw, depth⟩
        else ⟨r.sx, r.sy, depth, r.sd⟩
      let left : Rect :=
        if t.q = 0 then ⟨r.sx, r.sy + depth, r.sw, r.sd - depth⟩
        else if t.q = 1 then ⟨r.sx, r.sy, r.sw - depth, r.sd⟩
        else if t.q = 2 then ⟨r.sx, r.sy, r.sw, r.sd - depth⟩
        else ⟨r.sx + depth, r.sy, r.sw - depth, r.sd⟩
      let m := c.measured.getD 0
      let t1 : TableLoad := { t with rect := left, height := some m }
      let piece : Piece := ⟨strip, t.q, some m, t.loadId⟩
      let warned := match t.height with
        | none => s.loadWarning .noHeight m
        | some h =>
          if s.ps.settings.heightTol < ((m : Int) - h).natAbs then s.loadWarning .heightDrift ((m : Int) - h) else s
      let s1 := s.applyCut c
      s1 = notice (disposes (warned.setGt { warned.gt with table := some t1 }) c.disposition piece) c 0 strip t.q.val ∧
      s1.gt.table = some t1 ∧ (t1.depth : Int) = c.nominal ∧ t1.len = t.len ∧
      s1.gt.aside = (if c.disposition = .aside then piece :: s.gt.aside else s.gt.aside) ∧
      (∀ o, s.gt.openLoad = some o → ∃ o1, s1.gt.openLoad = some o1 ∧ o1.id = o.id ∧ o1.w = o.w ∧ o1.ls = o.ls ∧
        o1.waste = o.waste + (if c.disposition = .waste then strip.sw * strip.sd else 0) ∧
        o1.finishedArea = o.finishedArea + (if c.disposition = .finished then strip.sw * strip.sd else 0) ∧
        o1.finishedCount = o.finishedCount + (if c.disposition = .finished then 1 else 0)) ∧
      s1.gt.nextId = s.gt.nextId ∧ s1.gt.prepared = s.gt.prepared ∧ s1.gt.stepBase = s.gt.stepBase ∧
      s1 = (s.setGt s1.gt).setLi s1.li) ∧
  (∀ (s : State) (c : Cycle) (t : TableLoad), s.gt.table = some t → c.tracked = true → t.loadId = c.loadId →
    s.applyAborted c =
      notice ((s.setGt { s.gt with table := some { t with scored := true } }).loadWarning .scored c.nominal) c
        (if c.mark = .timedOut then 2 else 1) ⟨0, 0, 0, 0⟩ 0) ∧
  (∀ (s : State) (c : Cycle), (∀ t, s.gt.table = some t → c.tracked = false ∨ t.loadId ≠ c.loadId) →
    s.applyCut c = notice s c 0 ⟨0, 0, 0, 0⟩ 0 ∧
    s.applyAborted c = notice s c (if c.mark = .timedOut then 2 else 1) ⟨0, 0, 0, 0⟩ 0) ∧
  (∀ (s : State) (d : Disposition) (t : TableLoad), s.gt.table = some t →
    let x := disposes s d ⟨t.rect, t.q, t.height, t.loadId⟩
    let y := x.setGt { x.gt with table := none }
    (x.gt.aside ≠ [] ∨ x.gt.openLoad = none → s.eject d = y) ∧
    ∀ o, x.gt.aside = [] → x.gt.openLoad = some o →
      s.eject d =
        (y.raise .loadDone
          (leBytes 2 o.id ++ [0x00] ++ leBytes 4 o.w ++ leBytes 4 o.ls ++ count32 o.finishedCount ++
            count64 o.finishedArea ++ count64 o.waste ++ List.replicate 8 0 ++ leBytes 2 o.overflow ++
            leBytes 1 o.warnings.length ++
            o.warnings.flatMap fun e => leBytes 1 e.kind ++ leBytes 1 e.step ++ leBytes 1 e.iter)).setGt
          { y.gt with openLoad := none }) ∧
  (∀ (s : State) (k : WarningKind) (detail : Int),
    let step := if s.runOpen then s.pr.step else 255
    let iter := if s.runOpen then s.pr.iter else 255
    let tells : State → Nat → Nat → Nat → State := fun x id i j =>
      x.raise .warning (leBytes 1 k.code ++ leBytes 2 id ++ leBytes 1 i ++ leBytes 1 j ++ leInt 4 detail)
    (∀ o, s.gt.openLoad = some o →
      s.loadWarning k detail =
        tells
          (s.setGt
            { s.gt with
              openLoad :=
                some
                  (if o.warnings.length < 8 then { o with warnings := o.warnings ++ [⟨k.code, step, iter⟩] }
                  else { o with overflow := min 65535 (o.overflow + 1) }) }) o.id step iter) ∧
    (s.gt.openLoad = none → s.loadWarning k detail = tells s 0 step iter) ∧
    ∀ id, s.plainWarning k id detail = tells s id 255 255) ∧
  [WarningKind.compSaturated, .heightDrift, .sizeMismatch, .scored, .backwardApproach, .noHeight, .knifeWarnReached,
      .cutNowEnded, .turnEnded].map WarningKind.code =
    [1, 2, 3, 4, 5, 6, 16, 17, 18]

/-- O28. A tracked target is the nominal plus a compensation within 50, rounded half away from zero. R60 (and R61 for
the target). -/
def Obligations.CompensationOfATarget : Prop :=
  ∀ (s : State) (t : TableLoad) (g : Int),
    let x := s.targetFor t g
    let p := x.draw * ((t.height.getD 0 : Nat) : Int)
    (s.currentProgram = none → x.draw = s.ps.settings.drawCoeff) ∧
    (∀ q, s.currentProgram = some q → x.draw = q.header.draw.getD s.ps.settings.drawCoeff) ∧
    x.raw.natAbs = (p.natAbs + 500) / 1000 ∧ (0 ≤ p → 0 ≤ x.raw) ∧ (p < 0 → x.raw ≤ 0) ∧
    2 * (1000 * x.raw - p).natAbs ≤ 1000 ∧ (p.natAbs % 1000 = 500 → 1000 * x.raw.natAbs = p.natAbs + 500) ∧
    (x.raw < -50 → x.comp = -50) ∧ (50 < x.raw → x.comp = 50) ∧ (-50 ≤ x.raw → x.raw ≤ 50 → x.comp = x.raw) ∧
    (-50 ≤ x.comp ∧ x.comp ≤ 50) ∧ x.nominal = g ∧ x.target = g + x.comp ∧
    s.warnSaturated x = (if x.comp = x.raw then s else s.loadWarning .compSaturated x.raw)

/-- O29. A cut is checked for a load, a free place, a strip and the travel, in that order. R55, R58, R59, R61. The
model's choice, against R57's sentence: the last clause of the checks holds of a table load with D below GMIN too,
whose positive compensation lifts its target to GMIN or more (log 46). -/
def Obligations.ChecksOfACut : Prop :=
  (∀ (s : State) (d : Disposition) (g : Int),
    (s.gt.table = none → s.checkCut d g = .error (.noLoad, 0)) ∧
    ∀ t, s.gt.table = some t →
      let full : Prop := d = .aside ∧ 12 ≤ s.gt.aside.length
      let x := s.targetFor t g
      (full → s.checkCut d g = .error (.asideFull, 12)) ∧
      (¬full → ¬(1 ≤ g ∧ g < t.depth) → s.checkCut d g = .error (.emptyCut, g)) ∧
      (¬full → 1 ≤ g → g < t.depth → (x.target < 1800 ∨ 124000 < x.target) →
        s.checkCut d g = .error (.outOfTravel, x.target)) ∧
      (¬full → 1 ≤ g → g < t.depth → 1800 ≤ x.target → x.target ≤ 124000 → s.checkCut d g = .ok x)) ∧
  ∀ (s : State) (r : StepRec),
    (s.pr.iter = 0 → r.mode = .abs → s.iterationBase r = r.value) ∧
    (∀ t, s.pr.iter = 0 → r.mode = .trim → s.gt.table = some t → s.iterationBase r = (t.depth : Int) - r.value) ∧
    (∀ b, s.pr.iter ≠ 0 → s.gt.stepBase = some b → s.iterationBase r = b.base)

/-- O30. SELECT makes a complete program current in READY at its step 0, or is refused in the order of R68. R68. Its
RUN_STATE clause is R67 with the model's choice of when the one notice is raised (log 18). -/
def Obligations.SelectMakesAProgramCurrent : Prop :=
  (∀ (s : State) (m : Lines) (tag n : Byte), s.li.queue = [] →
    let c : Instr := .select m tag [n]
    let closed := (s.hearing c).setPs { s.ps with window := none }
    (¬(1 ≤ n.toNat ∧ n.toNat ≤ 99) → Decides c s closed [0x05]) ∧
    (1 ≤ n.toNat → n.toNat ≤ 99 →
      (s.program n.toNat = none → Decides c s closed [0x06]) ∧
      ∀ p, s.program n.toNat = some p →
        (p.complete = false → Decides c s closed [0x0A]) ∧
        (p.complete = true → s.runOpen = true → Decides c s closed [0x04]) ∧
        (p.complete = true → s.runOpen = false →
          Decides c s
            (closed.setPr
              { s.pr with state := .ready, program := n.toNat, step := 0, iter := 0, phase := .none, noticeDue := true })
            (0x00 :: leBytes 1 p.steps.length)))) ∧
  ∀ s : State,
    (s.pr.noticeDue = false → s.flush = s) ∧
    (s.pr.noticeDue = true →
      s.flush =
        (s.raise .runState
          (leBytes 1 s.pr.state.code ++ leBytes 1 s.pr.hold.code ++ leBytes 1 s.pr.program ++ leBytes 1 s.pr.step ++
            leBytes 1 s.pr.iter ++ leBytes 1 s.pr.phase.code ++ leBytes 1 s.pr.mode.code ++ leBytes 2 s.pr.done ++
            leBytes 2 s.pr.limit ++
            leBytes 1 ((if s.pr.lineHalt then 1 else 0) + if s.pr.fault.isSome then 2 else 0))).setPr
          { s.pr with noticeDue := false })

/-- O31. RUN sets mode, limit and counters and makes the boundary or resumes the suspended phase, or is refused. R69 and
R70. The turner being engaged is read with the record's issuer (R155). -/
def Obligations.RunOpensOrResumes : Prop :=
  ∀ (s : State) (m : Lines) (tag mode lo hi : Byte), s.li.queue = [] →
    let c : Instr := .run m tag [mode, lo, hi]
    let closed := (s.hearing c).setPs { s.ps with window := none }
    let limit := leNat [lo, hi]
    let fields : Prop := mode.toNat ≤ 1 ∧ (mode = 1 → limit = 0)
    let barred : Prop :=
      (s.pr.state ≠ .ready ∧ s.pr.state ≠ .held) ∨ s.pr.lineHalt = true ∨ s.pr.abortPending = true
    let engaged : Prop :=
      s.pt.state ≠ .parked ∧
        ¬(s.pt.state = .interrupted ∧ s.runOpen = true ∧ ∃ r, s.pt.record = some r ∧ r.issuer = .runner)
    let busy : Prop :=
      s.cs.state ≠ .ready ∨ s.gaugeBusy = true ∨ s.bg.slot ≠ none ∨ engaged ∨ s.manualInFlight = true
    let danger : Prop := s.sm.estopLatch = true ∨ s.guardOpen = true
    (¬fields → Decides c s closed [0x05]) ∧
    (fields → barred → Decides c s closed [0x04]) ∧
    (fields → ¬barred → busy → Decides c s closed [0x02]) ∧
    (fields → ¬barred → ¬busy → danger → Decides c s closed [0x0C]) ∧
    (fields → ¬barred → ¬busy → ¬danger →
      let t :=
        closed.setPr
          { s.pr with
            state := .running
            mode := if mode = 1 then .single else .continuous
            limit := limit
            done := 0
            hold := .none
            holdReq := false
            singleStep := false
            noticeDue := true }
      (s.pr.phase = .none → Decides c s t.boundary [0x00]) ∧
      (∀ r, (s.pr.phase = .positioning ∨ s.pr.phase = .cutting) → s.currentStep = some r →
        Decides c s (t.startIteration r) [0x00]) ∧
      (s.pr.phase = .infeedWait ∨ s.pr.phase = .placeWait ∨ s.pr.phase = .removeWait → Decides c s t [0x00]) ∧
      (s.pr.phase = .retract → Decides c s t.handRetract [0x00]) ∧
      (s.pr.phase = .contact → Decides c s t.handContact [0x00]) ∧
      (s.pr.phase = .turning → Decides c s t.handTurn [0x00]))

/-- O32. The step boundary takes the end of the program, the step limit, the holds, single mode and the step, in this
order. R71, R72, with R73 and the order of R83. That RUN_END at PROGRAM_END carries the step index reached is the
model's inference (log 14). -/
def Obligations.BoundaryTakesItsPointsInOrder : Prop :=
  ∀ s : State,
    let ends : State → Byte → Nat → State := fun x why step =>
      (x.raise .runEnd
        ([why] ++ leBytes 1 x.pr.program ++ leBytes 1 x.pr.step ++ leBytes 2 x.pr.done ++
          leBytes 2 (if x.pr.limit = 0 then 0 else x.pr.limit - x.pr.done))).setPr
        { x.pr with
          state := .ready
          step := step
          iter := 0
          phase := .none
          hold := .none
          abortPending := false
          skipPending := false
          waits := .nothing
          noticeDue := true }
    let holds : State → HoldReason → State := fun x why =>
      x.setPr { x.pr with state := .held, hold := why, holdReq := false, waits := .nothing, noticeDue := true }
    let points : State → State := fun x =>
      if x.pr.limit ≠ 0 ∧ x.pr.done = x.pr.limit then ends x 1 x.pr.step
      else if x.keyOn = true then holds x .bladeChange
      else if x.pr.lineHalt = true then holds x .lineHalt
      else if x.pr.holdReq = true then holds x .hostHold
      else if x.pr.mode = .single ∧ x.pr.singleStep = true then holds x .singleDone
      else x.startStep
    (∀ p, s.currentProgram = some p → s.pr.step = p.steps.length →
      (p.header.link = none → s.boundary = ends s 0 0) ∧
      ∀ n, p.header.link = some n →
        ((∃ q, s.program n = some q ∧ q.complete = true) →
          s.boundary = points (s.setPr { s.pr with program := n, step := 0, iter := 0, noticeDue := true })) ∧
        ((∀ q, s.program n = some q → q.complete = false) → s.boundary = s.reportFault .linkInvalid n)) ∧
    ((∀ p, s.currentProgram = some p → s.pr.step ≠ p.steps.length) → s.boundary = points s)

/-- O33. A step begins with its checks in order, faulting at the first that fails, and else enters its first phase. R74,
R75, R77, R79, R80, R81, with the details of Table 31 and the warning of R60. The model's choices at a failed check:
the warning of a target out of travel (log 12), the phase none (log 15), the kept step base (log 31). -/
def Obligations.StepsStartWithTheirChecks : Prop :=
  ∀ (s : State) (r : StepRec), s.currentStep = some r →
    let stop : FaultKind → Int → State := fun k d => (s.setPr { s.pr with phase := .none }).reportFault k d
    let wait : Phase → State := fun p => s.setPr { s.pr with phase := p, noticeDue := true }
    let retract : Int → State := fun x => (s.setPr { s.pr with phase := .retract, retractPos := x }).handRetract
    let clearance := s.ps.settings.turnClearance
    ((r.kind = .cut ∨ r.kind = .load ∨ r.kind = .turn ∨ r.kind = .recall) → s.bg.referenced = false →
      s.startStep = stop .notReferenced 0) ∧
    (r.kind = .cut → s.bg.referenced = true →
      let base := s.iterationBase r
      (∀ k d, s.checkCut r.disposition (base - s.pr.iter * r.pitch) = .error (k, d) → k ≠ .outOfTravel →
        s.startStep = stop k d) ∧
      (∀ t d, s.gt.table = some t →
        s.checkCut r.disposition (base - s.pr.iter * r.pitch) = .error (.outOfTravel, d) →
          let x := s.targetFor t (base - s.pr.iter * r.pitch)
          let y := if x.comp = x.raw then s else s.warn .compSaturated s.loadId s.warnStep s.warnIter x.raw
          s.startStep = (y.setPr { s.pr with phase := .none }).reportFault .outOfTravel d) ∧
      ∀ x, s.checkCut r.disposition (base - s.pr.iter * r.pitch) = .ok x →
        s.startStep =
          (((s.setGt { s.gt with stepBase := some ⟨s.pr.program, s.pr.step, base⟩ }).warnSaturated x).setPr
            { s.pr with
              phase := .positioning
              figures :=
                some
                  { issuer := .runner
                    tracked := true
                    nominal := x.nominal
                    comp := x.comp
                    target := x.target
                    draw := x.draw
                    heightUsed := x.height
                    disposition := r.disposition
                    step := s.pr.step
                    iter := s.pr.iter
                    loadId := s.loadId
                    measured := none
                    leftTop := false
                    mark := .clean } }).handPositioning) ∧
    (r.kind = .load → s.bg.referenced = true →
      (∀ t, s.gt.table = some t → s.startStep = stop .tableOccupied t.loadId) ∧
      (s.gt.table = none →
        (s.gt.aside ≠ [] → s.startStep = stop .asideNotEmpty s.gt.aside.length) ∧
        (s.gt.aside = [] →
          (s.knifeLimit ≤ s.cs.counter → s.startStep = stop .knifeLimit s.cs.counter) ∧
          (s.cs.counter < s.knifeLimit →
            (∀ f p, (s.currentProgram.bind fun q => q.header.format) = some f → s.pl.pile = some p →
              f ≠ (p.w, p.ls) → s.startStep = stop .formatMismatch f.1) ∧
            ((∀ f p, (s.currentProgram.bind fun q => q.header.format) = some f → s.pl.pile = some p →
              f = (p.w, p.ls)) → s.startStep = wait .infeedWait))))) ∧
    (r.kind = .turn → s.bg.referenced = true →
      (s.gt.table = none → s.startStep = stop .noLoad 0) ∧
      ∀ t, s.gt.table = some t →
        let x := max t.len t.depth + clearance
        (124000 < x → s.startStep = stop .turnClearance x) ∧ (x ≤ 124000 → s.startStep = retract x)) ∧
    (r.kind = .eject →
      (s.gt.table = none → s.startStep = stop .noLoad 0) ∧
      (s.gt.table ≠ none → r.disposition = .aside → 12 ≤ s.gt.aside.length → s.startStep = stop .asideFull 12) ∧
      (s.gt.table ≠ none → ¬(r.disposition = .aside ∧ 12 ≤ s.gt.aside.length) → s.startStep = wait .removeWait)) ∧
    (r.kind = .recall → s.bg.referenced = true →
      (∀ t, s.gt.table = some t → s.startStep = stop .tableOccupied t.loadId) ∧
      (s.gt.table = none → s.gt.aside = [] → s.startStep = stop .asideEmpty 0) ∧
      ∀ p rest, s.gt.table = none → s.gt.aside = p :: rest →
        s.startStep = retract (min 124000 (p.depth + clearance : Nat))) ∧
    (r.kind = .pause →
      let a :=
        s.setPr
          { s.pr with
            done := min 65535 (s.pr.done + 1)
            singleStep := true
            step := s.pr.step + 1
            iter := 0
            phase := .none
            skipPending := false
            waits := .nothing
            noticeDue := true }
      (s.pr.limit ≠ 0 → a.pr.done = s.pr.limit → s.startStep = a.endReady .stepLimit (s.pr.step + 1)) ∧
      (s.pr.limit = 0 ∨ a.pr.done ≠ s.pr.limit →
        s.startStep =
          a.setPr { a.pr with state := .held, hold := .programPause, holdReq := false, waits := .nothing, noticeDue := true }))

/-- O34. In INFEED_WAIT a ready slot is checked and retracted for, a spent infeed holds PILE_EMPTY, and else the Runner
waits. R77 with R56 and the ready-load checks of R74. The model's choices: when it looks (log 28), and that a failed
check leaves the phase none (log 15). -/
def Obligations.InfeedWaitLooksAtTheSlot : Prop :=
  ∀ s : State,
    let waits : Prop := s.pr.state = .running ∧ s.pr.phase = .infeedWait
    let stop : FaultKind → Int → State := fun k d => (s.setPr { s.pr with phase := .none }).reportFault k d
    (waits → s.jg.state = .ready →
      let h : Nat := match s.jg.height with
        | .known x => x
        | .unknown => 0
        | .pending => 0
      (s.pl.pile = none → (s.currentProgram.bind fun q => q.header.format) = none →
        s.infeedLook = stop .formatMismatch 0) ∧
      ∀ w ls, (∃ p, s.pl.pile = some p ∧ p.w = w ∧ p.ls = ls) ∨
          (s.pl.pile = none ∧ (s.currentProgram.bind fun q => q.header.format) = some (w, ls)) →
        (1650 < h → s.infeedLook = stop .tooTall h) ∧
        (h ≤ 1650 → 124000 < ls → s.infeedLook = stop .loadTooDeep ls) ∧
        (h ≤ 1650 → ls ≤ 124000 →
          s.infeedLook =
            ((s.setGt { s.gt with prepared := some (w, ls) }).setPr
              { s.pr with
                phase := .retract
                retractPos := min 124000 (ls + s.ps.settings.turnClearance : Nat) }).handRetract)) ∧
    (waits → s.jg.state = .empty → s.pl.state = .exhausted ∨ s.pl.state = .noPile →
      s.infeedLook =
        s.setPr { s.pr with state := .held, hold := .pileEmpty, holdReq := false, waits := .nothing, noticeDue := true }) ∧
    (¬waits ∨ (s.jg.state ≠ .ready ∧
        ¬(s.jg.state = .empty ∧ (s.pl.state = .exhausted ∨ s.pl.state = .noPile))) → s.infeedLook = s)

/-- O35. HOLD asks for a hold in RUNNING and changes nothing in HELD; LINE_HALT sets or clears its flag in every state.
R84; LINE_HALT is R93, and the hold taken at once R83. -/
def Obligations.HoldAndLineHaltSetTheirFlags : Prop :=
  (∀ (s : State) (m : Lines) (tag : Byte), s.li.queue = [] →
    let c : Instr := .hold m tag []
    let closed := (s.hearing c).setPs { s.ps with window := none }
    ((s.pr.state ≠ .running ∧ s.pr.state ≠ .held) ∨ s.pr.abortPending = true → Decides c s closed [0x04]) ∧
    (s.pr.abortPending = false → s.pr.state = .running →
      Decides c s (closed.setPr { s.pr with holdReq := true }) [0x00]) ∧
    (s.pr.abortPending = false → s.pr.state = .held → Decides c s closed [0x00])) ∧
  (∀ (s : State) (m : Lines) (tag : Byte) (body : List Byte), s.li.queue = [] → body ≠ [] →
    Decides (.hold m tag body) s ((s.hearing (.hold m tag body)).setPs { s.ps with window := none }) [0x05]) ∧
  (∀ (s : State) (m : Lines) (tag v : Byte), s.li.queue = [] →
    let c : Instr := .lineHalt m tag [v]
    let closed := (s.hearing c).setPs { s.ps with window := none }
    (v = 0 → Decides c s (closed.setPr { s.pr with lineHalt := false }) [0x00, 0x00]) ∧
    (v = 1 → Decides c s (closed.setPr { s.pr with lineHalt := true }) [0x00, 0x01]) ∧
    (v ≠ 0 → v ≠ 1 → Decides c s closed [0x05])) ∧
  ∀ s : State, s.pr.state = .running → s.cs.cycle = none → s.pr.waits = .nothing →
    s.pr.phase = .infeedWait ∨ s.pr.phase = .placeWait ∨ s.pr.phase = .removeWait →
    let holds : HoldReason → State := fun why =>
      s.setPr { s.pr with state := .held, hold := why, holdReq := false, waits := .nothing, noticeDue := true }
    s.takeHold =
      if s.keyOn = true then holds .bladeChange
      else if s.pr.lineHalt = true then holds .lineHalt
      else if s.pr.holdReq = true then holds .hostHold
      else s

/-- O36. SKIP ends the step and ABORT the run, at once or when the work in flight ends; a hold is taken at the hold
points of R83. R83, R86, R87, R120, R66, R159. The model's choices: a pending completion is in flight for SKIP only
(log 27), SKIP under the latch and ends that are no completions (log 16), the resumed RELEASE of a run that ends
(log 20), an abort before position and count move (log 47), when hold points are looked at (log 28), two causes at
once (log 48), a cycle for a station that is not READY waits (log 19), the phase POSITIONING between two iterations
(log 15), a HELD Runner that keeps its reason at a guard stop (log 45), a manual cycle back in ARMED under a line
halt set meanwhile (log 52). -/
def Obligations.SkipEndsTheStepAndAbortTheRun : Prop :=
  (∀ (s : State) (m : Lines) (tag : Byte), s.li.queue = [] →
    let c : Instr := .skip m tag []
    let closed := (s.hearing c).setPs { s.ps with window := none }
    let waitPhase : Prop := s.pr.phase = .infeedWait ∨ s.pr.phase = .placeWait ∨ s.pr.phase = .removeWait
    let barred : Prop :=
      (s.pr.state ≠ .running ∧ s.pr.state ≠ .held) ∨ s.pr.abortPending = true ∨ s.pr.skipPending = true ∨
        (s.pt.state ≠ .parked ∧ s.pt.state ≠ .fault) ∨
        (∃ p, s.currentProgram = some p ∧ s.pr.step = p.steps.length) ∨
        ((∀ r, s.currentStep = some r → r.kind ≠ .cut) ∧ s.pr.state = .running ∧ ¬waitPhase)
    let flight : Prop := s.runnerMoveInFlight = true ∨ s.runnerCycleInFlight = true
    let w := closed.withdrawRunner
    let a :=
      (w.setPr
        { w.pr with
          done := min 65535 (s.pr.done + 1)
          singleStep := true
          step := s.pr.step + 1
          iter := 0
          phase := .none
          skipPending := false
          waits := .nothing
          noticeDue := true }).setGt { w.gt with prepared := none }
    (barred → Decides c s closed [0x04]) ∧
    (¬barred → flight → Decides c s (closed.setPr { s.pr with skipPending := true }) [0x00]) ∧
    (¬barred → ¬flight → s.sm.estopLatch = true → Decides c s a [0x00]) ∧
    (¬barred → ¬flight → s.sm.estopLatch = false → s.pr.state = .running → Decides c s a.boundary [0x00]) ∧
    (¬barred → ¬flight → s.sm.estopLatch = false → s.pr.state = .held → Decides c s (a.boundaryBy id) [0x00])) ∧
  (∀ (s : State) (m : Lines) (tag : Byte), s.li.queue = [] →
    let c : Instr := .abort m tag []
    let closed := (s.hearing c).setPs { s.ps with window := none }
    (s.pr.state = .idle ∨ s.pr.abortPending = true → Decides c s closed [0x04]) ∧
    (s.pr.state = .ready → s.pr.abortPending = false →
      Decides c s
        ((closed.setPr
          { Runner.powerOn with
            lineHalt := s.pr.lineHalt, fault := s.pr.fault, second := s.pr.second, noticeDue := true }).setGt
          { s.gt with prepared := none, stepBase := none }) [0x00]) ∧
    (s.runOpen = true → s.pr.abortPending = false →
      (s.abortWaits = true → Decides c s (closed.setPr { s.pr with abortPending := true }).withdrawRunner [0x00]) ∧
      (s.abortWaits = false → Decides c s closed.withdrawRunner.abortEnd [0x00]))) ∧
  (∀ s : State, s.runOpen = true →
    let t := s.abortEnd
    let position := leBytes 1 s.pr.program ++ leBytes 1 s.pr.step ++ leBytes 1 s.pr.iter
    t.pr =
      { Runner.powerOn with
        lineHalt := s.pr.lineHalt
        fault :=
          some (s.pr.fault.getD ⟨.aborted, s.pr.program, s.pr.step, s.pr.iter, s.loadId, 0⟩)
        second := s.pr.second || s.pr.fault.isSome
        noticeDue := true } ∧
    t.gt = { s.gt with prepared := none, stepBase := none } ∧
    t.li =
      (s.li.raise .fault
        ([0x0F, 0x00] ++ position ++ leBytes 2 s.loadId ++ [0, 0, 0, 0] ++
          [if s.pr.fault.isNone then 0x01 else 0x00])).raise .runEnd
        ([0x02] ++ leBytes 1 s.pr.program ++ leBytes 1 s.pr.step ++ leBytes 2 s.pr.done ++
          leBytes 2 (if s.pr.limit = 0 then 0 else s.pr.limit - s.pr.done)) ∧
    t.pt =
      (if s.pt.state = .interrupted then
        { s.pt with
          record := s.pt.record.map fun r => { r with issuer := if r.issuer = .runner then .nobody else r.issuer } }
      else s.pt) ∧
    t.hs = { s.hs with reqTurn := s.hs.reqTurn && decide (s.pt.state ≠ .interrupted) } ∧
    t = (((((s.setLi t.li).setPr t.pr).setGt t.gt).setHs t.hs).setPt t.pt)) ∧
  ∀ s : State,
    let short : Prop := s.cs.state = .armed ∨ s.cs.state = .grantWait ∨ s.cs.state = .preclamped
    let ours : Prop := short ∧ ∃ c, s.cs.cycle = some c ∧ c.issuer = .runner
    let withdrawn :=
      ((s.setCs
        { s.cs with
          state := if s.keyOn then .bladeChange else .ready
          cycle := none
          pedalDwell := none
          clampTimer := none
          knifeTimer := none
          clampValve := .closed
          knifeValve := .rest }).setHs { s.hs with reqCut := false }).release .cut
    let held : HoldReason → State → State := fun why x =>
      x.setPr { x.pr with state := .held, hold := why, holdReq := false, waits := .nothing, noticeDue := true }
    let skipped : State → State := fun x =>
      let y :=
        (x.setPr
          { x.pr with
            done := min 65535 (x.pr.done + 1)
            singleStep := true
            step := x.pr.step + 1
            iter := 0
            phase := .none
            skipPending := false
            waits := .nothing
            noticeDue := true }).setGt { x.gt with prepared := none }
      if x.sm.estopLatch then y
      else if x.pr.state = .running then y.boundary
      else if x.pr.state = .held then y.boundaryBy id
      else y
    let reason : Option HoldReason :=
      if s.keyOn then some .bladeChange
      else if s.pr.lineHalt then some .lineHalt
      else if s.pr.holdReq then some .hostHold
      else none
    let waits : Prop := s.pr.phase = .infeedWait ∨ s.pr.phase = .placeWait ∨ s.pr.phase = .removeWait
    let here : Prop := s.pr.state = .running ∧ (waits ∨ (s.pr.phase = .cutting ∧ (ours ∨ s.pr.waits = .cycle)))
    (s.pr.abortPending = true →
      s.runnerMoveDone = s.abortEnd ∧ s.runnerCycleDone = s.abortEnd ∧ s.runnerCycleAborted = s.abortEnd ∧
        s.runnerTurnDone = s.abortEnd ∧
        ∀ byGuard, s.runnerMoveStopped byGuard = s.abortEnd ∧ s.runnerTurnStopped byGuard = s.abortEnd) ∧
    (s.pr.abortPending = false → s.pr.skipPending = true →
      s.runnerMoveDone = skipped s ∧ s.runnerCycleDone = skipped s ∧ s.runnerCycleAborted = skipped s ∧
        s.runnerTurnDone = skipped s ∧ (∀ byGuard, s.runnerTurnStopped byGuard = skipped s) ∧
        s.runnerMoveStopped false = skipped s ∧
        s.runnerMoveStopped true = skipped (if s.pr.state = .running then held .guardOpen s else s)) ∧
    (∀ (c : Cycle) (cause : Nat),
      (c.issuer = .manual → s.cycleDropped c cause = s.plainWarning .cutNowEnded s.loadId cause) ∧
      (c.issuer = .runner → s.runOpen = false → s.cycleDropped c cause = s) ∧
      (c.issuer = .runner → s.runOpen = true →
        (s.pr.abortPending = true → s.cycleDropped c cause = s.abortEnd) ∧
        (s.pr.abortPending = false → s.pr.skipPending = true → s.cycleDropped c cause = skipped s) ∧
        (s.pr.abortPending = false → s.pr.skipPending = false → s.cycleDropped c cause = s))) ∧
    (ours → s.withdrawRunner = withdrawn) ∧ (¬ours → s.withdrawRunner = s) ∧
    (ours ∨ s.pr.waits = .cycle →
      (s.pr.abortPending = true → s.pendingAtArmed = s.withdrawRunner.abortEnd) ∧
      (s.pr.abortPending = false → s.pr.skipPending = true → s.pendingAtArmed = skipped s.withdrawRunner)) ∧
    ((¬ours ∧ s.pr.waits ≠ .cycle) ∨ (s.pr.abortPending = false ∧ s.pr.skipPending = false) → s.pendingAtArmed = s) ∧
    (∀ why, reason = some why →
      s.positioned = held why s ∧ s.boundaryHold = held why s ∧
        (∀ r, s.nextIteration r = held why (s.setPr { s.pr with phase := .positioning })) ∧
        (here → s.takeHold = held why s.withdrawRunner)) ∧
    (¬here ∨ reason = none → s.takeHold = s) ∧
    (reason = none →
      (∀ c, s.pr.figures = some c →
        s.positioned =
          (if s.cs.state = .ready then
            (s.setPr { s.pr with phase := .cutting, waits := .nothing }).setCs
              { s.cs with state := .armed, cycle := some c, pedalCounts := !s.cs.pedal }
          else s.setPr { s.pr with phase := .cutting, waits := .cycle })) ∧
      ∀ r,
        let p := s.setPr { s.pr with phase := .positioning }
        s.nextIteration r = (if s.pr.mode = .single then held .singleDone p else p.startIteration r)) ∧
    (∀ c, s.cs.cycle = some c → short →
      (c.issuer = .runner → s.csFollow = if s.pr.state = .running then s else withdrawn) ∧
      (c.issuer = .manual →
        s.csFollow =
          (if s.pr.lineHalt then withdrawn.plainWarning .cutNowEnded withdrawn.loadId 2
          else if s.keyOn then withdrawn.plainWarning .cutNowEnded withdrawn.loadId 3
          else s))) ∧
    (¬short ∨ s.cs.cycle = none → s.csFollow = s)

/-- O37. LOCATE moves the position to an index, or to the first step with a label over at most 8 linked programs. R88,
R89. The model's inferences: a pending completion counts as a cycle in flight (log 27), a follow flag over 1 in
either mode (log 13). -/
def Obligations.LocateMovesThePosition : Prop :=
  let moved : State → Nat → Nat → State := fun x n i =>
    (x.setPr
      { x.pr with program := n, step := i, iter := 0, phase := .none, waits := .nothing, noticeDue := true }).setGt
      { x.gt with prepared := none }
  let barred : State → Prop := fun s =>
    (s.pr.state ≠ .ready ∧ s.pr.state ≠ .held) ∨ (s.pt.state ≠ .parked ∧ s.pt.state ≠ .fault) ∨
      s.runnerMoveInFlight = true ∨
      (s.cs.state = .clamping ∨ s.cs.state = .cutting ∨ s.cs.state = .returning ∨ s.cs.state = .abortReturn ∨
        s.cs.pendingDone ≠ none)
  (∀ (s : State) (m : Lines) (tag n i lo hi follow : Byte), s.li.queue = [] →
    let c : Instr := .locate m tag [0, n, i, lo, hi, follow]
    let closed := (s.hearing c).setPs { s.ps with window := none }
    let fields : Prop := follow.toNat ≤ 1 ∧ 1 ≤ n.toNat ∧ n.toNat ≤ 99
    (¬fields → Decides c s closed [0x05]) ∧
    (fields →
      (s.program n.toNat = none → Decides c s closed [0x06]) ∧
      ∀ p, s.program n.toNat = some p →
        (p.steps.length ≤ i.toNat → Decides c s closed [0x06]) ∧
        (i.toNat < p.steps.length → p.complete = false → Decides c s closed [0x0A]) ∧
        (i.toNat < p.steps.length → p.complete = true → barred s → Decides c s closed [0x04]) ∧
        (i.toNat < p.steps.length → p.complete = true → ¬barred s →
          Decides c s (moved closed n.toNat i.toNat) [0x00, n, i]))) ∧
  (∀ (s : State) (m : Lines) (tag mode : Byte) (rest : List Byte), s.li.queue = [] → rest.length = 5 →
    1 < mode.toNat →
    let c : Instr := .locate m tag (mode :: rest)
    Decides c s ((s.hearing c).setPs { s.ps with window := none }) [0x05]) ∧
  ∀ (s : State) (m : Lines) (tag a b : Byte) (label : BitVec 16) (follow : Byte), s.li.queue = [] →
    let c : Instr := .locateByLabel m tag a b label follow
    let closed := (s.hearing c).setPs { s.ps with window := none }
    let fields : Prop := (1 ≤ label.toNat ∧ label.toNat ≤ 9999) ∧ follow.toNat ≤ 1
    let first : Nat → Nat := fun k => if k = 0 then s.pr.step + 1 else 0
    (¬fields → Decides c s closed [0x05]) ∧
    (fields → s.pr.state = .idle → Decides c s closed [0x04]) ∧
    (fields → s.pr.state ≠ .idle → ∀ (earlier : List (Nat × Program)) (n : Nat) (p : Program),
      let chain := earlier ++ [(n, p)]
      chain.length ≤ 8 → (follow = 0 → earlier = []) → (chain.head?.map Prod.fst) = some s.pr.program →
      (∀ e ∈ chain, s.program e.1 = some e.2) → (∀ e ∈ chain.tail, e.2.complete = true) →
      (∀ (k : Nat) (x y : Nat × Program), chain[k]? = some x → chain[k + 1]? = some y → x.2.header.link = some y.1) →
      (∀ (k : Nat) (x : Nat × Program), earlier[k]? = some x → ∀ r ∈ x.2.steps.drop (first k), r.label ≠ label.toNat) →
      (∀ (i : Nat) (r : StepRec), p.steps[i]? = some r → r.label = label.toNat → first earlier.length ≤ i →
        (∀ (j : Nat) (x : StepRec), first earlier.length ≤ j → j < i → p.steps[j]? = some x → x.label ≠ label.toNat) →
        (barred s → Decides c s closed [0x04]) ∧
        (¬barred s → Decides c s (moved closed n i) (0x00 :: (leBytes 1 n ++ leBytes 1 i)))) ∧
      ((∀ r ∈ p.steps.drop (first earlier.length), r.label ≠ label.toNat) →
        follow = 0 ∨ chain.length = 8 ∨ p.header.link = none ∨
          (∃ l, p.header.link = some l ∧ ∀ q, s.program l = some q → q.complete = false) →
        Decides c s closed [0x06]))

/-- O38. A reported fault is recorded or sets the second flag, stops an open run, may set the line halt, and is noticed.
R90, Tables 40 and 41. Flag bits 1 and 2 as entered and set by this fault: log 17. -/
def Obligations.FaultsAreReportedToTheRunner : Prop :=
  (∀ (s : State) (k : FaultKind) (d : Int),
    let t := s.reportFault k d
    let stops : Bool :=
      s.runOpen && (decide (k ≠ .liftTimeout ∧ k ≠ .jogFailed) || decide (s.pr.phase = .infeedWait))
    let now : FaultRec :=
      if s.runOpen then ⟨k, s.pr.program, s.pr.step, s.pr.iter, s.loadId, d⟩ else ⟨k, 0, 0, 0, s.loadId, d⟩
    let entered : Bool := stops && decide (s.pr.state ≠ .faulted)
    t.pr =
      { s.pr with
        fault := some (s.pr.fault.getD now)
        second := s.pr.second || s.pr.fault.isSome
        state := if stops then .faulted else s.pr.state
        hold := if stops then .none else s.pr.hold
        waits := if stops then .nothing else s.pr.waits
        lineHalt := s.pr.lineHalt || s.ps.settings.haltOnFault
        noticeDue := s.pr.noticeDue || entered } ∧
    t.li =
      s.li.raise .fault
        (leBytes 1 k.code ++ leBytes 1 k.source ++ leBytes 1 now.program ++ leBytes 1 now.step ++
          leBytes 1 now.iter ++ leBytes 2 s.loadId ++ leInt 4 d ++
          [flagByte [s.pr.fault.isNone, entered, s.ps.settings.haltOnFault && !s.pr.lineHalt]]) ∧
    t = (s.setPr t.pr).setLi t.li) ∧
  [FaultKind.emptyCut, .outOfTravel, .noLoad, .tableOccupied, .asideNotEmpty, .asideFull, .asideEmpty,
      .turnClearance, .tooTall, .loadTooDeep, .knifeLimit, .formatMismatch, .linkInvalid, .notReferenced, .aborted,
      .followingError, .overtravel, .clampTimeout, .knifeTimeout, .pumpFault, .pressureLost, .liftTimeout, .jogFailed,
      .notParked, .estop, .safetyDiscrepancy].map (fun k => (k.code, k.source)) =
    [(1, 0), (2, 0), (3, 0), (4, 0), (5, 0), (6, 0), (7, 0), (8, 0), (9, 0), (10, 0), (11, 0), (12, 0), (13, 0),
      (14, 0), (15, 0), (20, 1), (21, 1), (24, 2), (25, 2), (28, 3), (29, 3), (32, 4), (34, 5), (36, 6), (40, 7),
      (41, 7)]

/-- O39. CLEAR_FAULT clears the record and the faulted units, and returns the record as it stood. R92, with the
station's part from R126. -/
def Obligations.ClearFaultClearsEveryBlock : Prop :=
  ∀ (s : State) (m : Lines) (tag : Byte), s.li.queue = [] →
    let c : Instr := .clearFault m tag []
    let closed := (s.hearing c).setPs { s.ps with window := none }
    (s.sm.estopLatch = true → Decides c s closed [0x0C]) ∧
    (s.sm.estopLatch = false →
      let r : Runner := { s.pr with fault := none, second := false }
      let t1 :=
        closed.setPr
          (if s.pr.state = .faulted then
            { r with state := .held, hold := .cleared, holdReq := false, waits := .nothing, noticeDue := true }
          else r)
      let t2 := t1.setHs (if s.hs.pump = .fault then { s.hs with pump := .lockout, lockoutTimer := some 5000 } else s.hs)
      let t3 :=
        if s.jg.state = .failed then (t2.setJg { s.jg with state := .stopped }).infeedNotice .slotStopped 0 else t2
      let t4 := t3.setBg (if s.bg.state = .fault then { t3.bg with state := .unreferenced } else t3.bg)
      let atRest : CutState → CutStation := fun x =>
        { t4.cs with
          state := x
          cycle := none
          pedalDwell := none
          clampTimer := none
          knifeTimer := none
          clampValve := .closed
          knifeValve := .rest }
      let t5 :=
        if s.cs.state = .fault then
          if m.clampUp = true ∧ m.knifeTop = true then t4.setCs (atRest (if s.keyOn then .bladeChange else .ready))
          else (t4.setCs (atRest .recover)).request .cut
        else t4
      Decides c s t5
        (0x00 ::
          ((match s.pr.fault with
            | some f =>
              leBytes 1 f.kind.code ++ leBytes 1 f.kind.source ++ leBytes 1 f.program ++ leBytes 1 f.step ++
                leBytes 1 f.iter ++ leBytes 2 f.loadId ++ leInt 4 f.detail
            | none => List.replicate 11 0) ++ [if s.pr.second then 0x01 else 0x00])))

/-- O40. CONFIRM, by button or request, places, removes or resumes, and acts nowhere else. R82 with R78, R80, R81, R42,
R52, R54. -/
def Obligations.ConfirmActsInItsThreePlaces : Prop :=
  ∀ (s : State) (m : Lines) (tag : Byte),
    let request : Instr := .confirm m tag []
    let button : Instr := .confirmButton m
    let closed := (s.hearing request).setPs { s.ps with window := none }
    let acts : (State → State) → Prop := fun g =>
      (s.li.queue = [] → Decides request s (g closed) [0x00]) ∧ Becomes button s (g (s.sample m))
    let place : Prop := s.pr.state = .running ∧ s.pr.phase = .placeWait
    let remove : Prop := s.pr.state = .running ∧ s.pr.phase = .removeWait
    let pause : Prop := s.pr.state = .held ∧ s.pr.hold = .programPause
    (∀ r w ls, place → s.currentStep = some r → r.kind = .load → s.gt.prepared = some (w, ls) →
      acts fun x =>
        (((x.setGt
          { s.gt with
            table :=
              some
                { loadId := s.gt.nextId
                  rect := ⟨0, 0, w, ls⟩
                  q := 0
                  height := match s.jg.height with
                    | .known h => some h
                    | .unknown => none
                    | .pending => none
                  scored := false }
            openLoad := some ⟨s.gt.nextId, w, ls, 0, 0, 0, [], 0⟩
            nextId := if s.gt.nextId < 65535 then s.gt.nextId + 1 else 1
            prepared := none }).setJg
          { s.jg with state := .empty, height := .known 0, retries := 0, cycles := 0 }).infeedNotice .slotEmpty
            0).handContact) ∧
    (∀ r p rest, place → s.currentStep = some r → r.kind = .recall → s.gt.aside = p :: rest →
      acts fun x =>
        (x.setGt { s.gt with table := some ⟨p.loadId, p.rect, p.q, p.height, false⟩, aside := rest }).handContact) ∧
    (∀ r, remove → s.currentStep = some r → acts fun x => (x.eject r.disposition).finishStep) ∧
    (pause →
      acts fun x =>
        (x.setPr { s.pr with state := .running, hold := .none, singleStep := false, noticeDue := true }).boundary) ∧
    (¬place → ¬remove → ¬pause →
      (s.li.queue = [] → Decides request s closed [0x04]) ∧ Becomes button s (s.sample m))

/-- O41. A contact is an approach to max(D, GMIN), and the end of each operation of a run leads on as R75 to R80 say.
R57, R75 to R80, R85, R91. The model's inferences: the phase held between iterations (log 15), a HELD Runner that
keeps its reason at a guard stop (log 45). -/
def Obligations.ContactsAndFinishedStepsGoOn : Prop :=
  (∀ (s : State) (t : TableLoad), s.gt.table = some t →
    s.contactPosition = max (t.depth : Int) 1800) ∧
  (∀ s : State, s.pr.abortPending = false → s.pr.skipPending = false →
    let held :=
      s.setPr
        { s.pr with state := .held, hold := .guardOpen, holdReq := false, waits := .nothing, noticeDue := true }
    (s.pr.state = .running → s.runnerMoveStopped true = held ∧ s.runnerTurnStopped true = held) ∧
    (s.pr.state ≠ .running → s.runnerMoveStopped true = s ∧ s.runnerTurnStopped true = s) ∧
    s.runnerMoveStopped false = s ∧ s.runnerTurnStopped false = s) ∧
  ∀ (s : State) (r : StepRec), s.currentStep = some r → s.pr.abortPending = false → s.pr.skipPending = false →
    let done : State → State := fun x =>
      x.setPr
        { x.pr with
          done := min 65535 (x.pr.done + 1)
          singleStep := true
          step := x.pr.step + 1
          iter := 0
          phase := .none
          skipPending := false
          waits := .nothing
          noticeDue := true }
    let y := s.setPr { s.pr with iter := s.pr.iter + 1, singleStep := true, noticeDue := true }
    let p := y.setPr { y.pr with phase := .positioning }
    let free : Prop := s.keyOn = false ∧ s.pr.lineHalt = false ∧ s.pr.holdReq = false
    (s.pr.state = .running →
      (∀ c, s.pr.phase = .positioning → free → s.pr.figures = some c → s.cs.state = .ready →
        s.runnerMoveDone =
          (s.setPr { s.pr with phase := .cutting, waits := .nothing }).setCs
            { s.cs with state := .armed, cycle := some c, pedalCounts := !s.cs.pedal }) ∧
      (s.pr.phase = .retract → r.kind ≠ .turn →
        s.runnerMoveDone = s.setPr { s.pr with phase := .placeWait, noticeDue := true }) ∧
      (s.pr.phase = .retract → r.kind = .turn →
        s.runnerMoveDone = (s.setPr { s.pr with phase := .turning }).handTurn) ∧
      (s.pr.phase = .contact → s.runnerMoveDone = (done s).boundary) ∧
      (r.count ≤ s.pr.iter + 1 → s.runnerCycleDone = (done y).boundary) ∧
      (s.pr.iter + 1 < r.count → free → s.pr.mode = .continuous → s.runnerCycleDone = p.startIteration r) ∧
      (s.pr.iter + 1 < r.count → free → s.pr.mode = .single →
        s.runnerCycleDone =
          p.setPr
            { p.pr with state := .held, hold := .singleDone, holdReq := false, waits := .nothing, noticeDue := true }) ∧
      s.runnerCycleAborted =
        s.setPr
          { s.pr with state := .held, hold := .strokeAborted, holdReq := false, waits := .nothing, noticeDue := true } ∧
      s.runnerTurnDone = s.handContact) ∧
    (s.pr.state ≠ .running →
      (s.pr.phase = .positioning → s.runnerMoveDone = s) ∧
      (s.pr.phase = .retract → r.kind ≠ .turn →
        s.runnerMoveDone = s.setPr { s.pr with phase := .placeWait, noticeDue := true }) ∧
      (s.pr.phase = .retract → r.kind = .turn → s.runnerMoveDone = s.setPr { s.pr with phase := .turning }) ∧
      (s.pr.phase = .contact → s.runnerMoveDone = done s) ∧
      (r.count ≤ s.pr.iter + 1 → s.runnerCycleDone = done y) ∧
      (s.pr.iter + 1 < r.count → s.runnerCycleDone = p) ∧
      s.runnerCycleAborted = s ∧ s.runnerTurnDone = s.setPr { s.pr with phase := .contact })

/-- O42. GAUGE_MOVE starts an approach at rest, is stored behind a busy gauge, or is refused in the order of R105. R105,
R106 for the stored move's start, R107 with Table 45. -/
def Obligations.GaugeMoveIsHandedStoredOrRefused : Prop :=
  (∀ (s : State) (m : Lines) (tag q : Byte) (d : List Byte), d.length = 4 → s.li.queue = [] →
    let c : Instr := .gaugeMove m tag (d ++ [q])
    let closed := (s.hearing c).setPs { s.ps with window := none }
    let t := signedOf 4 (leNat d)
    let fields : Prop := 1800 ≤ t ∧ t ≤ 124000 ∧ q.toNat ≤ 1
    let busy : Prop :=
      s.manualInFlight = true ∨ (s.gaugeBusy = true ∧ (q = 0 ∨ s.bg.slot ≠ none)) ∨ s.turnerMoving = true
    let loose : Prop := s.bg.referenced = false ∧ s.gaugeBusy = false
    let danger : Prop := s.sm.estopLatch = true ∨ (s.guardOpen = true ∧ s.gaugeBusy = false)
    (¬fields → Decides c s closed [0x05]) ∧
    (fields → s.runOpen = true → Decides c s closed [0x03]) ∧
    (fields → s.runOpen = false → busy → Decides c s closed [0x02]) ∧
    (fields → s.runOpen = false → ¬busy → loose → Decides c s closed [0x0B]) ∧
    (fields → s.runOpen = false → ¬busy → ¬loose → danger → Decides c s closed [0x0C]) ∧
    (fields → s.runOpen = false → ¬busy → ¬loose → ¬danger →
      (s.gaugeBusy = true → Decides c s (closed.setBg { closed.bg with slot := some t }) [0x00, 0x01]) ∧
      (s.gaugeBusy = false →
        (∀ x, closed.approach .gaugeMove false .approach t = .moving x → Decides c s x [0x00, 0x00]) ∧
        ∀ x backward, closed.approach .gaugeMove false .approach t = .completed x backward →
          Decides c s
            (x.raise .gaugeDone
              ([0x00, 0x00, 0x00, flagByte [backward, false, x.bg.inPos, x.bg.referenced]] ++ leInt 4 t ++
                leInt 4 x.bg.actual)) [0x00, 0x00]))) ∧
  ∀ s : State,
    (s.bg.slot = none → s.slotNext = s) ∧
    ∀ t, s.bg.slot = some t →
      let e := s.setBg { s.bg with slot := none }
      let ends : State → Byte → Byte → Bool → State := fun x outcome status backward =>
        x.raise .gaugeDone
          ([0x00, outcome, status, flagByte [backward, true, x.bg.inPos, x.bg.referenced]] ++ leInt 4 t ++
            leInt 4 x.bg.actual)
      let busy : Prop := s.manualInFlight = true ∨ s.turnerMoving = true
      let danger : Prop := s.sm.estopLatch = true ∨ s.guardOpen = true
      s.slotCancel = ends e 0x06 0x00 false ∧
      (s.runOpen = true → s.slotNext = ends e 0x05 0x03 false) ∧
      (s.runOpen = false → busy → s.slotNext = ends e 0x05 0x02 false) ∧
      (s.runOpen = false → ¬busy → s.bg.referenced = false → s.slotNext = ends e 0x05 0x0B false) ∧
      (s.runOpen = false → ¬busy → s.bg.referenced = true → danger → s.slotNext = ends e 0x05 0x0C false) ∧
      (s.runOpen = false → ¬busy → s.bg.referenced = true → ¬danger →
        (∀ x, e.approach .gaugeMove true .approach t = .moving x → s.slotNext = x) ∧
        ∀ x backward, e.approach .gaugeMove true .approach t = .completed x backward →
          s.slotNext = ends x 0x00 0x00 backward)

/-- O43. An approach or retract chooses its motion by R100, R101 and R104; a move, cycle or turn handed to a unit
starts, waits or is refused. R97, R100, R101, R103, R104; R75, R79, R85, R125, R156, R159 for what is handed; R126,
R142, R152, R156, R163 for what asks again. The model's choices: work a unit cannot take waits (log 19), what the
blocks look at of themselves and its order (log 28), two causes at once (log 48), a resumed RELEASE (log 20). -/
def Obligations.ApproachesAndRetractsChooseTheirMotion : Prop :=
  (∀ (s : State) (issuer : MoveIssuer) (slot : Bool) (kind : MoveKind) (t : Int),
    let a := s.bg.actual
    let o : Int := min 124000 (t + s.ps.settings.backlashMargin)
    let starts : List Segment → Direction → GaugeState → Started := fun plan dir x =>
      .moving
        (s.setBg
          { s.bg with
            target := t
            inPos := false
            move := some ⟨issuer, kind, plan, slot, t⟩
            state := if s.bg.dir = dir then x else .dwell
            dir := s.bg.dir
            dwell := if s.bg.dir = dir then none else some s.ps.settings.reversalDwell })
    let completes : Bool → Started := fun backward =>
      .completed (s.setBg { s.bg with state := .standing, target := t, inPos := true, move := none, dwell := none })
        backward
    let held : Prop := s.bg.inPos = true ∧ s.bg.dir = .forward ∧ t = s.bg.target
    (held → s.approach issuer slot kind t = completes false) ∧
    (¬held → t < a → s.approach issuer slot kind t = starts [.to .forward t] .forward .approaching) ∧
    (¬held → a ≤ t → t < o →
      s.approach issuer slot kind t = starts [.to .backward o, .to .forward t] .backward .movingBack) ∧
    (¬held → a ≤ t → o ≤ t → a < t - 2 →
      s.approach issuer slot kind t = starts [.to .backward t] .backward .movingBack) ∧
    (¬held → a ≤ t → o ≤ t → t - 2 ≤ a →
      s.approach issuer slot kind t = completes (decide (s.bg.dir = .backward)))) ∧
  (∀ (s : State) (issuer : MoveIssuer) (r : Int),
    (s.bg.actual < r - 2 →
      s.retract issuer r =
        .moving
          (s.setBg
            { s.bg with
              target := r
              inPos := false
              move := some ⟨issuer, .retract, [.to .backward r], false, r⟩
              state := if s.bg.dir = .backward then .movingBack else .dwell
              dwell := if s.bg.dir = .backward then none else some s.ps.settings.reversalDwell })) ∧
    (r - 2 ≤ s.bg.actual → s.retract issuer r = .completed (s.setBg { s.bg with inPos := false }) false)) ∧
  (∀ s : State,
    let held : HoldReason → State → State := fun why x =>
      x.setPr { x.pr with state := .held, hold := why, holdReq := false, waits := .nothing, noticeDue := true }
    let refusals : State → State → Prop := fun x t =>
      (x.gaugeBusy = true → t = x.setPr { x.pr with waits := .move }) ∧
      (x.gaugeBusy = false → x.bg.referenced = false → t = x.reportFault .notReferenced 0) ∧
      (x.gaugeBusy = false → x.bg.referenced = true → x.sm.estopLatch = true → t = x) ∧
      (x.gaugeBusy = false → x.bg.referenced = true → x.sm.estopLatch = false → x.guardOpen = true →
        t = held .guardOpen x)
    let free : Prop := s.gaugeBusy = false ∧ s.bg.referenced = true ∧ s.sm.estopLatch = false ∧ s.guardOpen = false
    let w := s.setPr { s.pr with waits := .nothing }
    let k := s.setPr { s.pr with phase := .contact, waits := .nothing }
    let warned : State → Int → State := fun x t => x.loadWarning .backwardApproach t
    refusals s s.handRetract ∧ refusals (s.setPr { s.pr with phase := .contact }) s.handContact ∧
    (∀ c, s.pr.figures = some c → refusals s s.handPositioning) ∧
    (free →
      (∀ v, w.retract .runner s.pr.retractPos = .moving v → s.handRetract = v) ∧
      (∀ v b, w.retract .runner s.pr.retractPos = .completed v b → ∀ r, s.currentStep = some r →
        s.handRetract =
          (if r.kind = .turn then (v.setPr { v.pr with phase := .turning }).handTurn
          else v.setPr { v.pr with phase := .placeWait, noticeDue := true })) ∧
      (∀ c, s.pr.figures = some c →
        (∀ v, w.approach .runner false .approach c.target = .moving v → s.handPositioning = v) ∧
        (∀ v b, w.approach .runner false .approach c.target = .completed v b →
          s.handPositioning = (if b then warned v c.target else v).positioned)) ∧
      (∀ v, k.approach .runner false .approach s.contactPosition = .moving v → s.handContact = v) ∧
      ∀ v b, k.approach .runner false .approach s.contactPosition = .completed v b →
        s.handContact = (if b then warned v s.contactPosition else v).finishStep) ∧
    (s.handAgain =
      (if s.pr.state ≠ .running then s
      else if s.pr.waits = .cycle ∧ s.cs.state = .ready then s.positioned
      else if s.pr.waits = .move ∧ s.gaugeBusy = false then
        (if s.pr.phase = .positioning then s.handPositioning
        else if s.pr.phase = .retract then s.handRetract
        else if s.pr.phase = .contact then s.handContact
        else s)
      else s)) ∧
    s.settle =
      (((((((s.pendingAtArmed.handAgain).takeHold).infeedLook).csFollow).manualCutNext).renewRequests)).flush ∧
    (let a := if s.cs.state = .recover ∧ s.sm.estopLatch = false then s.request .cut else s
    let b := if a.pl.state = .raising then a.request .lift else a
    (b.pt.state = .releasing → s.renewRequests = b.request .turn) ∧
    (b.pt.state = .gripping → b.lines.clampUp = true → b.lines.knifeTop = true →
      s.renewRequests = b.request .turn) ∧
    (b.pt.state = .gripping → b.lines.clampUp = false ∨ b.lines.knifeTop = false → s.renewRequests = b) ∧
    (b.pt.state ≠ .releasing → b.pt.state ≠ .gripping → s.renewRequests = b))) ∧
  (∀ s : State,
    let t := s.handTurn
    let gripped : State → State := fun x => if s.lines.clampUp = true ∧ s.lines.knifeTop = true then x.request .turn else x
    let held : HoldReason → State := fun why =>
      s.setPr { s.pr with state := .held, hold := why, holdReq := false, waits := .nothing, noticeDue := true }
    let taken : Prop :=
      s.pr.lineHalt = false ∧ s.sm.estopLatch = false ∧ s.guardOpen = false ∧ s.bg.referenced = true
    (s.pr.lineHalt = true → t = held .lineHalt) ∧
    (s.pr.lineHalt = false → s.sm.estopLatch = true → t = s) ∧
    (s.pr.lineHalt = false → s.sm.estopLatch = false → s.guardOpen = true → t = held .guardOpen) ∧
    (s.pr.lineHalt = false → s.sm.estopLatch = false → s.guardOpen = false → s.bg.referenced = false →
      t = s.reportFault .notReferenced 0) ∧
    (taken → s.gaugeBusy = true → t = s.setPr { s.pr with phase := .retract, waits := .move }) ∧
    (taken → s.gaugeBusy = false → ∀ r : Int,
      (s.pt.state ≠ .interrupted ∧ r = s.pr.retractPos) ∨
        (s.pt.state = .interrupted ∧ ∃ x, s.pt.record = some x ∧ r = x.clearance) →
      (s.bg.actual < r - 2 →
        .moving t = (s.setPr { s.pr with phase := .retract, waits := .nothing }).retract .runner r) ∧
      (r - 2 ≤ s.bg.actual →
        (∀ x, s.pt.state = .interrupted → s.pt.record = some x →
          t =
            (if x.interrupted = some .release then s.request .turn
            else
              gripped (s.setPt { s.pt with state := .gripping, record := some { x with interrupted := none } }))) ∧
        (∀ y, s.pt.state = .parked → s.currentStep = some y →
          t =
            gripped
              (s.setPt
                { s.pt with state := .gripping, record := some ⟨.runner, true, s.loadId, y.value, 0, r, none⟩ })) ∧
        (s.pt.state ≠ .interrupted → s.pt.state ≠ .parked → t = s)))) ∧
  ∀ s : State,
    (s.cs.manual = none →
      s.manualCutNext = s ∧ ∀ a, s.manualCutApproached a = s ∧ ∀ cause, s.manualCutFailed cause = s) ∧
    ∀ x, s.cs.manual = some x →
      let ended : State → Nat → State := fun w cause =>
        (w.setCs { s.cs with manual := none }).plainWarning .cutNowEnded s.loadId cause
      let goes : State → State → Prop := fun w t =>
        (s.pr.lineHalt = true → t = ended w 2) ∧
        (s.pr.lineHalt = false → s.keyOn = true → t = ended w 3) ∧
        (s.pr.lineHalt = false → s.keyOn = false → s.cs.state = .ready →
          t =
            w.setCs
              { s.cs with state := .armed, cycle := some x.cycle, pedalCounts := !s.cs.pedal, manual := none }) ∧
        (s.pr.lineHalt = false → s.keyOn = false → s.cs.state ≠ .ready →
          t = w.setCs { s.cs with manual := some { x with approachDone := true } })
      (∀ cause, s.manualCutFailed cause = ended s cause) ∧
      goes s (s.manualCutApproached false) ∧
      goes
        (if x.cycle.tracked then s.loadWarning .backwardApproach x.cycle.target
        else s.plainWarning .backwardApproach 0 x.cycle.target) (s.manualCutApproached true) ∧
      (x.approachDone = true → goes s s.manualCutNext) ∧ (x.approachDone = false → s.manualCutNext = s)

/-- O44. GAUGE_REFERENCE seeks the switch backward, off made switches first, and the switch found sets 124500 and
approaches GMAX. R98, R99. Dwelling in REFERENCING, and the forward segment off the switches in it, is log 24, the
zero of the count log 25; that the two switch rows change nothing in any other state or during a dwell is the
model's choice (log 9). -/
def Obligations.ReferencingFindsTheSwitch : Prop :=
  (∀ (s : State) (m : Lines) (tag : Byte), s.li.queue = [] →
    let c : Instr := .gaugeReference m tag []
    let closed := (s.hearing c).setPs { s.ps with window := none }
    let busy : Prop := s.gaugeBusy = true ∨ s.manualInFlight = true ∨ s.turnerMoving = true
    let danger : Prop := s.sm.estopLatch = true ∨ s.guardOpen = true
    let made : Prop := m.refSwitch = true ∨ m.rearOvertravel = true
    let seeks : List Segment → Direction → State := fun plan dir =>
      closed.setBg
        { closed.bg with
          referenced := false
          inPos := false
          move := some ⟨.gaugeReference, .reference, plan, false, 124000⟩
          state := .referencing
          dwell := if s.bg.dir = dir then none else some s.ps.settings.reversalDwell }
    (s.runOpen = true → Decides c s closed [0x03]) ∧
    (s.runOpen = false → s.bg.state = .fault → Decides c s closed [0x04]) ∧
    (s.runOpen = false → s.bg.state ≠ .fault → busy → Decides c s closed [0x02]) ∧
    (s.runOpen = false → s.bg.state ≠ .fault → ¬busy → danger → Decides c s closed [0x0C]) ∧
    (s.runOpen = false → s.bg.state ≠ .fault → ¬busy → ¬danger →
      (made → Decides c s (seeks [.offSwitches, .ontoSwitch] .forward) [0x00]) ∧
      (¬made → Decides c s (seeks [.ontoSwitch] .backward) [0x00]))) ∧
  (∀ (s : State) (m : Lines),
    let c : Instr := .referenceSwitchesReleased m
    let h := s.sample { m with refSwitch := false, rearOvertravel := false }
    (∀ v rest, s.bg.move = some v → v.plan = .offSwitches :: rest → s.bg.dwell = none → s.bg.dir = .forward →
      Becomes c s
        (h.setBg
          { h.bg with
            inPos := false
            move := some ⟨.gaugeReference, .reference, [.ontoSwitch], false, 124000⟩
            state := .referencing
            dwell := some s.ps.settings.reversalDwell })) ∧
    ((∀ v, s.bg.move = some v → v.plan.head? ≠ some .offSwitches) ∨ s.bg.dwell ≠ none → Becomes c s h)) ∧
  ∀ (s : State) (m : Lines),
    let c : Instr := .referenceSwitchMade m
    let h := s.sample { m with refSwitch := true }
    (∀ v rest, s.bg.move = some v → v.plan = .ontoSwitch :: rest → s.bg.dwell = none → s.bg.dir = .backward →
      Becomes c s
        (h.setBg
          { h.bg with
            zero := 124500 - m.encoder
            actual := 124500
            referenced := true
            target := 124000
            inPos := false
            move := some ⟨.gaugeReference, .reference, [.to .forward 124000], false, 124000⟩
            state := .dwell
            dwell := some s.ps.settings.reversalDwell })) ∧
    ((∀ v, s.bg.move = some v → v.plan.head? ≠ some .ontoSwitch) ∨ s.bg.dwell ≠ none → Becomes c s h)

/-- O45. A dwell ends in its segment, a segment in the next or in the move's completion at its issuer. R97, R102, R104,
R106, R107. The segment off the switches in REFERENCING is the model's inference (log 24). That the rows change
nothing outside their conditions is the model's choice (log 9). -/
def Obligations.SegmentsDwellAndComplete : Prop :=
  (∀ (s : State) (m : Lines),
    let c : Instr := .reversalDwellExpiry m
    let h := s.sample m
    (∀ v x rest ms, s.bg.move = some v → v.plan = x :: rest → s.bg.dwell = some ms →
      Becomes c s
        (h.setBg
          { h.bg with
            dwell := none
            dir := (match x with
              | .to d _ => d
              | .offSwitches => .forward
              | .ontoSwitch => .backward)
            state := (match x with
              | .to .forward _ => .approaching
              | .to .backward _ => .movingBack
              | .offSwitches => .referencing
              | .ontoSwitch => .referencing) })) ∧
    (s.bg.dwell = none → Becomes c s h)) ∧
  (∀ (s : State) (m : Lines) (v : Move) (d : Direction) (pos : Int) (rest : List Segment),
    let c : Instr := .segmentEnd m
    let h := s.sample m
    let reached : Prop :=
      (s.bg.state = .movingBack ∨ s.bg.state = .approaching) ∧ (m.encoder + s.bg.zero - pos).natAbs ≤ 2
    s.bg.move = some v → v.plan = .to d pos :: rest →
      (¬reached → Becomes c s h) ∧
      (reached → ∀ e p more, rest = .to e p :: more →
        Becomes c s
          (h.setBg
            { h.bg with
              inPos := false
              move := some { v with plan := rest }
              dwell := if e = s.bg.dir then none else some s.ps.settings.reversalDwell
              state :=
                if e = s.bg.dir then (match e with
                  | .forward => .approaching
                  | .backward => .movingBack)
                else .dwell })) ∧
      (reached → rest = [] →
        let t := h.setBg { h.bg with state := .standing, move := none, dwell := none, inPos := decide (v.kind ≠ .retract) }
        let backward : Bool := decide (v.kind ≠ .retract) && decide (s.bg.dir = .backward)
        (v.issuer = .gaugeMove ∨ v.issuer = .gaugeReference →
          Becomes c s
            (t.raise .gaugeDone
              ([if v.kind = .reference then 0x01 else 0x00, 0x00, 0x00,
                  flagByte [backward, v.fromSlot, t.bg.inPos, s.bg.referenced]] ++
                leInt 4 v.goal ++ leInt 4 (m.encoder + s.bg.zero))).slotNext) ∧
        (v.issuer = .runner → s.runOpen = true →
          Becomes c s
            (if backward then t.loadWarning .backwardApproach v.goal else t).runnerMoveDone) ∧
        (v.issuer = .runner → s.runOpen = false → Becomes c s t) ∧
        (v.issuer = .manualCut → Becomes c s (t.manualCutApproached backward)) ∧
        (v.issuer = .manualTurn → Becomes c s (t.manualTurnMoved backward)))) ∧
  ∀ (s : State) (m : Lines),
    let c : Instr := .inPositionLost m
    let h := s.sample m
    let off : Prop := s.bg.state = .standing ∧ 2 < (m.encoder + s.bg.zero - s.bg.target).natAbs
    (off → Becomes c s (h.setBg { h.bg with inPos := false })) ∧ (¬off → Becomes c s h)

/-- O46. A following error or an overtravel takes the gauge to FAULT; the rear guard, an emergency stop or a soft reset
stops its move. R108, R109, R110, with R106 for the stored move. The model's choices: the FAULT notice before
GAUGE_DONE (log 44), and that the two fault rows otherwise change nothing (log 9). -/
def Obligations.GaugeFaultsStopTheMove : Prop :=
  (∀ (s : State) (m : Lines),
    let h := s.sample m
    let servo : Prop :=
      s.gaugeBusy = true ∨ (s.bg.state = .standing ∧ s.bg.referenced = true)
    let stops : FaultKind → Int → State := fun k d =>
      (h.setBg
        { h.bg with
          state := .fault
          referenced := false
          inPos := false
          move := none
          dwell := none }).reportFault k d
    let ends : FaultKind → Int → State := fun k d =>
      let t := stops k d
      match s.bg.move with
      | none => t.slotCancel
      | some v =>
        match v.issuer with
        | .runner => (if s.runOpen then t.runnerMoveStopped false else t).slotCancel
        | .manualCut => (t.manualCutFailed 1).slotCancel
        | .manualTurn => (t.manualTurnEnds 1).slotCancel
        | .gaugeMove | .gaugeReference =>
          (t.raise .gaugeDone
            ([if v.kind = .reference then 0x01 else 0x00, 0x04, 0x00, flagByte [false, v.fromSlot, false, false]] ++
              leInt 4 v.goal ++ leInt 4 h.bg.actual)).slotCancel
    (∀ lag : Int,
      (servo → 100 < lag.natAbs → Becomes (.followingError m lag) s (ends .followingError lag)) ∧
      (¬servo ∨ lag.natAbs ≤ 100 → Becomes (.followingError m lag) s h)) ∧
    (s.bg.state ≠ .fault → Becomes (.overtravel m) s (ends .overtravel h.bg.actual)) ∧
    (s.bg.state = .fault → Becomes (.overtravel m) s h)) ∧
  ∀ s : State,
    let stopped :=
      s.setBg
        { s.bg with
          state := if s.bg.state = .referencing then .unreferenced else .standing
          move := none
          dwell := none
          inPos := false }
    let done : Move → Byte → State := fun v outcome =>
      stopped.raise .gaugeDone
        ([if v.kind = .reference then 0x01 else 0x00, outcome, 0x00,
            flagByte [false, v.fromSlot, false, s.bg.referenced]] ++ leInt 4 v.goal ++ leInt 4 s.bg.actual)
    (s.gaugeBusy = false →
      s.gaugeGuard = s ∧ s.gaugeEstop = (s.setBg { s.bg with inPos := false }).slotCancel ∧
        s.gaugeReset = s.slotCancel) ∧
    ∀ v, s.gaugeBusy = true → s.bg.move = some v →
      (v.issuer = .runner → s.runOpen = true →
        s.gaugeGuard = stopped.runnerMoveStopped true ∧
          s.gaugeEstop = (stopped.runnerMoveStopped false).slotCancel) ∧
      (v.issuer = .runner → s.runOpen = false →
        s.gaugeGuard = stopped ∧ s.gaugeEstop = stopped.slotCancel ∧ s.gaugeReset = stopped.slotCancel) ∧
      (v.issuer = .manualCut →
        s.gaugeGuard = stopped.manualCutFailed 7 ∧ s.gaugeEstop = (stopped.manualCutFailed 4).slotCancel ∧
          s.gaugeReset = (stopped.manualCutFailed 5).slotCancel) ∧
      (v.issuer = .manualTurn →
        s.gaugeGuard = stopped.manualTurnEnds 3 ∧ s.gaugeEstop = (stopped.manualTurnEnds 4).slotCancel ∧
          s.gaugeReset = (stopped.manualTurnEnds 6).slotCancel) ∧
      (v.issuer = .gaugeMove ∨ v.issuer = .gaugeReference →
        s.gaugeGuard = (done v 0x01).slotNext ∧ s.gaugeEstop = (done v 0x02).slotCancel ∧
          s.gaugeReset = (done v 0x03).slotCancel)

/-- O47. Every step keeps the law of the gauge, and every step keeps its commanded positions within the travel. R96,
R97, R102 for the law of the gauge: the switch once found, the model is in DWELL or APPROACHING, so the flag in
REFERENCING is clear (log 24). R103 for the travel: its premises are R55's TURN_CLEARANCE, of which the depth after
the turn is the length before it, and a referenced gauge that stands no further forward than 2 in front of GMIN,
from where a retract (R104), which may ask for a position in front of GMIN, moves only back. -/
def Obligations.GaugeLawIsKept : Prop :=
  (∀ s t : State, GaugeOk s.bg → step s = .next t → GaugeOk t.bg) ∧
  ∀ s t : State,
    TravelOk s →
    (∀ r x, s.pt.record = some r → r.tracked = true → s.gt.table = some x → x.loadId = r.loadId →
      x.len ≤ Config.gmax) →
    (s.bg.referenced = true → ∀ c rest, s.pending = c :: rest → (Config.gmin : Int) - 2 ≤ c.lines.encoder + s.bg.zero) →
    step s = .next t → TravelOk t

/-- O48. CUT_NOW fixes its figures and hands its approach, or is refused in the order of R124. R124, with the end of an
approach at once from R101, R112 and R125. EMPTY_CUT, OUT_OF_TRAVEL, NO_LOAD and ASIDE_FULL are ChecksOfACut. -/
def Obligations.CutNowIsHandedOrRefused : Prop :=
  ∀ (s : State) (m : Lines) (tag d : Byte) (b : List Byte), b.length = 4 → s.li.queue = [] →
    let c : Instr := .cutNow m tag (b ++ [d])
    let closed := (s.hearing c).setPs { s.ps with window := none }
    let g := signedOf 4 (leNat b)
    let disposition : Disposition := if d = 0 then .waste else if d = 1 then .aside else .finished
    let tracked : Bool := s.gt.openLoad.isSome
    let x := s.checkCut disposition g
    let noLoad : Prop := tracked = true ∧ ∃ k e, x = .error (k, e) ∧ (k = .noLoad ∨ k = .asideFull)
    let barred : Prop :=
      s.pr.lineHalt = true ∨
        (tracked = false ∧ s.ps.settings.knifeWarn + s.ps.settings.knifeGrace ≤ s.cs.counter) ∨ noLoad
    let busy : Prop :=
      s.cs.state ≠ .ready ∨ s.manualInFlight = true ∨ s.gaugeBusy = true ∨ s.bg.slot ≠ none ∨ s.pt.state ≠ .parked
    let danger : Prop := s.sm.estopLatch = true ∨ s.guardOpen = true
    let outside : Prop := g < 1800 ∨ 124000 < g
    let failed : Prop := if tracked then (∃ e, x = .error e) else outside
    let free : Prop :=
      d.toNat ≤ 2 ∧ s.runOpen = false ∧ ¬barred ∧ ¬busy ∧ s.bg.referenced = true ∧ ¬danger
    let cycle : Target → Cycle := fun y =>
      { issuer := .manual
        tracked := tracked
        nominal := y.nominal
        comp := y.comp
        target := y.target
        draw := y.draw
        heightUsed := y.height
        disposition := disposition
        step := 255
        iter := 255
        loadId := s.loadId
        measured := none
        leftTop := false
        mark := .clean }
    (2 < d.toNat → Decides c s closed [0x05]) ∧
    (d.toNat ≤ 2 →
      (s.runOpen = true → Decides c s closed [0x03]) ∧
      (s.runOpen = false → barred → Decides c s closed [0x04]) ∧
      (s.runOpen = false → ¬barred → busy → Decides c s closed [0x02]) ∧
      (s.runOpen = false → ¬barred → ¬busy → s.bg.referenced = false → Decides c s closed [0x0B]) ∧
      (s.runOpen = false → ¬barred → ¬busy → s.bg.referenced = true → danger → Decides c s closed [0x0C])) ∧
    (free → failed → Decides c s closed [0x05]) ∧
    (free → ∀ y : Target, (tracked = true ∧ x = .ok y) ∨ (tracked = false ∧ ¬outside ∧ y = ⟨g, 0, 0, g, 0, none⟩) →
      let w :=
        (if y.comp = y.raw then closed else closed.loadWarning .compSaturated y.raw).setCs
          { closed.cs with manual := some ⟨cycle y, false⟩ }
      (∀ v, w.approach .manualCut false .approach y.target = .moving v →
        Decides c s v (0x00 :: (leInt 4 y.target ++ leInt 2 y.comp))) ∧
      ∀ v backward, w.approach .manualCut false .approach y.target = .completed v backward →
        let told :=
          if backward = false then v
          else if tracked then v.loadWarning .backwardApproach y.target
          else v.plainWarning .backwardApproach 0 y.target
        (s.keyOn = false →
          Decides c s
            (told.setCs
              { v.cs with
                manual := none, state := .armed, cycle := some (cycle y), pedalCounts := !s.cs.pedal })
            (0x00 :: (leInt 4 y.target ++ leInt 2 y.comp))) ∧
        (s.keyOn = true →
          Decides c s ((told.setCs { v.cs with manual := none }).plainWarning .cutNowEnded s.loadId 3)
            (0x00 :: (leInt 4 y.target ++ leInt 2 y.comp))))

/-- O49. Pedal and permission in ARMED, GRANT_WAIT and PRECLAMPED ask for the grant, pre-clamp, and give it back. R112,
R113, R114, R115, R117. That PEDAL_DWELL_EXPIRY outside PRECLAMPED changes nothing is the model's choice (log 9). -/
def Obligations.PedalPreclampsTheStack : Prop :=
  (∀ (s : State) (m : Lines),
    let c : Instr := .pedalPressed m
    let h := s.sample m
    let counts : Prop := s.cs.state = .armed ∧ s.cs.pedalCounts = true
    (counts → s.sm.clampConditions = true →
      Becomes c s ((h.setCs { h.cs with pedal := true, pedalCounts := false }).request .cut)) ∧
    (counts → s.sm.clampConditions = false →
      Becomes c s (h.setCs { h.cs with pedal := true, pedalCounts := false })) ∧
    (¬counts → Becomes c s (h.setCs { h.cs with pedal := true }))) ∧
  (∀ (s : State) (m : Lines),
    let c : Instr := .pedalReleased m
    let h := s.sample m
    (s.cs.state = .armed →
      Becomes c s
        ((h.setCs { h.cs with pedal := false, pedalCounts := true }).setHs { s.hs with reqCut := false })) ∧
    (s.cs.state = .grantWait → Becomes c s (h.setCs { h.cs with pedal := false, pedalCounts := true })) ∧
    (s.cs.state = .preclamped →
      Becomes c s
        ((h.setCs
          { h.cs with
            pedal := false
            state := .armed
            pedalCounts := true
            pedalDwell := none
            clampTimer := none
            clampValve := .closed }).release .cut)) ∧
    (s.cs.state ≠ .armed → s.cs.state ≠ .grantWait → s.cs.state ≠ .preclamped →
      Becomes c s (h.setCs { h.cs with pedal := false }))) ∧
  (∀ (s : State) (m : Lines),
    let c : Instr := .pedalDwellExpiry m
    let h := s.sample m
    (s.cs.state = .preclamped →
      Becomes c s
        ((h.setCs
          { h.cs with state := .armed, pedalDwell := none, clampTimer := none, clampValve := .closed }).release .cut)) ∧
    (s.cs.state ≠ .preclamped → Becomes c s h)) ∧
  ∀ s : State,
    (s.cs.state = .armed →
      s.permissionRises = (s.setCs { s.cs with state := .grantWait }).request .cut ∧
      (∀ fall, s.permissionFalls fall true = s.setHs { s.hs with reqCut := false }) ∧
      ∀ fall, s.permissionFalls fall false = s) ∧
    (s.cs.state = .grantWait →
      ∀ lapse, s.permissionFalls true lapse = (s.setCs { s.cs with state := .armed }).setHs { s.hs with reqCut := false }) ∧
    (s.cs.state = .preclamped →
      s.permissionRises =
        s.setCs
          { s.cs with state := .clamping, pedalDwell := none, clampValve := .high, clampTimer := some 4000 } ∧
      ∀ fall,
        s.permissionFalls fall true =
          (s.setCs
            { s.cs with state := .armed, pedalDwell := none, clampTimer := none, clampValve := .closed }).release .cut) ∧
    (s.cs.state ≠ .armed → s.cs.state ≠ .preclamped → s.permissionRises = s) ∧
    (s.cs.state = .armed →
      s.csGranted =
        s.setCs
          { s.cs with
            state := .preclamped, clampValve := .low, pedalDwell := some (s.ps.settings.pedalDwell * 1000) }) ∧
    (s.cs.state = .grantWait →
      s.csGranted = s.setCs { s.cs with state := .clamping, clampValve := .high, clampTimer := some 4000 })

/-- O50. Full pressure measures and starts the knife, bottom dead centre counts the stroke, and the time limits end
either. R116, R117, R119, R122, R125. That the four rows change nothing in other states is the model's choice (log
9). -/
def Obligations.ClampAndKnifeRunTheirStroke : Prop :=
  (∀ s : State,
    (s.cs.state = .clamping → ∀ lapse,
      s.permissionFalls true lapse =
        (s.setCs
          { s.cs with
            state := .armed
            pedalCounts := !s.cs.pedal
            pedalDwell := none
            clampTimer := none
            clampValve := .closed }).release .cut) ∧
    (s.cs.state = .cutting → ∀ lapse x, s.cs.cycle = some x →
      s.permissionFalls true lapse =
        s.setCs
          { s.cs with
            state := .abortReturn, knifeTimer := none, knifeValve := .up, cycle := some { x with mark := .aborted } }) ∧
    (s.cs.state = .returning ∨ s.cs.state = .abortReturn → ∀ fall lapse, s.permissionFalls fall lapse = s)) ∧
  (∀ (s : State) (m : Lines),
    let c : Instr := .clampFullPressure m
    let h := s.sample m
    (s.cs.state = .clamping → ∀ x, s.cs.cycle = some x →
      Becomes c s
        (h.setCs
          { h.cs with
            state := .cutting
            clampTimer := none
            knifeTimer := some 1500
            knifeValve := .down
            cycle := some { x with measured := some (min 1650 m.clampHeight.toNat), leftTop := true } })) ∧
    (s.cs.state ≠ .clamping → Becomes c s h)) ∧
  (∀ (s : State) (m : Lines),
    let c : Instr := .clampTimeout m
    let h := s.sample m
    let stopped :=
      ((h.setCs
        { h.cs with
          state := .fault
          cycle := none
          pedalDwell := none
          clampTimer := none
          knifeTimer := none
          clampValve := .closed
          knifeValve := .rest }).release .cut).reportFault .clampTimeout 4000
    (s.cs.state = .clamping → ∀ x, s.cs.cycle = some x →
      (x.issuer = .manual → Becomes c s (stopped.plainWarning .cutNowEnded stopped.loadId 6)) ∧
      (x.issuer = .runner → s.pr.abortPending = false → s.pr.skipPending = false → Becomes c s stopped)) ∧
    (s.cs.state ≠ .clamping → Becomes c s h)) ∧
  (∀ (s : State) (m : Lines),
    let c : Instr := .knifeBdc m
    let h := s.sample m
    let n := min 999999 (s.cs.counter + 1)
    let up := { h.cs with state := .returning, knifeTimer := none, knifeValve := .up, counter := n }
    (s.cs.state = .cutting → (s.cs.warn = true ∨ n < s.ps.settings.knifeWarn) → Becomes c s (h.setCs up)) ∧
    (s.cs.state = .cutting → s.cs.warn = false → s.ps.settings.knifeWarn ≤ n →
      Becomes c s ((h.setCs { up with warn := true }).plainWarning .knifeWarnReached 0 n)) ∧
    (s.cs.state ≠ .cutting → Becomes c s h)) ∧
  ∀ (s : State) (m : Lines),
    let c : Instr := .knifeTimeout m
    let h := s.sample m
    (s.cs.state = .cutting → ∀ x, s.cs.cycle = some x →
      Becomes c s
        (h.setCs
          { h.cs with
            state := .abortReturn
            knifeTimer := none
            knifeValve := .up
            cycle := some { x with mark := .timedOut } })) ∧
    (s.cs.state ≠ .cutting → Becomes c s h)

/-- O51. A return or recovery releases the grant and reports the cycle; an emergency stop ends it; BLADE_RESET clears
the counter in BLADE_CHANGE. R118, R119, R123, R126, R127. The model's choices: the rows of the two ends in other
states (log 9), a clamp sent back by a soft reset (log 30), the valves of a stopped knife and of a clamp at rest
(log 49), a RETURNING cycle at an emergency stop under a pending abort too (log 50), the sample at which the clamp
valves of a returning knife close (log 33), a CUT_NOW that waits for the station (log 19). -/
def Obligations.ReturnsRecoveriesAndBladeReset : Prop :=
  let atRest : CutStation → CutState → CutStation := fun cs x =>
    { cs with
      state := x
      cycle := none
      pedalDwell := none
      clampTimer := none
      knifeTimer := none
      clampValve := .closed
      knifeValve := .rest }
  (∀ (s : State) (m : Lines) (x : Cycle), s.cs.cycle = some x →
    let c : Instr := .returnEnd m
    let h := s.sample { m with knifeTop := true, clampUp := true }
    let home : CutState := if s.keyOn then .bladeChange else .ready
    let ran : Prop := x.issuer = .runner ∧ s.runOpen = true
    let done := (h.setCs (atRest h.cs home)).release .cut
    let cut :=
      ((h.setCs (atRest h.cs (if x.mark = .timedOut then .fault else home))).release .cut).applyAborted x
    let told := if x.mark = .timedOut then cut.reportFault .knifeTimeout (if x.tracked then x.nominal else 0) else cut
    (s.cs.state = .returning →
      (ran → Becomes c s (done.applyCut x).runnerCycleDone) ∧ (¬ran → Becomes c s (done.applyCut x))) ∧
    (s.cs.state = .abortReturn → x.leftTop = true →
      (ran → Becomes c s told.runnerCycleAborted) ∧ (¬ran → Becomes c s told)) ∧
    (s.cs.state = .abortReturn → x.leftTop = false → x.mark ≠ .timedOut →
      (x.issuer = .manual → Becomes c s (done.plainWarning .cutNowEnded done.loadId 5)) ∧
      (x.issuer = .runner → s.runOpen = false → Becomes c s done))) ∧
  (∀ (s : State) (m : Lines), s.cs.state ≠ .returning → s.cs.state ≠ .abortReturn →
    Becomes (.returnEnd m) s (s.sample { m with knifeTop := true, clampUp := true })) ∧
  (∀ (s : State) (m : Lines),
    let c : Instr := .recoverEnd m
    let h := s.sample { m with knifeTop := true, clampUp := true }
    let home : CutState := if s.keyOn then .bladeChange else .ready
    let done := (h.setCs { atRest h.cs home with pendingDone := none }).release .cut
    (s.cs.state = .recover → s.hs.holder = some .cut →
      (s.cs.pendingDone = none → Becomes c s done) ∧
      ∀ x, s.cs.pendingDone = some x →
        (x.issuer = .runner → s.runOpen = true → Becomes c s (done.applyCut x).runnerCycleDone) ∧
        (x.issuer ≠ .runner ∨ s.runOpen = false → Becomes c s (done.applyCut x))) ∧
    (s.cs.state ≠ .recover ∨ s.hs.holder ≠ some .cut → Becomes c s h)) ∧
  (∀ (s : State) (m : Lines) (tag : Byte), s.li.queue = [] →
    let c : Instr := .bladeReset m tag []
    let closed := (s.hearing c).setPs { s.ps with window := none }
    (s.cs.state = .bladeChange →
      Decides c s (closed.setCs { closed.cs with counter := 0, warn := false }) (0x00 :: leBytes 4 s.cs.counter)) ∧
    (s.cs.state ≠ .bladeChange → Decides c s closed [0x04])) ∧
  (∀ (s : State) (m : Lines),
    let t :=
      ((s.setLines m).setBg { s.bg with actual := m.encoder + s.bg.zero }).setPl { s.pl with platform := m.platform }
    let returning : Prop := s.cs.state = .returning ∨ s.cs.state = .abortReturn
    (returning → m.knifeTop = true → s.sample m = t.setCs { s.cs with clampValve := .closed }) ∧
    (¬returning ∨ m.knifeTop = false → s.sample m = t)) ∧
  ∀ s : State, s.sm.estopLatch = true →
    let rests : CutState → State := fun x => s.setCs (atRest s.cs x)
    let home : CutState :=
      if s.lines.clampUp = true ∧ s.lines.knifeTop = true then (if s.keyOn then .bladeChange else .ready) else .recover
    let stops := s.setCs { atRest s.cs .recover with clampValve := s.cs.clampValve }
    let ran : Cycle → Prop := fun x => x.issuer = .runner ∧ s.runOpen = true
    (s.cs.manual = none → ∀ x, s.cs.cycle = some x →
      (s.cs.state = .armed ∨ s.cs.state = .grantWait ∨ s.cs.state = .preclamped ∨ s.cs.state = .clamping →
        x.leftTop = false →
          (x.issuer = .manual → s.csEstop = (rests home).plainWarning .cutNowEnded s.loadId 4) ∧
          (x.issuer = .runner → s.runOpen = false ∨ (s.pr.abortPending = false ∧ s.pr.skipPending = false) →
            s.csEstop = rests home)) ∧
      (s.cs.state = .cutting → x.leftTop = true →
        let t := stops.applyAborted { x with mark := .aborted }
        (ran x → s.csEstop = t.runnerCycleAborted) ∧ (¬ran x → s.csEstop = t)) ∧
      (s.cs.state = .abortReturn → x.leftTop = true → x.mark ≠ .timedOut →
        let t := stops.applyAborted x
        (ran x → s.csEstop = t.runnerCycleAborted) ∧ (¬ran x → s.csEstop = t)) ∧
      (s.cs.state = .abortReturn → x.leftTop = true → x.mark = .timedOut →
        let t := ((rests .fault).applyAborted x).reportFault .knifeTimeout (if x.tracked then x.nominal else 0)
        (ran x → s.csEstop = t.runnerCycleAborted) ∧ (¬ran x → s.csEstop = t)) ∧
      (s.cs.state = .returning → s.csEstop = stops.setCs { stops.cs with pendingDone := some x })) ∧
    (s.cs.manual = none → s.cs.state = .recover → s.csEstop = s.setCs { s.cs with knifeValve := .rest }) ∧
    (s.cs.state = .ready ∨ s.cs.state = .bladeChange ∨ s.cs.state = .fault →
      (s.cs.manual = none → s.csEstop = s) ∧
      ∀ y, s.cs.manual = some y →
        s.csEstop =
          if y.approachDone then (s.setCs { s.cs with manual := none }).plainWarning .cutNowEnded s.loadId 4 else s)

/-- O52. PUMP_ON, PUMP_OFF, the timers, a loss of pressure and an emergency stop start, stop or fault the pump. R129,
R130, R134, R135, R136, R137, with R121 and the grant of R126 at the cut station. The model's choices: rows out of
their state (log 9), the order of the two reports (log 37), which are two events at the Runner, each with its
RUN_STATE (log 18), the pedal after a loss of pressure (log 41), the valves of a stopped knife (log 49), a RETURNING
cycle under a pending abort too (log 50), a parking from FAULT that waits for its grant (log 51). -/
def Obligations.PumpStartsStopsAndFaults : Prop :=
  let reply : Supply → List Byte := fun h =>
    0x00 :: (leBytes 1 h.pump.code ++ [flagByte [h.enable, h.reqCut, h.reqLift, h.reqTurn]] ++
      leBytes 1 (holderCode h.holder) ++ [if h.stopPending then 0x01 else 0x00])
  let stopped : Supply → Supply := fun h =>
    { h with
      pump := .lockout
      contactor := false
      stopPending := false
      lockoutTimer := some 5000
      runUpTimer := none
      idleTimer := none }
  let started : Supply → Bool → Supply := fun h latch =>
    if h.enable = true ∧ latch = false ∧ (h.reqCut = true ∨ h.reqLift = true ∨ h.reqTurn = true) then
      { h with pump := .runUp, contactor := true, runUpTimer := some 2000 }
    else h
  (∀ (s : State) (m : Lines) (tag : Byte), s.li.queue = [] →
    let c : Instr := .pumpOn m tag []
    let closed := (s.hearing c).setPs { s.ps with window := none }
    let leads : Supply → Prop := fun h => Decides c s (closed.setHs h) (reply h)
    let on : Supply := { s.hs with enable := true }
    (s.hs.enable = true → leads s.hs) ∧
    (s.hs.enable = false →
      (s.hs.pump = .ready → leads { on with stopPending := false }) ∧
      (s.hs.pump = .off → leads (started on s.sm.estopLatch)) ∧
      (s.hs.pump ≠ .ready → s.hs.pump ≠ .off → leads on))) ∧
  (∀ (s : State) (m : Lines) (tag : Byte), s.li.queue = [] →
    let c : Instr := .pumpOff m tag []
    let closed := (s.hearing c).setPs { s.ps with window := none }
    let leads : Supply → Prop := fun h => Decides c s (closed.setHs h) (reply h)
    let off : Supply := { s.hs with enable := false }
    (s.hs.enable = false → leads s.hs) ∧
    (s.hs.enable = true →
      (s.hs.pump = .runUp ∨ (s.hs.pump = .ready ∧ s.hs.holder = none) → leads (stopped off)) ∧
      (s.hs.pump = .ready → s.hs.holder ≠ none → leads { off with stopPending := true }) ∧
      (s.hs.pump ≠ .ready → s.hs.pump ≠ .runUp → leads off))) ∧
  (∀ (s : State) (m : Lines),
    let c : Instr := .pumpRunUpExpiry m
    let h := s.sample m
    let ready : Supply := { s.hs with pump := .ready, runUpTimer := none }
    (s.hs.pump = .runUp →
      (m.pressureOk = true → s.hs.anyRequest = true → Becomes c s (h.setHs ready).decideGrant) ∧
      (m.pressureOk = true → s.hs.anyRequest = false →
        Becomes c s (h.setHs { ready with idleTimer := some (s.ps.settings.pumpIdleOff * 1000) })) ∧
      (m.pressureOk = false →
        Becomes c s
          ((h.setHs { s.hs with pump := .fault, contactor := false, runUpTimer := none }).reportFault .pumpFault 0))) ∧
    (s.hs.pump ≠ .runUp → Becomes c s h)) ∧
  (∀ (s : State) (m : Lines),
    let c : Instr := .pumpLockoutExpiry m
    let h := s.sample m
    (s.hs.pump = .lockout →
      Becomes c s (h.setHs (started { s.hs with pump := .off, lockoutTimer := none } s.sm.estopLatch))) ∧
    (s.hs.pump ≠ .lockout → Becomes c s h)) ∧
  (∀ (s : State) (m : Lines),
    let c : Instr := .pumpIdleExpiry m
    let h := s.sample m
    let runs : Prop := s.hs.idleTimer.isSome = true ∧ s.hs.pump = .ready ∧ s.hs.holder = none
    (runs → Becomes c s (h.setHs (stopped s.hs))) ∧ (¬runs → Becomes c s h)) ∧
  (∀ (s : State) (m : Lines) (faultFirst : Bool),
    let c : Instr := .pressureLost m faultFirst
    let h := s.sample { m with pressureOk := false }
    let lost :=
      h.setHs
        { s.hs with pump := .fault, contactor := false, idleTimer := none, stopPending := false, holder := none }
    (s.hs.pump = .ready →
      (s.hs.holder = none →
        (faultFirst = true → Becomes c s (lost.reportFault .pressureLost 0).flush) ∧
        (faultFirst = false → Becomes c s (lost.flush.reportFault .pressureLost 0))) ∧
      (∀ x, s.hs.holder = some x →
        let told : State → State := fun y => match x with
          | .cut => y.csRevoked
          | .lift => y.setPl { y.pl with raiseTimer := none, raiseValve := false }
          | .turn => y.turnInterrupted 5
        (faultFirst = true → Becomes c s (told (lost.reportFault .pressureLost (holderCode s.hs.holder)).flush)) ∧
        (faultFirst = false → Becomes c s ((told lost).flush.reportFault .pressureLost (holderCode s.hs.holder))))) ∧
    (s.hs.pump ≠ .ready → Becomes c s h)) ∧
  (∀ h : Supply,
    h.estop =
      { (if h.pump = .runUp ∨ h.pump = .ready then stopped h else h) with
        reqCut := false
        reqLift := false
        reqTurn := false
        holder := none
        stopPending := false
        idleTimer := none
        runUpTimer := none }) ∧
  ∀ s : State,
    let armed :=
      s.setCs
        { s.cs with
          state := .armed
          pedalCounts := !s.cs.pedal
          pedalDwell := none
          clampTimer := none
          clampValve := .closed }
    let rests : CutState → ClampValve → Option Cycle → State := fun x valve pending =>
      s.setCs
        { s.cs with
          state := x
          cycle := none
          pedalDwell := none
          clampTimer := none
          knifeTimer := none
          clampValve := valve
          knifeValve := .rest
          pendingDone := pending }
    let asks : State → State := fun x => if s.sm.estopLatch then x else x.request .cut
    let stops := asks (rests .recover s.cs.clampValve s.cs.pendingDone)
    let ran : Cycle → Prop := fun x => x.issuer = .runner ∧ s.runOpen = true
    (s.cs.state = .preclamped ∨ s.cs.state = .clamping → s.csRevoked = armed) ∧
    (∀ x, s.cs.cycle = some x → x.leftTop = true →
      (s.cs.state = .cutting ∨ s.cs.state = .abortReturn → x.mark ≠ .timedOut →
        (ran x → s.csRevoked = (stops.applyAborted x).runnerCycleAborted) ∧
        (¬ran x → s.csRevoked = stops.applyAborted x)) ∧
      (s.cs.state = .abortReturn → x.mark = .timedOut →
        let t :=
          ((rests .fault .closed s.cs.pendingDone).applyAborted x).reportFault .knifeTimeout
            (if x.tracked then x.nominal else 0)
        (ran x → s.csRevoked = t.runnerCycleAborted) ∧ (¬ran x → s.csRevoked = t))) ∧
    (s.cs.state = .returning → s.csRevoked = asks (rests .recover s.cs.clampValve s.cs.cycle)) ∧
    (s.cs.state = .recover → s.csRevoked = asks (s.setCs { s.cs with knifeValve := .rest })) ∧
    (s.cs.state = .recover → s.csGranted = s.setCs { s.cs with knifeValve := .up, clampValve := .closed })

/-- O53. One waiting consumer is granted at each decision, by priority or in the cycle, and a release goes on by its
cases. R132 with R129, R131, R133; R141, R143 and R144 for a lift whose top-of-pile sensor is made. -/
def Obligations.TheGrantIsArbitrated : Prop :=
  (∀ (h : Supply) (x : Settings) (c : Consumer),
    let free : Prop := h.pump = .ready ∧ h.enable = true ∧ h.holder = none
    let index : Consumer → Nat := fun d => match d with
      | .cut => 0
      | .lift => 1
      | .turn => 2
    let rank : Consumer → Nat := fun d => match h.last with
      | none => index d
      | some l => (index d + 2 - index l) % 3
    (¬free → h.choice x = none) ∧
    (free → x.roundRobin = true →
      (h.choice x = some c ↔ h.requested c = true ∧ ∀ d, h.requested d = true → rank c ≤ rank d)) ∧
    (free → x.roundRobin = false → permutation x.priorityCut x.priorityLift x.priorityTurn = true →
      (h.choice x = some c ↔ h.requested c = true ∧ ∀ d, h.requested d = true → x.priority d ≤ x.priority c)) ∧
    (free → h.anyRequest = false → h.choice x = none)) ∧
  (∀ (s : State) (c : Consumer), s.hs.choice s.ps.settings = some c →
    let g : Supply :=
      { s.hs with
        reqCut := s.hs.reqCut && decide (c ≠ .cut)
        reqLift := s.hs.reqLift && decide (c ≠ .lift)
        reqTurn := s.hs.reqTurn && decide (c ≠ .turn)
        holder := some c
        last := some c
        idleTimer := none }
    (c = .cut → s.decideGrant = (s.setHs g).csGranted) ∧
    (c = .turn → s.decideGrant = (s.setHs g).ptGranted) ∧
    (c = .lift → s.pl.state = .raising → s.lines.topOfPile = false →
      s.decideGrant = (s.setHs g).setPl { s.pl with raiseTimer := some 20000, raiseValve := true }) ∧
    (c = .lift → s.pl.state = .raising → s.lines.topOfPile = true →
      let t := (s.setHs g).raiseMeasured (13000 - s.pl.platform)
      let freed : Supply := { g with holder := none }
      (s.hs.stopPending = true →
        s.decideGrant =
          t.setHs
            { freed with
              pump := .lockout
              contactor := false
              stopPending := false
              lockoutTimer := some 5000
              runUpTimer := none
              idleTimer := none }) ∧
      (s.hs.stopPending = false → g.anyRequest = true → s.decideGrant = (t.setHs freed).grantOther) ∧
      (s.hs.stopPending = false → g.anyRequest = false →
        s.decideGrant = t.setHs { freed with idleTimer := some (s.ps.settings.pumpIdleOff * 1000) })) ∧
    (c ≠ .lift → s.grantOther = s.decideGrant) ∧ (c = .lift → s.grantOther = s)) ∧
  (∀ s : State, s.hs.choice s.ps.settings = none → s.decideGrant = s ∧ s.grantOther = s) ∧
  (∀ (s : State) (p : Pile) (n : Nat), s.pl.pile = some p →
    let raised : Pile → Lift := fun q =>
      { s.pl with
        raising := none
        raiseTimer := none
        raiseValve := false
        state := if n = 0 then .exhausted else .atTransfer
        pile := some q }
    let known : Prop := n = 0 ∨ n < p.hc
    let height : SlotHeight := if known then .known (p.hc - n) else .unknown
    let taken : Pile :=
      if known then { p with taken := p.taken + (p.hc - n), loads := p.loads + 1, hc := n }
      else { p with restored := p.restored + (n - p.hc), hc := n }
    let noticed : Jogger → State := fun j =>
      ((s.setPl (raised taken)).setJg j).infeedNotice .takeOff ((p.hc : Int) - n)
    (s.pl.raising = some .initial →
      s.raiseMeasured n = (s.setPl (raised { p with h0 := n, hc := n })).infeedNotice .pileMeasured 0) ∧
    (s.pl.raising = some .takeOff →
      (s.jg.state = .waitHeight →
        s.raiseMeasured n = (noticed { s.jg with state := .ready, height := height }).infeedNotice .slotReady 0) ∧
      (s.jg.state = .jogging ∨ s.jg.state = .stopped ∨ s.jg.state = .failed →
        s.raiseMeasured n = noticed { s.jg with height := height }) ∧
      (s.jg.state = .empty ∨ s.jg.state = .ready → s.raiseMeasured n = noticed s.jg))) ∧
  ∀ (s : State) (c : Consumer),
    let asked := s.setHs (s.hs.setRequest c true)
    let free : Supply := { s.hs with holder := none }
    (s.hs.requested c = true ∨ s.hs.holder = some c → s.request c = s) ∧
    (s.hs.requested c = false → s.hs.holder ≠ some c →
      (s.hs.pump = .off → s.hs.enable = true → s.sm.estopLatch = false →
        s.request c =
          s.setHs { s.hs.setRequest c true with pump := .runUp, contactor := true, runUpTimer := some 2000 }) ∧
      (s.hs.pump = .off → (s.hs.enable = false ∨ s.sm.estopLatch = true) → s.request c = asked) ∧
      (s.hs.pump = .ready → s.request c = (asked.setHs { asked.hs with idleTimer := none }).decideGrant) ∧
      (s.hs.pump ≠ .off → s.hs.pump ≠ .ready → s.request c = asked)) ∧
    (s.hs.holder ≠ some c → s.release c = s) ∧
    (s.hs.holder = some c →
      (s.hs.stopPending = true →
        s.release c =
          s.setHs
            { free with
              pump := .lockout
              contactor := false
              stopPending := false
              lockoutTimer := some 5000
              runUpTimer := none
              idleTimer := none }) ∧
      (s.hs.stopPending = false → s.hs.anyRequest = true → s.release c = (s.setHs free).decideGrant) ∧
      (s.hs.stopPending = false → s.hs.anyRequest = false →
        s.release c = s.setHs { free with idleTimer := some (s.ps.settings.pumpIdleOff * 1000) }))

/-- O54. Every step keeps the laws of the supply, of the pile record and of the knife. R129 to R136, R140 with R143,
R113 with R116. The valves of a stopped knife: log 49. -/
def Obligations.SupplyAndPileLawsAreKept : Prop :=
  (∀ s t : State, SupplyOk s.hs → step s = .next t → SupplyOk t.hs) ∧
    (∀ s t : State, PileOk s.pl → step s = .next t → PileOk t.pl) ∧
    ∀ s t : State,
      CutOk s → step s = .next t →
        CutOk t ∧
          (t.cs.knifeValve = .down → s.cs.knifeValve ≠ .down →
            s.cs.state = .clamping ∧ s.hs.holder = some .cut ∧ s.sm.permission = true ∧
              ∃ m rest, s.pending = .clampFullPressure m :: rest)

/-- O55. NEW_PILE raises and measures a pile, raises end with their measurement or time out, and LIFT_LOWER lowers the
lift. R140 to R145, R149. That the four lift rows change nothing elsewhere is the model's choice (log 9). -/
def Obligations.PilesAreDeclaredRaisedAndLowered : Prop :=
  let settled : Jogger → SlotHeight → Jogger := fun j h => match j.state with
    | .jogging | .stopped | .failed => { j with height := h }
    | .waitHeight => { j with state := .ready, height := h }
    | .empty | .ready => j
  (∀ (s : State) (m : Lines) (tag : Byte) (a b : List Byte), a.length = 4 → b.length = 4 → s.li.queue = [] →
    let c : Instr := .newPile m tag (a ++ b)
    let closed := (s.hearing c).setPs { s.ps with window := none }
    let w := leNat a
    let ls := leNat b
    let fields : Prop := w ≠ 0 ∧ w ≤ 132000 ∧ ls ≠ 0 ∧ ls ≤ 124000
    let barred : Prop :=
      (s.pl.state ≠ .noPile ∧ s.pl.state ≠ .lowered ∧ s.pl.state ≠ .lowering) ∨ s.pr.lineHalt = true
    (¬fields → Decides c s closed [0x05]) ∧
    (fields → barred → Decides c s closed [0x04]) ∧
    (fields → ¬barred → s.pl.state = .lowering → Decides c s closed [0x02]) ∧
    (fields → ¬barred → s.pl.state ≠ .lowering → s.sm.estopLatch = true → Decides c s closed [0x0C]) ∧
    (fields → ¬barred → s.pl.state ≠ .lowering → s.sm.estopLatch = false →
      Decides c s
        ((closed.setPl
          { closed.pl with
            pile := some ⟨w, ls, 0, 0, 0, 0, 0⟩, state := .raising, raising := some .initial }).request .lift)
        [0x00])) ∧
  (∀ (s : State) (m : Lines) (tag : Byte), s.li.queue = [] →
    let c : Instr := .liftLower m tag []
    let closed := (s.hearing c).setPs { s.ps with window := none }
    let busy : Prop := s.pl.state = .raising ∨ s.pl.state = .lowering ∨ s.jg.state = .waitHeight
    let t :=
      (closed.setPl
        { closed.pl with state := .lowering, raising := none, pile := none, lowerValve := true }).setJg
        (if s.pl.raising = some .takeOff ∧ s.jg.height = .pending then settled s.jg .unknown else s.jg)
    (busy → Decides c s closed [0x02]) ∧
    (¬busy → s.sm.estopLatch = true → Decides c s closed [0x0C]) ∧
    (¬busy → s.sm.estopLatch = false → m.floorStop = false → Decides c s t [0x00]) ∧
    (¬busy → s.sm.estopLatch = false → m.floorStop = true →
      Decides c s ((t.setPl { t.pl with state := .lowered, lowerValve := false }).infeedNotice .lowered 0) [0x00])) ∧
  (∀ (s : State) (m : Lines),
    let c : Instr := .floorStopMade m
    let h := s.sample { m with floorStop := true }
    (s.pl.state = .lowering →
      Becomes c s ((h.setPl { h.pl with state := .lowered, lowerValve := false }).infeedNotice .lowered 0)) ∧
    (s.pl.state ≠ .lowering → Becomes c s h)) ∧
  (∀ (s : State) (m : Lines) (c : Instr) (h : State) (n : Nat),
    (c = .topOfPileTrip m ∧ h = s.sample { m with topOfPile := true } ∧ n = 13000 - m.platform) ∨
      (c = .platformAtTp m ∧ h = s.sample { m with platform := 13000 } ∧ n = 0) →
    let raised : Pile → Lift := fun q =>
      { h.pl with
        raising := none
        raiseTimer := none
        raiseValve := false
        state := if n = 0 then .exhausted else .atTransfer
        pile := some q }
    (s.pl.state = .raising → s.hs.holder = some .lift → ∀ p, s.pl.pile = some p →
      (s.pl.raising = some .initial →
        Becomes c s (((h.setPl (raised { p with h0 := n, hc := n })).infeedNotice .pileMeasured 0).release .lift)) ∧
      (s.pl.raising = some .takeOff →
        let known : Prop := n = 0 ∨ n < p.hc
        let q : Pile :=
          if known then { p with taken := p.taken + (p.hc - n), loads := p.loads + 1, hc := n }
          else { p with restored := p.restored + (n - p.hc), hc := n }
        let t :=
          ((h.setPl (raised q)).setJg (settled s.jg (if known then .known (p.hc - n) else .unknown))).infeedNotice
            .takeOff ((p.hc : Int) - n)
        (s.jg.state = .waitHeight → Becomes c s ((t.infeedNotice .slotReady 0).release .lift)) ∧
        (s.jg.state ≠ .waitHeight → Becomes c s (t.release .lift)))) ∧
    (s.pl.state ≠ .raising ∨ s.hs.holder ≠ some .lift → Becomes c s h)) ∧
  ∀ (s : State) (m : Lines),
    let c : Instr := .raiseTimeout m
    let h := s.sample m
    let fault := h.setPl { h.pl with state := .fault, raising := none, raiseTimer := none, raiseValve := false }
    (s.pl.state = .raising → s.hs.holder = some .lift →
      (s.pl.raising = some .initial →
        Becomes c s (((fault.reportFault .liftTimeout m.platform).infeedNotice .liftFault 0).release .lift)) ∧
      (s.pl.raising = some .takeOff →
        let t := ((fault.setJg (settled s.jg .unknown)).reportFault .liftTimeout m.platform).infeedNotice .liftFault 0
        (s.jg.state = .waitHeight → Becomes c s ((t.infeedNotice .slotReady 0).release .lift)) ∧
        (s.jg.state ≠ .waitHeight → Becomes c s (t.release .lift)))) ∧
    (s.pl.state ≠ .raising ∨ s.hs.holder ≠ some .lift → Becomes c s h)

/-- O56. JOG_START, by request or button, starts a jog by R147, a cycle's end goes by R148, a discard empties the slot,
an emergency stop stops it. R147, R148, R149, R150, R151, R154. JOG_CYCLE_EXPIRY with no jog is the model's choice
(log 9); a count past its field carries a free value (log 10). -/
def Obligations.JogsStartRunAndEnd : Prop :=
  (∀ (s : State) (m : Lines) (tag : Byte),
    let request : Instr := .jogStart m tag [0x00]
    let button : Instr := .jogStartButton m
    let closed := (s.hearing request).setPs { s.ps with window := none }
    let jogs : State → SlotHeight → State := fun x h =>
      x.setJg
        { x.jg with
          height := h
          state := .jogging
          retries := 0
          cycles := 1
          vibrator := true
          timer := some (s.ps.settings.jogTime * 1000) }
    let raises : State → State := fun x =>
      (x.setPl { x.pl with state := .raising, raising := some .takeOff }).request .lift
    let acts : (State → State) → Prop := fun g =>
      (s.li.queue = [] →
        (s.pr.lineHalt = true → Decides request s closed [0x04]) ∧
        (s.pr.lineHalt = false → s.sm.estopLatch = true → Decides request s closed [0x0C]) ∧
        (s.pr.lineHalt = false → s.sm.estopLatch = false →
          Decides request s (g closed)
            (0x00 :: (leBytes 1 (g closed).jg.state.code ++ leBytes 1 (g closed).pl.state.code)))) ∧
      (s.pr.lineHalt = true ∨ s.sm.estopLatch = true → Becomes button s (s.sample m)) ∧
      (s.pr.lineHalt = false → s.sm.estopLatch = false → Becomes button s (g (s.sample m)))
    let still : Prop :=
      s.pl.state = .noPile ∨ s.pl.state = .exhausted ∨ s.pl.state = .lowering ∨ s.pl.state = .lowered
    let again : Prop := s.jg.height = .pending ∧ s.pl.state = .stopped ∧ s.pl.raising = some .takeOff
    (s.jg.state = .empty → s.pl.state = .atTransfer → acts fun x => raises (jogs x .pending)) ∧
    (s.jg.state = .empty → still → acts fun x => jogs x .unknown) ∧
    (s.jg.state = .stopped → again → acts fun x => raises (jogs x s.jg.height)) ∧
    (s.jg.state = .stopped → ¬again → acts fun x => jogs x s.jg.height) ∧
    (¬(s.jg.state = .empty ∧ (s.pl.state = .atTransfer ∨ still)) → s.jg.state ≠ .stopped →
      (s.li.queue = [] → Decides request s closed [if s.pr.lineHalt then 0x04 else 0x02]) ∧
      Becomes button s (s.sample m))) ∧
  (∀ (s : State) (m : Lines) (tag : Byte), s.li.queue = [] →
    let c : Instr := .jogStartDiscard m tag
    let closed := (s.hearing c).setPs { s.ps with window := none }
    let stands : Prop :=
      s.runOpen = true ∧ (s.pr.phase = .retract ∨ s.pr.phase = .placeWait) ∧
        ∃ r, s.currentStep = some r ∧ r.kind = .load
    let free : Prop :=
      (s.jg.state = .ready ∨ s.jg.state = .stopped ∨ s.jg.state = .failed) ∧ s.jg.height ≠ .pending ∧ ¬stands
    (free →
      Decides c s
        ((closed.setJg { s.jg with state := .empty, height := .known 0, retries := 0, cycles := 0 }).infeedNotice
          .slotEmpty 0) (0x00 :: 0x00 :: leBytes 1 s.pl.state.code)) ∧
    (¬free → Decides c s closed [0x04])) ∧
  (∀ (s : State) (m : Lines) (tag mode : Byte), s.li.queue = [] → 1 < mode.toNat →
    let c : Instr := .jogStart m tag [mode]
    Decides c s ((s.hearing c).setPs { s.ps with window := none }) [0x05]) ∧
  (∀ (s : State) (m : Lines),
    let c : Instr := .jogCycleExpiry m
    let h := s.sample m
    let pattern : Int :=
      if m.sideAligned = true then (if m.backAligned = true then 0 else 2)
      else if m.backAligned = true then 1 else 3
    let still : Jogger := { s.jg with vibrator := false, timer := none }
    (s.jg.state = .jogging →
      (pattern = 0 → s.jg.height = .pending →
        Becomes c s ((h.setJg { still with state := .waitHeight }).infeedNotice .slotWaitHeight 0)) ∧
      (pattern = 0 → s.jg.height ≠ .pending →
        Becomes c s ((h.setJg { still with state := .ready }).infeedNotice .slotReady 0)) ∧
      (pattern ≠ 0 → s.jg.retries < s.ps.settings.jogRetries →
        Becomes c s
          (h.setJg
            { s.jg with
              retries := s.jg.retries + 1
              cycles := s.jg.cycles + 1
              timer := some (s.ps.settings.jogTime * 1000) })) ∧
      (pattern ≠ 0 → s.ps.settings.jogRetries ≤ s.jg.retries →
        Becomes c s
          (((h.setJg { still with state := .failed }).reportFault .jogFailed pattern).infeedNotice .slotFailed 0))) ∧
    (s.jg.state ≠ .jogging → Becomes c s h)) ∧
  (∀ s : State,
    let moves : Prop := s.pl.state = .raising ∨ s.pl.state = .lowering
    let stops : Prop :=
      s.jg.state = .jogging ∨ (s.jg.state = .waitHeight ∧ s.pl.state = .raising ∧ s.pl.raising = some .takeOff)
    let lift : Lift :=
      if s.pl.state = .raising then { s.pl with state := .stopped, raiseTimer := none, raiseValve := false }
      else if s.pl.state = .lowering then { s.pl with state := .stopped, lowerValve := false }
      else s.pl
    let slot : Jogger := { s.jg with state := .stopped, vibrator := false, timer := none }
    (moves → stops →
      s.infeedEstop = (((s.setPl lift).setJg slot).infeedNotice .liftStopped 0).infeedNotice .slotStopped 0) ∧
    (moves → ¬stops → s.infeedEstop = (s.setPl lift).infeedNotice .liftStopped 0) ∧
    (¬moves → stops → s.infeedEstop = (s.setJg slot).infeedNotice .slotStopped 0) ∧
    (¬moves → ¬stops → s.infeedEstop = s)) ∧
  ∀ (s : State) (e : InfeedEvent) (x : Int),
    let p := s.pl.pile.getD ⟨0, 0, 0, 0, 0, 0, 0⟩
    s.infeedNotice e x =
      s.raise .infeed
        (leBytes 1 e.code ++ leBytes 1 s.pl.state.code ++ leBytes 1 s.jg.state.code ++ leBytes 2 s.pl.platform ++
          leBytes 2 p.h0 ++ leBytes 2 p.hc ++ leInt 2 x ++
          leBytes 2
            (if s.jg.state = .empty then 0
            else match s.jg.height with
              | .known y => y
              | .unknown => 65535
              | .pending => 65535) ++
          count16 p.loads ++ count32 p.taken ++ count32 p.restored ++ leBytes 1 s.jg.cycles)

/-- O57. TURN_NOW hands a retract and then its turn, and TURNER_PARK resumes or parks, or they are refused. R156, R159,
R160, R161, R162. The model's choices: R162's table comes before the resumption checks (log 54); a resumed RELEASE
asks for its grant and stays INTERRUPTED until it comes, and the reply says so (log 20). -/
def Obligations.TurnNowAndTurnerParkAreTakenOrRefused : Prop :=
  (∀ (s : State) (m : Lines) (tag n : Byte), s.li.queue = [] →
    let c : Instr := .turnNow m tag [n]
    let closed := (s.hearing c).setPs { s.ps with window := none }
    let tracked : Bool := s.gt.openLoad.isSome
    let fails : Prop :=
      tracked = true ∧ ∀ t, s.gt.table = some t → 124000 < max t.len t.depth + s.ps.settings.turnClearance
    let barred : Prop := s.pr.lineHalt = true ∨ fails
    let busy : Prop :=
      s.pt.state ≠ .parked ∨ s.manualInFlight = true ∨ s.cs.state ≠ .ready ∨ s.gaugeBusy = true ∨ s.bg.slot ≠ none
    let danger : Prop := s.sm.estopLatch = true ∨ s.guardOpen = true
    let fields : Prop := 1 ≤ n.toNat ∧ n.toNat ≤ 3
    (¬fields → Decides c s closed [0x05]) ∧
    (fields → s.runOpen = true → Decides c s closed [0x03]) ∧
    (fields → s.runOpen = false → barred → Decides c s closed [0x04]) ∧
    (fields → s.runOpen = false → ¬barred → busy → Decides c s closed [0x02]) ∧
    (fields → s.runOpen = false → ¬barred → ¬busy → s.bg.referenced = false → Decides c s closed [0x0B]) ∧
    (fields → s.runOpen = false → ¬barred → ¬busy → s.bg.referenced = true → danger → Decides c s closed [0x0C]) ∧
    (fields → s.runOpen = false → ¬barred → ¬busy → s.bg.referenced = true → ¬danger → ∀ r : Nat,
      (tracked = false ∧ r = 124000) ∨
        (tracked = true ∧ ∃ t, s.gt.table = some t ∧ r = max t.len t.depth + s.ps.settings.turnClearance) →
      let reply : List Byte := 0x00 :: (leInt 4 r ++ leBytes 2 s.loadId)
      let x : ManualTurn := ⟨n.toNat, r, tracked, s.loadId, .retract, false⟩
      let w := closed.setPt { s.pt with manual := some x }
      (m.encoder + s.bg.zero < r - 2 → ∃ v, w.retract .manualTurn r = .moving v ∧ Decides c s v reply) ∧
      (r - 2 ≤ m.encoder + s.bg.zero →
        let g :=
          (w.setBg { w.bg with inPos := false }).setPt
            { s.pt with
              manual := some { x with stage := .turn }
              state := .gripping
              record := some ⟨.turnNow, tracked, s.loadId, n.toNat, 0, r, none⟩ }
        Decides c s (if m.clampUp = true ∧ m.knifeTop = true then g.request .turn else g) reply))) ∧
  ∀ (s : State) (m : Lines) (tag : Byte), s.li.queue = [] →
    let c : Instr := .turnerPark m tag []
    let closed := (s.hearing c).setPs { s.ps with window := none }
    let barred : Prop :=
      (s.pt.state ≠ .interrupted ∧ s.pt.state ≠ .fault) ∨ (s.pt.state = .interrupted ∧ s.pr.lineHalt = true)
    let busy : Prop := s.manualInFlight = true ∨ s.gaugeBusy = true
    let danger : Prop := s.sm.estopLatch = true ∨ s.guardOpen = true
    let free : Prop := s.runOpen = false ∧ ¬barred ∧ ¬busy ∧ ¬danger
    (s.runOpen = true → Decides c s closed [0x03]) ∧
    (s.runOpen = false → barred → Decides c s closed [0x04]) ∧
    (s.runOpen = false → ¬barred → busy → Decides c s closed [0x02]) ∧
    (s.runOpen = false → ¬barred → ¬busy → danger → Decides c s closed [0x0C]) ∧
    (free → s.pt.state = .fault →
      let t := (closed.setPt { s.pt with state := .releasing, parkFromFault := true }).request .turn
      Decides c s t (0x00 :: leBytes 1 t.pt.state.code)) ∧
    (free → s.pt.state = .interrupted → ∀ r, s.pt.record = some r →
      (s.bg.referenced = false → Decides c s closed [0x0B]) ∧
      (s.bg.referenced = true → m.encoder + s.bg.zero < r.clearance - 2 → Decides c s closed [0x02]) ∧
      (s.bg.referenced = true → r.clearance - 2 ≤ m.encoder + s.bg.zero →
        let gripping := closed.setPt { s.pt with state := .gripping, record := some { r with interrupted := none } }
        (r.interrupted = some .release →
          let t := closed.request .turn
          Decides c s t (0x00 :: leBytes 1 t.pt.state.code)) ∧
        (r.interrupted ≠ some .release →
          let t :=
            if m.clampUp = true ∧ m.knifeTop = true then gripping.request .turn else gripping
          Decides c s t (0x00 :: leBytes 1 t.pt.state.code))))

/-- O58. A turn grips, counts its quarters, releases and parks; its end or interruption is reported to its issuer, and a
manual turn ends by R161. R155 to R159, R161, R162. The model's choices: rows out of their state (log 9), the grant
of a resumed RELEASE (log 20), the issuer of an interrupted turn whose run is gone (log 21), a handing at a turner
that is not PARKED (log 11), the drive set to park together with the opening valve (log 53). -/
def Obligations.TurnsGripRotateReleaseAndPark : Prop :=
  (∀ (s : State) (m : Lines),
    let c : Instr := .gripClosed m
    let h := s.sample { m with gripClosed := true }
    let held : Prop := s.pt.state = .gripping ∧ s.hs.holder = some .turn
    (held → ∀ r, s.pt.record = some r →
      (r.completed < r.commanded → Becomes c s (h.setPt { s.pt with state := .turning, rotate := .clockwise })) ∧
      (r.commanded ≤ r.completed →
        Becomes c s (h.setPt { s.pt with state := .releasing, gripValve := .release, rotate := .toPark }))) ∧
    (¬held → Becomes c s h)) ∧
  (∀ (s : State) (m : Lines),
    let c : Instr := .quarterMark m
    let h := s.sample m
    (s.pt.state = .turning → ∀ r, s.pt.record = some r →
      let t : Turner := { s.pt with record := some { r with completed := r.completed + 1 } }
      (r.completed + 1 < r.commanded → Becomes c s (h.setPt t)) ∧
      (r.commanded ≤ r.completed + 1 →
        Becomes c s (h.setPt { t with state := .releasing, gripValve := .release, rotate := .toPark }))) ∧
    (s.pt.state ≠ .turning → Becomes c s h)) ∧
  (∀ (s : State) (m : Lines),
    let c : Instr := .parkSensorMade m
    let h := s.sample { m with park := true }
    let held : Prop := s.pt.state = .releasing ∧ s.hs.holder = some .turn
    let parked :=
      (h.setPt
        { s.pt with
          state := .parked
          record := none
          parkFromFault := false
          gripValve := .rest
          rotate := .stopped }).release .turn
    (held → s.pt.record = none → Becomes c s (parked.plainWarning .turnEnded parked.loadId 0)) ∧
    (held → ∀ r, s.pt.record = some r →
      let turned := match parked.gt.table with
        | some t =>
          if r.tracked = true ∧ t.loadId = r.loadId then
            parked.setGt { parked.gt with table := some { t with q := t.q + Fin.ofNat 4 r.commanded } }
          else parked
        | none => parked
      (r.issuer = .runner → s.runOpen = true → Becomes c s turned.runnerTurnDone) ∧
      (r.issuer = .runner → s.runOpen = false → Becomes c s turned) ∧
      (∀ x, r.issuer = .turnNow → s.pt.manual = some x → Becomes c s (turned.manualTurnMade x)) ∧
      (r.issuer = .nobody ∨ (r.issuer = .turnNow ∧ s.pt.manual = none) →
        Becomes c s (turned.plainWarning .turnEnded turned.loadId 0))) ∧
    (¬held → Becomes c s h)) ∧
  (∀ (s : State) (m : Lines),
    let c : Instr := .parkSensorLost m
    let h := s.sample { m with park := false }
    (s.pt.state = .parked → Becomes c s ((h.setPt { s.pt with state := .fault }).reportFault .notParked 0)) ∧
    (s.pt.state ≠ .parked → Becomes c s h)) ∧
  (∀ s : State,
    (s.pt.state = .gripping → s.lines.gripClosed = false → s.ptGranted = s.setPt { s.pt with gripValve := .close }) ∧
    (s.pt.state = .releasing →
      s.ptGranted = s.setPt { s.pt with gripValve := .release, rotate := .toPark }) ∧
    (∀ r, s.pt.state = .gripping → s.lines.gripClosed = true → s.pt.record = some r →
      s.ptGranted =
        (if r.commanded ≤ r.completed then
          s.setPt { s.pt with state := .releasing, gripValve := .release, rotate := .toPark }
        else s.setPt { s.pt with state := .turning, gripValve := .close, rotate := .clockwise })) ∧
    (∀ r, s.pt.state = .interrupted → s.pt.record = some r →
      s.ptGranted =
        (if r.interrupted = some .release then
          s.setPt
            { s.pt with
              state := .releasing
              gripValve := .release
              rotate := .toPark
              record := some { r with interrupted := none } }
        else s)) ∧
    (s.pt.state = .parked ∨ s.pt.state = .turning ∨ s.pt.state = .fault → s.ptGranted = s)) ∧
  (∀ (s : State) (cause : Nat), s.pt.parkFromFault = true →
    let stopped :=
      s.setPt { s.pt with state := .fault, parkFromFault := false, gripValve := .rest, rotate := .stopped }
    let y := if cause = 3 then stopped.giveUp .turn else stopped
    (s.pt.state = .gripping ∨ s.pt.state = .turning ∨ s.pt.state = .releasing →
      s.turnInterrupted cause = y.plainWarning .turnEnded y.loadId cause)) ∧
  (∀ s : State,
    (s.pt.manual = none → ∀ cause, s.manualTurnEnds cause = s) ∧
    ∀ x, s.pt.manual = some x →
      let ended : State → Int → State := fun w cause =>
        (w.setPt { w.pt with manual := none }).plainWarning .turnEnded w.loadId cause
      let gripping :=
        s.setPt
          { s.pt with
            manual := some { x with stage := .turn }
            state := .gripping
            record := some ⟨.turnNow, x.tracked, x.loadId, x.quarters, 0, x.clearance, none⟩ }
      let t := s.manualTurnMoved false
      let k := s.setPt { s.pt with manual := some { x with stage := .contact } }
      let toContact : Prop := x.afterReset = false ∧ x.tracked = true
      let made := s.manualTurnMade x
      (∀ cause, s.manualTurnEnds cause = ended s cause) ∧
      (x.stage = .contact →
        t = ended s 0 ∧
          s.manualTurnMoved true =
            (let w := s.loadWarning .backwardApproach s.bg.target
            ended w 0)) ∧
      (x.stage = .retract →
        (∀ b, s.manualTurnMoved b = t) ∧
        (s.pr.lineHalt = true → t = ended s 2) ∧
        (s.pr.lineHalt = false → s.sm.estopLatch = true → t = ended s 4) ∧
        (s.pr.lineHalt = false → s.sm.estopLatch = false → s.guardOpen = true → t = ended s 3) ∧
        (s.pr.lineHalt = false → s.sm.estopLatch = false → s.guardOpen = false →
          (s.bg.referenced = false ∨ s.gaugeBusy = true ∨ s.bg.actual < x.clearance - 2 → t = ended s 1) ∧
          (s.bg.referenced = true → s.gaugeBusy = false → x.clearance - 2 ≤ s.bg.actual →
            (s.pt.state = .parked →
              t = if s.lines.clampUp = true ∧ s.lines.knifeTop = true then gripping.request .turn else gripping) ∧
            (s.pt.state ≠ .parked → t = ended s (Config.notParkedCause x.clearance).toInt)))) ∧
      (x.afterReset = true → made = ended s 6) ∧
      (x.afterReset = false → x.tracked = false → made = ended s 0) ∧
      (toContact → s.gaugeBusy = true ∨ s.bg.referenced = false → made = ended s 1) ∧
      (toContact → s.gaugeBusy = false → s.bg.referenced = true →
        (s.sm.estopLatch = true → made = ended s 4) ∧
        (s.sm.estopLatch = false → s.guardOpen = true → made = ended s 3) ∧
        (s.sm.estopLatch = false → s.guardOpen = false →
          (∀ v, k.approach .manualTurn false .approach s.contactPosition = .moving v → made = v) ∧
          ∀ v b, k.approach .manualTurn false .approach s.contactPosition = .completed v b →
            made =
              (let w := if b then v.loadWarning .backwardApproach s.contactPosition else v
              ended w 0)))) ∧
  ∀ (s : State) (cause : Nat) (r : TurnRec), s.pt.parkFromFault = false → s.pt.record = some r →
    let stopped : TurnPhase → GripValve → State := fun phase valve =>
      s.setPt
        { s.pt with
          state := .interrupted
          rotate := .stopped
          gripValve := valve
          record :=
            some
              { r with
                interrupted := some phase
                issuer := if r.issuer = .runner ∧ s.runOpen = false then .nobody else r.issuer } }
    let told : State → State := fun x =>
      let y := if cause = 3 then x.giveUp .turn else x
      match r.issuer, s.pt.manual with
      | .runner, _ => if s.runOpen then y.runnerTurnStopped (decide (cause = 3)) else y
      | _, some _ => y.manualTurnEnds cause
      | _, none => y.plainWarning .turnEnded y.loadId cause
    (s.pt.state = .gripping → s.turnInterrupted cause = told (stopped .grip s.pt.gripValve)) ∧
    (s.pt.state = .turning → s.turnInterrupted cause = told (stopped .rotate s.pt.gripValve)) ∧
    (s.pt.state = .releasing → s.turnInterrupted cause = told (stopped .release .rest)) ∧
    (s.pt.state = .parked ∨ s.pt.state = .interrupted ∨ s.pt.state = .fault → s.turnInterrupted cause = s)

/-- O59. A channel change updates its input and, where the effective value changes, acts as R168 to R173 say; a
discrepancy latches. R165 to R175, with R67 between blocks. The model's choices: the order operand (log 6), a
timer's row without its timer (log 9), each block's response an event of its own with its RUN_STATE (log 18), the
permission falling in the monitor before the notice's flags are read (log 23), a pair start ending with its button
(log 40). -/
def Obligations.SafetyInputsAct : Prop :=
  let shows : State → Byte → Byte → State := fun x event input =>
    x.raise .safety ([event, input, x.sm.flags, x.sm.latches] ++ x.sm.channels)
  (∀ (s : State) (m : Lines) (i : SafetyIn) (ch : Channel) (reading : Bool) (now : Nat) (order : List Consumers),
    let c : Instr := .safetyChannelChange m i ch reading now order
    let h := s.sample m
    let x := s.sm.input i
    let z : SafetyInput := if ch = .a then { x with a := reading } else { x with b := reading }
    let latch : Bool := x.latch && !(z.a && z.b)
    let y : SafetyInput := { z with latch := latch, timer := (z.a != z.b) && !latch }
    let changed := h.setSm (s.sm.setInput i y)
    let s2 := if x.latch = true ∧ latch = false then shows changed 8 (BitVec.ofNat 8 (safetyCode i)) else changed
    let was : Bool := x.a || x.b || x.latch
    let is : Bool := y.a || y.b || y.latch
    let fallen := s2.setSm { s2.sm with permission := false }
    let other : Bool := (s.sm.input (if i = .twoHandLeft then .twoHandRight else .twoHandLeft)).atUnsafe
    let clear : Prop :=
      s.sm.lightCurtain.atUnsafe = false ∧ s.sm.rearGuard.atUnsafe = false ∧ s.sm.bladeKey.atUnsafe = false ∧
        s.sm.estopLatch = false
    (was = is → Becomes c s s2) ∧
    (was = false → is = true →
      (i = .twoHandLeft ∨ i = .twoHandRight →
        Becomes c s
          ((s2.setSm
            { s2.sm with pairStart := none, rearm := s.sm.rearm || other, permission := false }).permissionFalls
              s.sm.permission false)) ∧
      (i = .lightCurtain → Becomes c s (fallen.permissionFalls s.sm.permission true)) ∧
      (i = .rearGuard → order.Perm [.cutStation, .gauge, .turner] →
        Becomes c s
          (order.foldl
            (fun t b =>
              (match b with
                | .gauge => t.gaugeGuard
                | .turner => t.turnInterrupted 3
                | .cutStation => t.permissionFalls s.sm.permission true
                | .runner | .supply | .infeed => t).flush)
            (shows fallen 3 0xFF))) ∧
      (i = .bladeKey →
        let t := (shows fallen 5 0xFF).permissionFalls s.sm.permission true
        Becomes c s (if t.cs.state = .ready then t.setCs { t.cs with state := .bladeChange } else t)) ∧
      (i = .emergencyStop → s.sm.estopLatch = true → Becomes c s s2) ∧
      (i = .emergencyStop → s.sm.estopLatch = false →
        order.Perm [.runner, .gauge, .cutStation, .supply, .infeed, .turner] →
        Becomes c s
          (order.foldl
            (fun t b =>
              (match b with
                | .runner => if t.runOpen then t.reportFault .estop 0 else t
                | .gauge => t.gaugeEstop
                | .cutStation => t.csEstop
                | .supply => t.setHs t.hs.estop
                | .infeed => t.infeedEstop
                | .turner => t.turnInterrupted 4).flush)
            (shows (fallen.setSm { fallen.sm with estopLatch := true }) 1 0xFF)))) ∧
    (was = true → is = false →
      (i = .twoHandLeft ∨ i = .twoHandRight → s.sm.permission = false →
        (other = true → Becomes c s (s2.setSm { s2.sm with pairStart := some now })) ∧
        (∀ t, other = false → s.sm.pairStart = some t → now ≤ t + 500 → s.sm.rearm = true → clear →
          Becomes c s
            (s2.setSm { s2.sm with pairStart := none, rearm := false, permission := true }).permissionRises) ∧
        (other = false →
          s.sm.pairStart = none ∨ (∃ t, s.sm.pairStart = some t ∧ t + 500 < now) ∨ s.sm.rearm = false ∨ ¬clear →
          Becomes c s (s2.setSm { s2.sm with pairStart := none }))) ∧
      (i = .lightCurtain ∨ i = .emergencyStop → Becomes c s s2) ∧
      (i = .rearGuard → Becomes c s (shows s2 4 0xFF)) ∧
      (i = .bladeKey → s.cs.state ≠ .bladeChange → Becomes c s (shows s2 6 0xFF)) ∧
      (i = .bladeKey → s.cs.state = .bladeChange → m.clampUp = true → m.knifeTop = true →
        Becomes c s
          ((shows s2 6 0xFF).setCs
            { h.cs with
              state := .ready
              cycle := none
              pedalDwell := none
              clampTimer := none
              knifeTimer := none
              clampValve := .closed
              knifeValve := .rest })) ∧
      (i = .bladeKey → s.cs.state = .bladeChange → ¬(m.clampUp = true ∧ m.knifeTop = true) →
        let r :=
          (shows s2 6 0xFF).setCs
            { h.cs with
              state := .recover
              cycle := none
              pedalDwell := none
              clampTimer := none
              knifeTimer := none
              clampValve := .closed
              knifeValve := .rest }
        Becomes c s (if s.sm.estopLatch then r else r.request .cut)))) ∧
  (∀ (s : State) (m : Lines) (i : SafetyIn),
    let c : Instr := .discrepancyTimeout m i
    let h := s.sample m
    let x := s.sm.input i
    let runs : Prop := x.timer = true ∧ x.a ≠ x.b
    (runs →
      Becomes c s
        ((shows (h.setSm (s.sm.setInput i { x with timer := false, latch := true })) 7
          (BitVec.ofNat 8 (safetyCode i))).reportFault .safetyDiscrepancy (safetyCode i))) ∧
    (¬runs → Becomes c s h)) ∧
  ∀ (s : State) (m : Lines) (tag : Byte), s.li.queue = [] →
    let c : Instr := .estopAck m tag []
    let closed := (s.hearing c).setPs { s.ps with window := none }
    let t := shows (closed.setSm { s.sm with estopLatch := false }) 2 0xFF
    (s.sm.estopLatch = false → Decides c s closed [0x00, s.sm.flags, s.sm.latches]) ∧
    (s.sm.estopLatch = true → s.sm.emergencyStop.atUnsafe = true → Decides c s closed [0x0C]) ∧
    (s.sm.estopLatch = true → s.sm.emergencyStop.atUnsafe = false →
      let asked := if s.cs.state = .recover then t.request .cut else t
      Decides c s
        (if asked.hs.pump = .off ∧ asked.hs.enable = true ∧ asked.hs.anyRequest = true then
          asked.setHs { asked.hs with pump := .runUp, contactor := true, runUpTimer := some 2000 }
        else asked) [0x00, t.sm.flags, t.sm.latches])

/-- O60. The state after reset keeps every law, and is what POWER_ON makes of itself with its lines at rest. The
invariants of the T3 statements at the start (log 2 for the lines). -/
def Obligations.ResetStateKeepsEveryLaw : Prop :=
  Inv State.reset ∧
    exec
      (.powerOn Lines.atRest false
        ⟨⟨true, true⟩, ⟨true, true⟩, ⟨false, false⟩, ⟨false, false⟩, ⟨false, false⟩, ⟨false, false⟩⟩) State.reset =
      .next State.reset
end

