-- ==== Sys2Proof/Laws/State.lean ====
section
/-! SUPPORT. One lemma per field per update of State: the field replaced, or kept. -/

namespace Sys2Proof.Machine

@[simp] theorem State.li_setLi (s : State) (x : Link) : (s.setLi x).li = x := rfl
@[simp] theorem State.ps_setLi (s : State) (x : Link) : (s.setLi x).ps = s.ps := rfl
@[simp] theorem State.gt_setLi (s : State) (x : Link) : (s.setLi x).gt = s.gt := rfl
@[simp] theorem State.pr_setLi (s : State) (x : Link) : (s.setLi x).pr = s.pr := rfl
@[simp] theorem State.bg_setLi (s : State) (x : Link) : (s.setLi x).bg = s.bg := rfl
@[simp] theorem State.cs_setLi (s : State) (x : Link) : (s.setLi x).cs = s.cs := rfl
@[simp] theorem State.hs_setLi (s : State) (x : Link) : (s.setLi x).hs = s.hs := rfl
@[simp] theorem State.pl_setLi (s : State) (x : Link) : (s.setLi x).pl = s.pl := rfl
@[simp] theorem State.jg_setLi (s : State) (x : Link) : (s.setLi x).jg = s.jg := rfl
@[simp] theorem State.pt_setLi (s : State) (x : Link) : (s.setLi x).pt = s.pt := rfl
@[simp] theorem State.sm_setLi (s : State) (x : Link) : (s.setLi x).sm = s.sm := rfl
@[simp] theorem State.lines_setLi (s : State) (x : Link) : (s.setLi x).lines = s.lines := rfl
@[simp] theorem State.pending_setLi (s : State) (x : Link) : (s.setLi x).pending = s.pending := rfl

@[simp] theorem State.li_setPs (s : State) (x : Store) : (s.setPs x).li = s.li := rfl
@[simp] theorem State.ps_setPs (s : State) (x : Store) : (s.setPs x).ps = x := rfl
@[simp] theorem State.gt_setPs (s : State) (x : Store) : (s.setPs x).gt = s.gt := rfl
@[simp] theorem State.pr_setPs (s : State) (x : Store) : (s.setPs x).pr = s.pr := rfl
@[simp] theorem State.bg_setPs (s : State) (x : Store) : (s.setPs x).bg = s.bg := rfl
@[simp] theorem State.cs_setPs (s : State) (x : Store) : (s.setPs x).cs = s.cs := rfl
@[simp] theorem State.hs_setPs (s : State) (x : Store) : (s.setPs x).hs = s.hs := rfl
@[simp] theorem State.pl_setPs (s : State) (x : Store) : (s.setPs x).pl = s.pl := rfl
@[simp] theorem State.jg_setPs (s : State) (x : Store) : (s.setPs x).jg = s.jg := rfl
@[simp] theorem State.pt_setPs (s : State) (x : Store) : (s.setPs x).pt = s.pt := rfl
@[simp] theorem State.sm_setPs (s : State) (x : Store) : (s.setPs x).sm = s.sm := rfl
@[simp] theorem State.lines_setPs (s : State) (x : Store) : (s.setPs x).lines = s.lines := rfl
@[simp] theorem State.pending_setPs (s : State) (x : Store) : (s.setPs x).pending = s.pending := rfl

@[simp] theorem State.li_setGt (s : State) (x : Tracker) : (s.setGt x).li = s.li := rfl
@[simp] theorem State.ps_setGt (s : State) (x : Tracker) : (s.setGt x).ps = s.ps := rfl
@[simp] theorem State.gt_setGt (s : State) (x : Tracker) : (s.setGt x).gt = x := rfl
@[simp] theorem State.pr_setGt (s : State) (x : Tracker) : (s.setGt x).pr = s.pr := rfl
@[simp] theorem State.bg_setGt (s : State) (x : Tracker) : (s.setGt x).bg = s.bg := rfl
@[simp] theorem State.cs_setGt (s : State) (x : Tracker) : (s.setGt x).cs = s.cs := rfl
@[simp] theorem State.hs_setGt (s : State) (x : Tracker) : (s.setGt x).hs = s.hs := rfl
@[simp] theorem State.pl_setGt (s : State) (x : Tracker) : (s.setGt x).pl = s.pl := rfl
@[simp] theorem State.jg_setGt (s : State) (x : Tracker) : (s.setGt x).jg = s.jg := rfl
@[simp] theorem State.pt_setGt (s : State) (x : Tracker) : (s.setGt x).pt = s.pt := rfl
@[simp] theorem State.sm_setGt (s : State) (x : Tracker) : (s.setGt x).sm = s.sm := rfl
@[simp] theorem State.lines_setGt (s : State) (x : Tracker) : (s.setGt x).lines = s.lines := rfl
@[simp] theorem State.pending_setGt (s : State) (x : Tracker) : (s.setGt x).pending = s.pending := rfl

@[simp] theorem State.li_setPr (s : State) (x : Runner) : (s.setPr x).li = s.li := rfl
@[simp] theorem State.ps_setPr (s : State) (x : Runner) : (s.setPr x).ps = s.ps := rfl
@[simp] theorem State.gt_setPr (s : State) (x : Runner) : (s.setPr x).gt = s.gt := rfl
@[simp] theorem State.pr_setPr (s : State) (x : Runner) : (s.setPr x).pr = x := rfl
@[simp] theorem State.bg_setPr (s : State) (x : Runner) : (s.setPr x).bg = s.bg := rfl
@[simp] theorem State.cs_setPr (s : State) (x : Runner) : (s.setPr x).cs = s.cs := rfl
@[simp] theorem State.hs_setPr (s : State) (x : Runner) : (s.setPr x).hs = s.hs := rfl
@[simp] theorem State.pl_setPr (s : State) (x : Runner) : (s.setPr x).pl = s.pl := rfl
@[simp] theorem State.jg_setPr (s : State) (x : Runner) : (s.setPr x).jg = s.jg := rfl
@[simp] theorem State.pt_setPr (s : State) (x : Runner) : (s.setPr x).pt = s.pt := rfl
@[simp] theorem State.sm_setPr (s : State) (x : Runner) : (s.setPr x).sm = s.sm := rfl
@[simp] theorem State.lines_setPr (s : State) (x : Runner) : (s.setPr x).lines = s.lines := rfl
@[simp] theorem State.pending_setPr (s : State) (x : Runner) : (s.setPr x).pending = s.pending := rfl

@[simp] theorem State.li_setBg (s : State) (x : Gauge) : (s.setBg x).li = s.li := rfl
@[simp] theorem State.ps_setBg (s : State) (x : Gauge) : (s.setBg x).ps = s.ps := rfl
@[simp] theorem State.gt_setBg (s : State) (x : Gauge) : (s.setBg x).gt = s.gt := rfl
@[simp] theorem State.pr_setBg (s : State) (x : Gauge) : (s.setBg x).pr = s.pr := rfl
@[simp] theorem State.bg_setBg (s : State) (x : Gauge) : (s.setBg x).bg = x := rfl
@[simp] theorem State.cs_setBg (s : State) (x : Gauge) : (s.setBg x).cs = s.cs := rfl
@[simp] theorem State.hs_setBg (s : State) (x : Gauge) : (s.setBg x).hs = s.hs := rfl
@[simp] theorem State.pl_setBg (s : State) (x : Gauge) : (s.setBg x).pl = s.pl := rfl
@[simp] theorem State.jg_setBg (s : State) (x : Gauge) : (s.setBg x).jg = s.jg := rfl
@[simp] theorem State.pt_setBg (s : State) (x : Gauge) : (s.setBg x).pt = s.pt := rfl
@[simp] theorem State.sm_setBg (s : State) (x : Gauge) : (s.setBg x).sm = s.sm := rfl
@[simp] theorem State.lines_setBg (s : State) (x : Gauge) : (s.setBg x).lines = s.lines := rfl
@[simp] theorem State.pending_setBg (s : State) (x : Gauge) : (s.setBg x).pending = s.pending := rfl

@[simp] theorem State.li_setCs (s : State) (x : CutStation) : (s.setCs x).li = s.li := rfl
@[simp] theorem State.ps_setCs (s : State) (x : CutStation) : (s.setCs x).ps = s.ps := rfl
@[simp] theorem State.gt_setCs (s : State) (x : CutStation) : (s.setCs x).gt = s.gt := rfl
@[simp] theorem State.pr_setCs (s : State) (x : CutStation) : (s.setCs x).pr = s.pr := rfl
@[simp] theorem State.bg_setCs (s : State) (x : CutStation) : (s.setCs x).bg = s.bg := rfl
@[simp] theorem State.cs_setCs (s : State) (x : CutStation) : (s.setCs x).cs = x := rfl
@[simp] theorem State.hs_setCs (s : State) (x : CutStation) : (s.setCs x).hs = s.hs := rfl
@[simp] theorem State.pl_setCs (s : State) (x : CutStation) : (s.setCs x).pl = s.pl := rfl
@[simp] theorem State.jg_setCs (s : State) (x : CutStation) : (s.setCs x).jg = s.jg := rfl
@[simp] theorem State.pt_setCs (s : State) (x : CutStation) : (s.setCs x).pt = s.pt := rfl
@[simp] theorem State.sm_setCs (s : State) (x : CutStation) : (s.setCs x).sm = s.sm := rfl
@[simp] theorem State.lines_setCs (s : State) (x : CutStation) : (s.setCs x).lines = s.lines := rfl
@[simp] theorem State.pending_setCs (s : State) (x : CutStation) : (s.setCs x).pending = s.pending := rfl

@[simp] theorem State.li_setHs (s : State) (x : Supply) : (s.setHs x).li = s.li := rfl
@[simp] theorem State.ps_setHs (s : State) (x : Supply) : (s.setHs x).ps = s.ps := rfl
@[simp] theorem State.gt_setHs (s : State) (x : Supply) : (s.setHs x).gt = s.gt := rfl
@[simp] theorem State.pr_setHs (s : State) (x : Supply) : (s.setHs x).pr = s.pr := rfl
@[simp] theorem State.bg_setHs (s : State) (x : Supply) : (s.setHs x).bg = s.bg := rfl
@[simp] theorem State.cs_setHs (s : State) (x : Supply) : (s.setHs x).cs = s.cs := rfl
@[simp] theorem State.hs_setHs (s : State) (x : Supply) : (s.setHs x).hs = x := rfl
@[simp] theorem State.pl_setHs (s : State) (x : Supply) : (s.setHs x).pl = s.pl := rfl
@[simp] theorem State.jg_setHs (s : State) (x : Supply) : (s.setHs x).jg = s.jg := rfl
@[simp] theorem State.pt_setHs (s : State) (x : Supply) : (s.setHs x).pt = s.pt := rfl
@[simp] theorem State.sm_setHs (s : State) (x : Supply) : (s.setHs x).sm = s.sm := rfl
@[simp] theorem State.lines_setHs (s : State) (x : Supply) : (s.setHs x).lines = s.lines := rfl
@[simp] theorem State.pending_setHs (s : State) (x : Supply) : (s.setHs x).pending = s.pending := rfl

@[simp] theorem State.li_setPl (s : State) (x : Lift) : (s.setPl x).li = s.li := rfl
@[simp] theorem State.ps_setPl (s : State) (x : Lift) : (s.setPl x).ps = s.ps := rfl
@[simp] theorem State.gt_setPl (s : State) (x : Lift) : (s.setPl x).gt = s.gt := rfl
@[simp] theorem State.pr_setPl (s : State) (x : Lift) : (s.setPl x).pr = s.pr := rfl
@[simp] theorem State.bg_setPl (s : State) (x : Lift) : (s.setPl x).bg = s.bg := rfl
@[simp] theorem State.cs_setPl (s : State) (x : Lift) : (s.setPl x).cs = s.cs := rfl
@[simp] theorem State.hs_setPl (s : State) (x : Lift) : (s.setPl x).hs = s.hs := rfl
@[simp] theorem State.pl_setPl (s : State) (x : Lift) : (s.setPl x).pl = x := rfl
@[simp] theorem State.jg_setPl (s : State) (x : Lift) : (s.setPl x).jg = s.jg := rfl
@[simp] theorem State.pt_setPl (s : State) (x : Lift) : (s.setPl x).pt = s.pt := rfl
@[simp] theorem State.sm_setPl (s : State) (x : Lift) : (s.setPl x).sm = s.sm := rfl
@[simp] theorem State.lines_setPl (s : State) (x : Lift) : (s.setPl x).lines = s.lines := rfl
@[simp] theorem State.pending_setPl (s : State) (x : Lift) : (s.setPl x).pending = s.pending := rfl

@[simp] theorem State.li_setJg (s : State) (x : Jogger) : (s.setJg x).li = s.li := rfl
@[simp] theorem State.ps_setJg (s : State) (x : Jogger) : (s.setJg x).ps = s.ps := rfl
@[simp] theorem State.gt_setJg (s : State) (x : Jogger) : (s.setJg x).gt = s.gt := rfl
@[simp] theorem State.pr_setJg (s : State) (x : Jogger) : (s.setJg x).pr = s.pr := rfl
@[simp] theorem State.bg_setJg (s : State) (x : Jogger) : (s.setJg x).bg = s.bg := rfl
@[simp] theorem State.cs_setJg (s : State) (x : Jogger) : (s.setJg x).cs = s.cs := rfl
@[simp] theorem State.hs_setJg (s : State) (x : Jogger) : (s.setJg x).hs = s.hs := rfl
@[simp] theorem State.pl_setJg (s : State) (x : Jogger) : (s.setJg x).pl = s.pl := rfl
@[simp] theorem State.jg_setJg (s : State) (x : Jogger) : (s.setJg x).jg = x := rfl
@[simp] theorem State.pt_setJg (s : State) (x : Jogger) : (s.setJg x).pt = s.pt := rfl
@[simp] theorem State.sm_setJg (s : State) (x : Jogger) : (s.setJg x).sm = s.sm := rfl
@[simp] theorem State.lines_setJg (s : State) (x : Jogger) : (s.setJg x).lines = s.lines := rfl
@[simp] theorem State.pending_setJg (s : State) (x : Jogger) : (s.setJg x).pending = s.pending := rfl

@[simp] theorem State.li_setPt (s : State) (x : Turner) : (s.setPt x).li = s.li := rfl
@[simp] theorem State.ps_setPt (s : State) (x : Turner) : (s.setPt x).ps = s.ps := rfl
@[simp] theorem State.gt_setPt (s : State) (x : Turner) : (s.setPt x).gt = s.gt := rfl
@[simp] theorem State.pr_setPt (s : State) (x : Turner) : (s.setPt x).pr = s.pr := rfl
@[simp] theorem State.bg_setPt (s : State) (x : Turner) : (s.setPt x).bg = s.bg := rfl
@[simp] theorem State.cs_setPt (s : State) (x : Turner) : (s.setPt x).cs = s.cs := rfl
@[simp] theorem State.hs_setPt (s : State) (x : Turner) : (s.setPt x).hs = s.hs := rfl
@[simp] theorem State.pl_setPt (s : State) (x : Turner) : (s.setPt x).pl = s.pl := rfl
@[simp] theorem State.jg_setPt (s : State) (x : Turner) : (s.setPt x).jg = s.jg := rfl
@[simp] theorem State.pt_setPt (s : State) (x : Turner) : (s.setPt x).pt = x := rfl
@[simp] theorem State.sm_setPt (s : State) (x : Turner) : (s.setPt x).sm = s.sm := rfl
@[simp] theorem State.lines_setPt (s : State) (x : Turner) : (s.setPt x).lines = s.lines := rfl
@[simp] theorem State.pending_setPt (s : State) (x : Turner) : (s.setPt x).pending = s.pending := rfl

@[simp] theorem State.li_setSm (s : State) (x : Monitor) : (s.setSm x).li = s.li := rfl
@[simp] theorem State.ps_setSm (s : State) (x : Monitor) : (s.setSm x).ps = s.ps := rfl
@[simp] theorem State.gt_setSm (s : State) (x : Monitor) : (s.setSm x).gt = s.gt := rfl
@[simp] theorem State.pr_setSm (s : State) (x : Monitor) : (s.setSm x).pr = s.pr := rfl
@[simp] theorem State.bg_setSm (s : State) (x : Monitor) : (s.setSm x).bg = s.bg := rfl
@[simp] theorem State.cs_setSm (s : State) (x : Monitor) : (s.setSm x).cs = s.cs := rfl
@[simp] theorem State.hs_setSm (s : State) (x : Monitor) : (s.setSm x).hs = s.hs := rfl
@[simp] theorem State.pl_setSm (s : State) (x : Monitor) : (s.setSm x).pl = s.pl := rfl
@[simp] theorem State.jg_setSm (s : State) (x : Monitor) : (s.setSm x).jg = s.jg := rfl
@[simp] theorem State.pt_setSm (s : State) (x : Monitor) : (s.setSm x).pt = s.pt := rfl
@[simp] theorem State.sm_setSm (s : State) (x : Monitor) : (s.setSm x).sm = x := rfl
@[simp] theorem State.lines_setSm (s : State) (x : Monitor) : (s.setSm x).lines = s.lines := rfl
@[simp] theorem State.pending_setSm (s : State) (x : Monitor) : (s.setSm x).pending = s.pending := rfl

@[simp] theorem State.li_setLines (s : State) (x : Lines) : (s.setLines x).li = s.li := rfl
@[simp] theorem State.ps_setLines (s : State) (x : Lines) : (s.setLines x).ps = s.ps := rfl
@[simp] theorem State.gt_setLines (s : State) (x : Lines) : (s.setLines x).gt = s.gt := rfl
@[simp] theorem State.pr_setLines (s : State) (x : Lines) : (s.setLines x).pr = s.pr := rfl
@[simp] theorem State.bg_setLines (s : State) (x : Lines) : (s.setLines x).bg = s.bg := rfl
@[simp] theorem State.cs_setLines (s : State) (x : Lines) : (s.setLines x).cs = s.cs := rfl
@[simp] theorem State.hs_setLines (s : State) (x : Lines) : (s.setLines x).hs = s.hs := rfl
@[simp] theorem State.pl_setLines (s : State) (x : Lines) : (s.setLines x).pl = s.pl := rfl
@[simp] theorem State.jg_setLines (s : State) (x : Lines) : (s.setLines x).jg = s.jg := rfl
@[simp] theorem State.pt_setLines (s : State) (x : Lines) : (s.setLines x).pt = s.pt := rfl
@[simp] theorem State.sm_setLines (s : State) (x : Lines) : (s.setLines x).sm = s.sm := rfl
@[simp] theorem State.lines_setLines (s : State) (x : Lines) : (s.setLines x).lines = x := rfl
@[simp] theorem State.pending_setLines (s : State) (x : Lines) : (s.setLines x).pending = s.pending := rfl

@[simp] theorem State.li_setPending (s : State) (x : List Instr) : (s.setPending x).li = s.li := rfl
@[simp] theorem State.ps_setPending (s : State) (x : List Instr) : (s.setPending x).ps = s.ps := rfl
@[simp] theorem State.gt_setPending (s : State) (x : List Instr) : (s.setPending x).gt = s.gt := rfl
@[simp] theorem State.pr_setPending (s : State) (x : List Instr) : (s.setPending x).pr = s.pr := rfl
@[simp] theorem State.bg_setPending (s : State) (x : List Instr) : (s.setPending x).bg = s.bg := rfl
@[simp] theorem State.cs_setPending (s : State) (x : List Instr) : (s.setPending x).cs = s.cs := rfl
@[simp] theorem State.hs_setPending (s : State) (x : List Instr) : (s.setPending x).hs = s.hs := rfl
@[simp] theorem State.pl_setPending (s : State) (x : List Instr) : (s.setPending x).pl = s.pl := rfl
@[simp] theorem State.jg_setPending (s : State) (x : List Instr) : (s.setPending x).jg = s.jg := rfl
@[simp] theorem State.pt_setPending (s : State) (x : List Instr) : (s.setPending x).pt = s.pt := rfl
@[simp] theorem State.sm_setPending (s : State) (x : List Instr) : (s.setPending x).sm = s.sm := rfl
@[simp] theorem State.lines_setPending (s : State) (x : List Instr) : (s.setPending x).lines = s.lines := rfl
@[simp] theorem State.pending_setPending (s : State) (x : List Instr) : (s.setPending x).pending = x := rfl

@[simp] theorem State.setLi_self (s : State) : s.setLi s.li = s := rfl
@[simp] theorem State.setLi_twice (s : State) (x y : Link) :
    (s.setLi x).setLi y = s.setLi y := rfl
@[simp] theorem State.setPs_self (s : State) : s.setPs s.ps = s := rfl
@[simp] theorem State.setPs_twice (s : State) (x y : Store) :
    (s.setPs x).setPs y = s.setPs y := rfl
@[simp] theorem State.setGt_self (s : State) : s.setGt s.gt = s := rfl
@[simp] theorem State.setGt_twice (s : State) (x y : Tracker) :
    (s.setGt x).setGt y = s.setGt y := rfl
@[simp] theorem State.setPr_self (s : State) : s.setPr s.pr = s := rfl
@[simp] theorem State.setPr_twice (s : State) (x y : Runner) :
    (s.setPr x).setPr y = s.setPr y := rfl
@[simp] theorem State.setBg_self (s : State) : s.setBg s.bg = s := rfl
@[simp] theorem State.setBg_twice (s : State) (x y : Gauge) :
    (s.setBg x).setBg y = s.setBg y := rfl
@[simp] theorem State.setCs_self (s : State) : s.setCs s.cs = s := rfl
@[simp] theorem State.setCs_twice (s : State) (x y : CutStation) :
    (s.setCs x).setCs y = s.setCs y := rfl
@[simp] theorem State.setHs_self (s : State) : s.setHs s.hs = s := rfl
@[simp] theorem State.setHs_twice (s : State) (x y : Supply) :
    (s.setHs x).setHs y = s.setHs y := rfl
@[simp] theorem State.setPl_self (s : State) : s.setPl s.pl = s := rfl
@[simp] theorem State.setPl_twice (s : State) (x y : Lift) :
    (s.setPl x).setPl y = s.setPl y := rfl
@[simp] theorem State.setJg_self (s : State) : s.setJg s.jg = s := rfl
@[simp] theorem State.setJg_twice (s : State) (x y : Jogger) :
    (s.setJg x).setJg y = s.setJg y := rfl
@[simp] theorem State.setPt_self (s : State) : s.setPt s.pt = s := rfl
@[simp] theorem State.setPt_twice (s : State) (x y : Turner) :
    (s.setPt x).setPt y = s.setPt y := rfl
@[simp] theorem State.setSm_self (s : State) : s.setSm s.sm = s := rfl
@[simp] theorem State.setSm_twice (s : State) (x y : Monitor) :
    (s.setSm x).setSm y = s.setSm y := rfl
@[simp] theorem State.setLines_self (s : State) : s.setLines s.lines = s := rfl
@[simp] theorem State.setLines_twice (s : State) (x y : Lines) :
    (s.setLines x).setLines y = s.setLines y := rfl
@[simp] theorem State.setPending_self (s : State) : s.setPending s.pending = s := rfl
@[simp] theorem State.setPending_twice (s : State) (x y : List Instr) :
    (s.setPending x).setPending y = s.setPending y := rfl

end Sys2Proof.Machine
end

