-- ==== Sys2Proof/Laws/Kept.lean ====
section
/-! SUPPORT. `Kept L s t`: what the blocks never do to each other on the way from s to t. The store, the Safety Monitor,
the lines and the waiting commands stay; the link only gains notices; the laws of the Runner's program, the gauge, the
supply and the pile are kept; and, under L, a Runner that is not IDLE stays so. Each lemma carries it past one update:
an operation that may take the Runner to IDLE has it for L false only, and one that takes a Runner somewhere that needs
a program asks that it is not IDLE before (`Live`). -/

namespace Sys2Proof.Machine

/-- What an operation of the machine side leaves alone, and the laws it keeps. -/
structure Kept (L : Prop) (s t : State) : Prop where
  ps : t.ps = s.ps
  sm : t.sm = s.sm
  lines : t.lines = s.lines
  pending : t.pending = s.pending
  receiver : t.li.receiver = s.li.receiver
  queue : t.li.queue = s.li.queue
  busy : t.li.busy = s.li.busy
  mask : t.li.mask = s.li.mask
  line : t.li.line = s.li.line
  notices : ∃ more, t.li.notices = s.li.notices ++ more
  room : s.li.notices.length ≤ Config.noticePlaces → t.li.notices.length ≤ Config.noticePlaces
  lost : s.li.lost ≤ 65535 → t.li.lost ≤ 65535
  runner : progLookup s.ps.programs 0 = none → RunnerOk s.pr s.ps.programs → RunnerOk t.pr t.ps.programs
  gauge : GaugeOk s.bg → GaugeOk t.bg
  supply : SupplyOk s.hs → SupplyOk t.hs
  pile : PileOk s.pl → PileOk t.pl
  live : L → s.pr.state ≠ .idle → t.pr.state ≠ .idle

/-- The Runner is not IDLE, and what follows leaves it so. -/
abbrev Live (L : Prop) (s : State) : Prop := L ∧ s.pr.state ≠ .idle

theorem Kept.refl (L : Prop) (s : State) : Kept L s s :=
  ⟨rfl, rfl, rfl, rfl, rfl, rfl, rfl, rfl, rfl, ⟨[], by simp⟩, id, id, fun _ => id, id, id, id, fun _ => id⟩

theorem Kept.trans {L : Prop} {r s t : State} (h : Kept L r s) (k : Kept L s t) : Kept L r t where
  ps := k.ps.trans h.ps
  sm := k.sm.trans h.sm
  lines := k.lines.trans h.lines
  pending := k.pending.trans h.pending
  receiver := k.receiver.trans h.receiver
  queue := k.queue.trans h.queue
  busy := k.busy.trans h.busy
  mask := k.mask.trans h.mask
  line := k.line.trans h.line
  notices := by
    obtain ⟨a, ha⟩ := h.notices
    obtain ⟨b, hb⟩ := k.notices
    exact ⟨a ++ b, by rw [hb, ha, List.append_assoc]⟩
  room := k.room ∘ h.room
  lost := k.lost ∘ h.lost
  runner := fun e => k.runner (h.ps ▸ e) ∘ h.runner e
  gauge := k.gauge ∘ h.gauge
  supply := k.supply ∘ h.supply
  pile := k.pile ∘ h.pile
  live := fun l => k.live l ∘ h.live l

/-- What leaves a Runner alive may follow anything. -/
theorem Kept.after {L : Prop} {r s t : State} (h : Kept L r s) (k : Kept True s t) : Kept L r t :=
  h.trans { k with live := fun _ => k.live trivial }

/-! ### One update -/

variable {L : Prop} {s0 s : State}

theorem kept_setGt {x : Tracker} (h : Kept L s0 s) : Kept L s0 (s.setGt x) :=
  h.trans ⟨rfl, rfl, rfl, rfl, rfl, rfl, rfl, rfl, rfl, ⟨[], by simp⟩, id, id, fun _ => id, id, id, id, fun _ => id⟩

theorem kept_setCs {x : CutStation} (h : Kept L s0 s) : Kept L s0 (s.setCs x) :=
  h.trans ⟨rfl, rfl, rfl, rfl, rfl, rfl, rfl, rfl, rfl, ⟨[], by simp⟩, id, id, fun _ => id, id, id, id, fun _ => id⟩

theorem kept_setJg {x : Jogger} (h : Kept L s0 s) : Kept L s0 (s.setJg x) :=
  h.trans ⟨rfl, rfl, rfl, rfl, rfl, rfl, rfl, rfl, rfl, ⟨[], by simp⟩, id, id, fun _ => id, id, id, id, fun _ => id⟩

theorem kept_setPt {x : Turner} (h : Kept L s0 s) : Kept L s0 (s.setPt x) :=
  h.trans ⟨rfl, rfl, rfl, rfl, rfl, rfl, rfl, rfl, rfl, ⟨[], by simp⟩, id, id, fun _ => id, id, id, id, fun _ => id⟩

theorem kept_setPr_of {x : Runner}
    (hx : progLookup s.ps.programs 0 = none → RunnerOk s.pr s.ps.programs → RunnerOk x s.ps.programs)
    (hl : L → s.pr.state ≠ .idle → x.state ≠ .idle) (h : Kept L s0 s) : Kept L s0 (s.setPr x) :=
  h.trans ⟨rfl, rfl, rfl, rfl, rfl, rfl, rfl, rfl, rfl, ⟨[], by simp⟩, id, id, hx, id, id, id, hl⟩

/-- The Runner keeps its program, and stays IDLE or stays out of it. -/
theorem kept_setPr {x : Runner} (h : Kept L s0 s) (hp : x.program = s.pr.program)
    (hi : x.state = .idle ↔ s.pr.state = .idle) : Kept L s0 (s.setPr x) :=
  kept_setPr_of (fun _ ok => by rw [RunnerOk, hp, hi]; exact ok) (fun _ => mt hi.1) h

/-- A Runner that is not IDLE keeps its program. -/
theorem kept_setPr_live {x : Runner} (hr : Live L s0) (h : Kept L s0 s) (hp : x.program = s.pr.program)
    (hx : x.state ≠ .idle) : Kept L s0 (s.setPr x) :=
  kept_setPr h hp ⟨fun e => absurd e hx, fun e => absurd e (h.live hr.1 hr.2)⟩

/-- The Runner without a program, in IDLE. -/
theorem kept_setPr_none {x : Runner} (h : Kept False s0 s) (hp : x.program = 0) (hx : x.state = .idle) :
    Kept False s0 (s.setPr x) :=
  kept_setPr_of (fun _ _ => ⟨⟨fun _ => hp, fun _ => hx⟩, fun e => absurd hp e⟩) nofun h

theorem kept_setBg {x : Gauge} (h : Kept L s0 s) (hx : GaugeOk s.bg → GaugeOk x) : Kept L s0 (s.setBg x) :=
  h.trans ⟨rfl, rfl, rfl, rfl, rfl, rfl, rfl, rfl, rfl, ⟨[], by simp⟩, id, id, fun _ => id, hx, id, id, fun _ => id⟩

theorem kept_setHs {x : Supply} (h : Kept L s0 s) (hx : SupplyOk s.hs → SupplyOk x) : Kept L s0 (s.setHs x) :=
  h.trans ⟨rfl, rfl, rfl, rfl, rfl, rfl, rfl, rfl, rfl, ⟨[], by simp⟩, id, id, fun _ => id, id, hx, id, fun _ => id⟩

theorem kept_setPl {x : Lift} (h : Kept L s0 s) (hx : PileOk s.pl → PileOk x) : Kept L s0 (s.setPl x) :=
  h.trans ⟨rfl, rfl, rfl, rfl, rfl, rfl, rfl, rfl, rfl, ⟨[], by simp⟩, id, id, fun _ => id, id, id, hx, fun _ => id⟩

/-- The lift keeps its pile record, and starts no initial raise. -/
theorem kept_setPl_same {x : Lift} (h : Kept L s0 s) (hp : x.pile = s.pl.pile)
    (hr : x.raising = some .initial → s.pl.raising = some .initial) : Kept L s0 (s.setPl x) :=
  kept_setPl h fun ok => ⟨by rw [hp]; exact ok.law, fun e => by rw [hp]; exact ok.initial (hr e)⟩

/-! ### Refusals (R8) -/

/-- No condition of a list that refuses nothing holds. -/
theorem firstRefusal_cons {c : Bool} {st : Status} {rest : List (Bool × Status)}
    (h : firstRefusal ((c, st) :: rest) = none) : c = false ∧ firstRefusal rest = none := by
  unfold firstRefusal at h
  cases c
  · exact ⟨rfl, h⟩
  · cases h

/-! ### Notices (R9) -/

/-- All a raised notice can do to the link (R9). -/
theorem Link.raise_eq (l : Link) (k : NoticeKind) (body : List Byte) :
    (l.raise k body = l) ∨
      (l.notices.length < Config.noticePlaces ∧
        l.raise k body = { l with notices := l.notices ++ [noticeFrame k body] }) ∨
      (l.raise k body = { l with lost := min 65535 (l.lost + 1) }) := by
  unfold Link.raise
  split
  · exact .inl rfl
  · split
    · exact .inr (.inl ⟨‹_›, rfl⟩)
    · exact .inr (.inr rfl)

theorem kept_raise (k : NoticeKind) (body : List Byte) (h : Kept L s0 s) : Kept L s0 (s.raise k body) := by
  refine h.trans ?_
  unfold State.raise
  obtain e | ⟨room, e⟩ | e := s.li.raise_eq k body <;> rw [e]
  · exact Kept.refl L s
  · exact ⟨rfl, rfl, rfl, rfl, rfl, rfl, rfl, rfl, rfl, ⟨[noticeFrame k body], rfl⟩,
      fun _ => by simpa using room, id, fun _ => id, id, id, id, fun _ => id⟩
  · exact ⟨rfl, rfl, rfl, rfl, rfl, rfl, rfl, rfl, rfl, ⟨[], by simp⟩, id,
      fun _ => Nat.min_le_left _ _, fun _ => id, id, id, id, fun _ => id⟩

@[simp] theorem State.raise_ps (k : NoticeKind) (b : List Byte) : (s.raise k b).ps = s.ps := rfl
@[simp] theorem State.raise_gt (k : NoticeKind) (b : List Byte) : (s.raise k b).gt = s.gt := rfl
@[simp] theorem State.raise_pr (k : NoticeKind) (b : List Byte) : (s.raise k b).pr = s.pr := rfl
@[simp] theorem State.raise_bg (k : NoticeKind) (b : List Byte) : (s.raise k b).bg = s.bg := rfl
@[simp] theorem State.raise_cs (k : NoticeKind) (b : List Byte) : (s.raise k b).cs = s.cs := rfl
@[simp] theorem State.raise_hs (k : NoticeKind) (b : List Byte) : (s.raise k b).hs = s.hs := rfl
@[simp] theorem State.raise_pl (k : NoticeKind) (b : List Byte) : (s.raise k b).pl = s.pl := rfl
@[simp] theorem State.raise_jg (k : NoticeKind) (b : List Byte) : (s.raise k b).jg = s.jg := rfl
@[simp] theorem State.raise_pt (k : NoticeKind) (b : List Byte) : (s.raise k b).pt = s.pt := rfl
@[simp] theorem State.raise_sm (k : NoticeKind) (b : List Byte) : (s.raise k b).sm = s.sm := rfl
@[simp] theorem State.raise_lines (k : NoticeKind) (b : List Byte) : (s.raise k b).lines = s.lines := rfl
@[simp] theorem State.raise_pending (k : NoticeKind) (b : List Byte) : (s.raise k b).pending = s.pending := rfl

end Sys2Proof.Machine
end

