-- ==== Sys2Proof/Laws/KeptTracker.lean ====
section
/-! SUPPORT. What the operations of the Geometry Tracker leave alone (`Kept`), one lemma each. -/

set_option linter.unreachableTactic false
set_option linter.unusedTactic false

namespace Sys2Proof.Machine

variable {L : Prop} {s0 s : State}

theorem kept_warn (k : WarningKind) (loadId step iter : Nat) (detail : Int) (h : Kept L s0 s) : Kept L s0 (s.warn k loadId step iter detail) := by
  unfold State.warn
  repeat' first
    | with_reducible assumption | with_reducible apply kept_raise | exact fun _ k => k | intro _ | dsimp only
    | split

theorem kept_plainWarning (k : WarningKind) (loadId : Nat) (detail : Int) (h : Kept L s0 s) : Kept L s0 (s.plainWarning k loadId detail) := by
  unfold State.plainWarning
  repeat' first
    | with_reducible assumption | with_reducible apply kept_warn | exact fun _ k => k | intro _ | dsimp only
    | split

theorem kept_loadWarning (k : WarningKind) (detail : Int) (h : Kept L s0 s) : Kept L s0 (s.loadWarning k detail) := by
  unfold State.loadWarning
  repeat' first
    | with_reducible assumption | with_reducible apply kept_warn | with_reducible apply kept_setGt
    | exact fun _ k => k | intro _ | dsimp only | split

theorem kept_warnSaturated (x : Target) (h : Kept L s0 s) : Kept L s0 (s.warnSaturated x) := by
  unfold State.warnSaturated
  repeat' first
    | with_reducible assumption | with_reducible apply kept_loadWarning | exact fun _ k => k | intro _
    | dsimp only | split

theorem kept_openWith (w ls : Nat) (q : Fin 4) (hh : Option Nat) (h : Kept L s0 s) : Kept L s0 (s.openWith w ls q hh) := by
  unfold State.openWith
  repeat' first
    | with_reducible assumption | with_reducible apply kept_setGt | exact fun _ k => k | intro _ | dsimp only
    | split

theorem kept_endLoad (abandoned : Bool) (areaLeft : Nat) (h : Kept L s0 s) : Kept L s0 (s.endLoad abandoned areaLeft) := by
  unfold State.endLoad
  repeat' first
    | with_reducible assumption | with_reducible apply kept_setGt | with_reducible apply kept_raise
    | exact fun _ k => k | intro _ | dsimp only | split

theorem kept_checkSize (l d : Nat) (h : Kept L s0 s) : Kept L s0 (s.checkSize l d) := by
  unfold State.checkSize
  repeat' first
    | with_reducible assumption | with_reducible apply kept_loadWarning | exact fun _ k => k | intro _
    | dsimp only | split

theorem kept_dispose (d : Disposition) (p : Piece) (h : Kept L s0 s) : Kept L s0 (s.dispose d p) := by
  unfold State.dispose
  repeat' first
    | with_reducible assumption | with_reducible apply kept_checkSize | with_reducible apply kept_setGt
    | exact fun _ k => k | intro _ | dsimp only | split

theorem kept_eject (d : Disposition) (h : Kept L s0 s) : Kept L s0 (s.eject d) := by
  unfold State.eject
  repeat' first
    | with_reducible assumption | with_reducible apply kept_dispose | with_reducible apply kept_endLoad
    | with_reducible apply kept_setGt | exact fun _ k => k | intro _ | dsimp only | split

theorem kept_recallTop (h : Kept L s0 s) : Kept L s0 s.recallTop := by
  unfold State.recallTop
  repeat' first
    | with_reducible assumption | with_reducible apply kept_setGt | exact fun _ k => k | intro _ | dsimp only
    | split

theorem kept_applyTurn (tracked : Bool) (loadId n : Nat) (h : Kept L s0 s) : Kept L s0 (s.applyTurn tracked loadId n) := by
  unfold State.applyTurn
  repeat' first
    | with_reducible assumption | with_reducible apply kept_setGt | exact fun _ k => k | intro _ | dsimp only
    | split

theorem kept_cycleNotice (c : Cycle) (o : Outcome) (strip : Rect) (q : Fin 4) (h : Kept L s0 s) : Kept L s0 (s.cycleNotice c o strip q) := by
  unfold State.cycleNotice
  repeat' first
    | with_reducible assumption | with_reducible apply kept_raise | exact fun _ k => k | intro _ | dsimp only
    | split

theorem kept_warnHeight (t : TableLoad) (m : Nat) (h : Kept L s0 s) : Kept L s0 (s.warnHeight t m) := by
  unfold State.warnHeight
  repeat' first
    | with_reducible assumption | with_reducible apply kept_loadWarning | exact fun _ k => k | intro _
    | dsimp only | split

theorem kept_cutStrip (t : TableLoad) (c : Cycle) (h : Kept L s0 s) : Kept L s0 (s.cutStrip t c) := by
  unfold State.cutStrip
  repeat' first
    | with_reducible assumption | with_reducible apply kept_warnHeight | with_reducible apply kept_dispose
    | with_reducible apply kept_cycleNotice | with_reducible apply kept_setGt | exact fun _ k => k | intro _
    | dsimp only | split

theorem kept_applyCut (c : Cycle) (h : Kept L s0 s) : Kept L s0 (s.applyCut c) := by
  unfold State.applyCut
  repeat' first
    | with_reducible assumption | with_reducible apply kept_cutStrip | with_reducible apply kept_cycleNotice
    | exact fun _ k => k | intro _ | dsimp only | split

theorem kept_applyAborted (c : Cycle) (h : Kept L s0 s) : Kept L s0 (s.applyAborted c) := by
  unfold State.applyAborted
  repeat' first
    | with_reducible assumption | with_reducible apply kept_loadWarning
    | with_reducible apply kept_cycleNotice | with_reducible apply kept_setGt | exact fun _ k => k | intro _
    | dsimp only | split

theorem kept_decideTrackQuery (body : List Byte) (h : Kept L s0 s) : Kept L s0 (decideTrackQuery body s).1 := by
  unfold decideTrackQuery
  try dsimp only [refuse, take]
  repeat' first
    | with_reducible assumption | exact fun _ k => k | intro _ | dsimp only | split

theorem kept_decideTrackDeclare (body : List Byte) (h : Kept L s0 s) : Kept L s0 (decideTrackDeclare body s).1 := by
  unfold decideTrackDeclare
  try dsimp only [refuse, take]
  repeat' first
    | with_reducible assumption | with_reducible apply kept_openWith | exact fun _ k => k | intro _
    | dsimp only | split

theorem kept_decideTrackClear (h : Kept L s0 s) : Kept L s0 (decideTrackClear s).1 := by
  unfold decideTrackClear
  try dsimp only [refuse, take]
  repeat' first
    | with_reducible assumption | with_reducible apply kept_endLoad | with_reducible apply kept_setGt
    | exact fun _ k => k | intro _ | dsimp only | split

end Sys2Proof.Machine
end

