-- ==== Sys2Proof/Laws/KeptRunnerCore.lean ====
section
/-! SUPPORT. What the operations of what every block needs of the Runner leave alone (`Kept`), one lemma each. -/

set_option linter.unreachableTactic false
set_option linter.unusedTactic false

namespace Sys2Proof.Machine

variable {L : Prop} {s0 s : State}

theorem kept_owe (h : Kept L s0 s) : Kept L s0 s.owe := by
  unfold State.owe
  repeat' first
    | with_reducible assumption | with_reducible apply kept_setPr | exact rfl | exact Iff.rfl | exact fun _ k => k | intro _ | dsimp only | split

theorem kept_flush (h : Kept L s0 s) : Kept L s0 s.flush := by
  unfold State.flush
  repeat' first
    | with_reducible assumption | with_reducible apply kept_raise | with_reducible apply kept_setPr
    | exact rfl | exact Iff.rfl | exact fun _ k => k | intro _ | dsimp only | split

/-- A fault report leaves the Runner its program, and IDLE only where it was (R90). -/
theorem kept_reportFault (k : FaultKind) (detail : Int) (h : Kept L s0 s) : Kept L s0 (s.reportFault k detail) := by
  unfold State.reportFault
  refine kept_raise _ _ (kept_setPr h rfl ?_)
  simp only [State.faultedRunner]
  split
  · rename_i e
    refine ⟨nofun, fun i => ?_⟩
    simp [State.faultStops, State.runOpen, i] at e
  · exact Iff.rfl

theorem kept_toHeld (hr : Live L s0) (why : HoldReason) (h : Kept L s0 s) : Kept L s0 (s.toHeld why) :=
  kept_setPr_live hr h rfl nofun

theorem kept_goIdle (h : Kept False s0 s) : Kept False s0 s.goIdle :=
  kept_setGt (kept_setPr_none h rfl rfl)

theorem kept_runEnd (why : EndReason) (h : Kept L s0 s) : Kept L s0 (s.runEnd why) := by
  unfold State.runEnd
  repeat' first
    | with_reducible assumption | with_reducible apply kept_raise | exact fun _ k => k | intro _ | dsimp only
    | split

theorem kept_endReady (hr : Live L s0) (why : EndReason) (step : Nat) (h : Kept L s0 s) :
    Kept L s0 (s.endReady why step) :=
  kept_setPr_live hr (kept_runEnd why h) rfl nofun

theorem Supply.forget_ok {h : Supply} (t : Turner) (ok : SupplyOk h) : SupplyOk (h.forget t) := by
  refine ⟨ok.grant, ok.lockout, ok.runUp, ok.contactor, fun k => ?_, ok.stop⟩
  obtain ⟨a, b, c⟩ := ok.idle k
  refine ⟨a, b, ?_⟩
  simp only [Supply.anyRequest, Bool.or_eq_false_iff] at c
  simp [Supply.anyRequest, Supply.forget, c.1.1, c.1.2, c.2]

theorem kept_abortEnd (h : Kept False s0 s) : Kept False s0 s.abortEnd := by
  unfold State.abortEnd
  exact kept_setPt (kept_setHs (kept_goIdle (kept_runEnd _ (kept_raise _ _ (kept_setPr h rfl Iff.rfl))))
    (Supply.forget_ok _))

end Sys2Proof.Machine
end

