-- ==== Sys2Proof/Laws/KeptGauge.lean ====
section
/-! SUPPORT. What the operations of the Back Gauge leave alone (`Kept`), one lemma each. -/

set_option linter.unreachableTactic false
set_option linter.unusedTactic false

namespace Sys2Proof.Machine

variable {L : Prop} {s0 s : State}

/-! ### Segments and moves -/

/-- A move begun on one of its segments keeps the law of the gauge, when its segments suit the reference flag. -/
theorem Gauge.beginSegment_ok (g : Gauge) (m : Move) (x : Segment) (n : Nat) (hx : x ∈ m.plan)
    (hp : ∀ y ∈ m.plan, y.isTo = g.referenced) :
    GaugeOk (({ g with inPos := false, move := some m } : Gauge).beginSegment x n) := by
  have hr := hp x hx
  unfold Gauge.beginSegment Gauge.startSegment
  split
  · constructor
    · rcases x with ⟨d, p⟩ | _ | _
      · cases d <;> exact hr.symm
      · exact hr.symm
      · exact hr.symm
    · rcases x with ⟨d, p⟩ | _ | _
      · cases d <;> rfl
      · rfl
      · rfl
    · intro e; cases e
    · intro e; cases e
    · intro k e; cases e; exact hp
  · constructor
    · rcases x with ⟨d, p⟩ | _ | _ <;> exact hr.symm
    · rcases x with ⟨d, p⟩ | _ | _ <;> rfl
    · intro _; rcases x with ⟨d, p⟩ | _ | _ <;> rfl
    · intro e; cases e
    · intro k e; cases e; exact hp

theorem kept_beginMove (m : Move) (x : Segment) (hx : x ∈ m.plan)
    (hp : GaugeOk s.bg → ∀ y ∈ m.plan, y.isTo = s.bg.referenced) (h : Kept L s0 s) : Kept L s0 (s.beginMove m x) :=
  kept_setBg h fun ok => Gauge.beginSegment_ok s.bg m x _ hx (hp ok)

/-- Every segment of an approach goes to a position. -/
theorem State.approachPlan_isTo (s : State) (t : Int) : ∀ y ∈ s.approachPlan t, y.isTo = true := by
  unfold State.approachPlan
  repeat' split
  all_goals simp [Segment.isTo]

/-- What an approach can do: it replaces the gauge's state, by one that keeps its law (R100). -/
theorem State.approach_eq (s : State) (issuer : MoveIssuer) (fromSlot : Bool) (kind : MoveKind) (t : Int)
    (hr : s.bg.referenced = true) :
    ∃ g, GaugeOk g ∧
      (s.approach issuer fromSlot kind t = .moving (s.setBg g) ∨
        ∃ b, s.approach issuer fromSlot kind t = .completed (s.setBg g) b) := by
  unfold State.approach
  split
  · refine ⟨_, ?_, .inr ⟨_, rfl⟩⟩
    exact ⟨hr, rfl, nofun, fun _ => rfl, nofun⟩
  · rename_i x xs e
    have ok := Gauge.beginSegment_ok { s.bg with target := t } ⟨issuer, kind, x :: xs, fromSlot, t⟩ x
      s.ps.settings.reversalDwell (by simp)
      fun y hy => (s.approachPlan_isTo t y (e ▸ hy)).trans hr.symm
    exact ⟨_, ok, .inl rfl⟩

/-- What a retract can do: it replaces the gauge's state, keeping its law (R104). -/
theorem State.retract_eq (s : State) (issuer : MoveIssuer) (r : Int) (hr : s.bg.referenced = true) :
    ∃ g, (GaugeOk s.bg → GaugeOk g) ∧
      (s.retract issuer r = .moving (s.setBg g) ∨ ∃ b, s.retract issuer r = .completed (s.setBg g) b) := by
  unfold State.retract
  split
  · have ok := Gauge.beginSegment_ok { s.bg with target := r } ⟨issuer, .retract, [.to .backward r], false, r⟩
      (.to .backward r) s.ps.settings.reversalDwell (by simp) (by simpa [Segment.isTo] using hr.symm)
    exact ⟨_, fun _ => ok, .inl rfl⟩
  · exact ⟨{ s.bg with inPos := false }, fun ok => ⟨ok.flag, ok.moves, ok.dwells, nofun, ok.segments⟩,
      .inr ⟨_, rfl⟩⟩

/-- What became of a move, in a state kept from `s0`. -/
def KeptStarted (L : Prop) (s0 : State) : Started → Prop
  | .moving t => Kept L s0 t
  | .completed t _ => Kept L s0 t

theorem kept_approach (issuer : MoveIssuer) (fromSlot : Bool) (kind : MoveKind) (t : Int)
    (hr : s.bg.referenced = true) (h : Kept L s0 s) : KeptStarted L s0 (s.approach issuer fromSlot kind t) := by
  obtain ⟨g, ok, e | ⟨b, e⟩⟩ := s.approach_eq issuer fromSlot kind t hr <;> rw [e] <;>
    exact kept_setBg h fun _ => ok

theorem kept_retract (issuer : MoveIssuer) (r : Int) (hr : s.bg.referenced = true) (h : Kept L s0 s) :
    KeptStarted L s0 (s.retract issuer r) := by
  obtain ⟨g, ok, e | ⟨b, e⟩⟩ := s.retract_eq issuer r hr <;> rw [e] <;> exact kept_setBg h ok

/-- A move that is not refused finds the reference (R103). -/
theorem State.moveRefusal_none (h : s.moveRefusal = none) : s.bg.referenced = true := by
  unfold State.moveRefusal at h
  cases e : s.bg.referenced
  · rw [e] at h
    split at h <;> cases h
  · rfl

/-- A stored move that is not refused finds the reference (R106). -/
theorem State.slotRefusal_none (h : s.slotRefusal = none) : s.bg.referenced = true := by
  unfold State.slotRefusal firstRefusal at h
  cases e : s.bg.referenced
  · simp [e, firstRefusal] at h
    repeat' split at h
    all_goals first | cases h | rfl
  · rfl

/-! ### GAUGE_DONE and the slot -/

theorem kept_gaugeDone (reference : Bool) (o : GaugeOutcome) (backward fromSlot : Bool) (goal : Int)
    (h : Kept L s0 s) : Kept L s0 (s.gaugeDone reference o backward fromSlot goal) := kept_raise _ _ h

/-- The slot is no part of the gauge's law. -/
theorem kept_setSlot (x : Option Int) (h : Kept L s0 s) : Kept L s0 (s.setBg { s.bg with slot := x }) :=
  kept_setBg h fun ok => ⟨ok.flag, ok.moves, ok.dwells, ok.inPosition, ok.segments⟩

theorem kept_slotNext (h : Kept L s0 s) : Kept L s0 s.slotNext := by
  unfold State.slotNext
  split
  · exact h
  · rename_i t _
    have h1 := kept_setSlot none h
    dsimp only
    split
    · exact kept_gaugeDone _ _ _ _ _ h1
    · rename_i e
      have k := kept_approach .gaugeMove true .approach t (State.slotRefusal_none e) h1
      split <;> rename_i e2 <;> rw [e2] at k
      · exact k
      · exact kept_gaugeDone _ _ _ _ _ k

theorem kept_slotCancel (h : Kept L s0 s) : Kept L s0 s.slotCancel := by
  unfold State.slotCancel
  split
  · exact h
  · exact kept_gaugeDone _ _ _ _ _ (kept_setSlot none h)

/-! ### Referencing -/

theorem kept_startReference (h : Kept L s0 s) : Kept L s0 s.startReference := by
  unfold State.startReference State.beginMove
  rw [State.setBg_twice]
  refine kept_setBg h fun _ => ?_
  refine Gauge.beginSegment_ok { s.bg with referenced := false } _ _ _ ?_ ?_
  · dsimp only
    split <;> simp
  · dsimp only
    split <;> simp [Segment.isTo]

theorem kept_switchesReleased (h : Kept L s0 s) : Kept L s0 s.switchesReleased := by
  unfold State.switchesReleased
  split
  · rename_i e
    refine kept_beginMove _ _ (by simp) (fun ok y hy => ?_) h
    simp only [List.mem_singleton] at hy
    rw [hy]
    have hs := e.1
    unfold State.searchSegment at hs
    split at hs
    · rename_i m hm _
      split at hs
      · rename_i hpl
        exact ok.segments m hm .offSwitches (by rw [hpl]; simp)
      all_goals cases hs
    · cases hs
  · exact h

theorem kept_switchFound (h : Kept L s0 s) : Kept L s0 s.switchFound := by
  unfold State.switchFound
  split
  · dsimp only
    generalize hg : ({ s.bg with
      zero := (Config.refPosition : Int) - s.lines.encoder
      actual := Config.refPosition
      referenced := true
      target := Config.refPosition } : Gauge) = g1
    have hr : (s.setBg g1).bg.referenced = true := by rw [← hg]; rfl
    obtain ⟨g, ok, e | ⟨b, e⟩⟩ :=
      (s.setBg g1).approach_eq .gaugeReference false .reference Config.gmax hr <;>
      rw [e] <;> rw [State.setBg_twice] <;> exact kept_setBg h fun _ => ok
  · exact h

/-! ### Motion under way -/

theorem kept_dwellEnded (h : Kept L s0 s) : Kept L s0 s.dwellEnded := by
  unfold State.dwellEnded
  split
  · rename_i m _ hm
    split
    · rename_i x _ hp
      refine kept_setBg h fun ok => ?_
      have hx : x.isTo = s.bg.referenced := ok.segments m hm x (by rw [hp]; simp)
      unfold Gauge.startSegment
      refine ⟨?_, ?_, nofun, fun e => ?_, ok.segments⟩
      · rcases x with ⟨d, p⟩ | _ | _
        · cases d <;> exact hx.symm
        · exact hx.symm
        · exact hx.symm
      · change x.state.busy = s.bg.move.isSome
        rw [hm]
        rcases x with ⟨d, p⟩ | _ | _
        · cases d <;> rfl
        · rfl
        · rfl
      · have := ok.inPosition e
        have hb := ok.moves
        rw [this, hm] at hb
        cases hb
    · exact h
  · exact h

/-- A reached segment is a positioning segment of the move, under way. -/
theorem State.segmentReached_cases (h : s.segmentReached = true) :
    (s.bg.state = .movingBack ∨ s.bg.state = .approaching) ∧
      ∃ m d p rest, s.bg.move = some m ∧ m.plan = .to d p :: rest ∧
        (s.bg.actual - p).natAbs ≤ Config.tolerance := by
  unfold State.segmentReached at h
  split at h
  all_goals first
    | cases h
    | skip
  all_goals
    rename_i hs hm
    split at h
    · rename_i hp
      exact ⟨by first | exact .inl hs | exact .inr hs, _, _, _, _, hm, hp, by simpa using h⟩
    · cases h

theorem kept_segmentEnded (h : Kept L s0 s) : Kept L s0 s.segmentEnded.1 := by
  unfold State.segmentEnded
  split
  · rename_i m hr hm
    obtain ⟨hstate, m', d, p, rest, hm', hp, -⟩ := State.segmentReached_cases hr
    rw [hm] at hm'
    cases hm'
    split
    · rename_i y x xs hpl
      refine kept_beginMove _ _ (by simp) (fun ok z hz => ?_) h
      exact ok.segments m hm z (by rw [hpl]; exact List.mem_cons_of_mem _ hz)
    · refine kept_setBg h fun ok => ?_
      have hx : true = s.bg.referenced := ok.segments m hm (.to d p) (by rw [hp]; simp)
      exact ⟨hx.symm, rfl, nofun, fun _ => rfl, nofun⟩
  · exact h

/-- A stop of a busy gauge keeps its law. -/
theorem kept_gaugeStopped (hb : s.gaugeBusy = true) (h : Kept L s0 s) : Kept L s0 s.gaugeStopped := by
  unfold State.gaugeStopped
  refine kept_setBg h fun ok => ?_
  have hf := ok.flag
  unfold State.gaugeBusy at hb
  constructor
  · dsimp only
    rw [hf]
    revert hb
    cases s.bg.state <;> intro hb <;> first | rfl | cases hb
  · dsimp only
    split <;> rfl
  · intro e; cases e
  · intro e; cases e
  · intro m e; cases e

theorem kept_gaugeFaulted (h : Kept L s0 s) : Kept L s0 s.gaugeFaulted :=
  kept_setBg h fun _ => ⟨rfl, rfl, nofun, nofun, nofun⟩

/-- In-position cleared keeps the gauge's law. -/
theorem kept_notInPos (h : Kept L s0 s) : Kept L s0 (s.setBg { s.bg with inPos := false }) :=
  kept_setBg h fun ok => ⟨ok.flag, ok.moves, ok.dwells, nofun, ok.segments⟩

theorem kept_positionLost (h : Kept L s0 s) : Kept L s0 s.positionLost := by
  unfold State.positionLost
  split
  · exact kept_notInPos h
  · exact h

theorem kept_warnBackward (backward tracked : Bool) (t : Int) (h : Kept L s0 s) :
    Kept L s0 (s.warnBackward backward tracked t) := by
  unfold State.warnBackward
  repeat' first
    | with_reducible exact h | with_reducible apply kept_plainWarning | with_reducible apply kept_loadWarning
    | split

end Sys2Proof.Machine
end

