-- ==== Sys2Proof/Laws/KeptInfeed.lean ====
section
/-! SUPPORT. What the operations of the lift and the jogger leave alone (`Kept`), one lemma each. -/

set_option linter.unreachableTactic false
set_option linter.unusedTactic false

namespace Sys2Proof.Machine

variable {L : Prop} {s0 s : State}

theorem kept_infeedNotice (e : InfeedEvent) (hh : Int) (h : Kept L s0 s) : Kept L s0 (s.infeedNotice e hh) := by
  unfold State.infeedNotice
  repeat' first
    | with_reducible assumption | with_reducible apply kept_raise | exact fun _ k => k | intro _ | dsimp only
    | split

theorem kept_slotEnter (x : SlotState) (e : InfeedEvent) (h : Kept L s0 s) : Kept L s0 (s.slotEnter x e) := by
  unfold State.slotEnter
  repeat' first
    | with_reducible assumption | with_reducible apply kept_infeedNotice | with_reducible apply kept_setJg
    | exact fun _ k => k | intro _ | dsimp only | split

theorem kept_startJog (h : Kept L s0 s) : Kept L s0 s.startJog := by
  unfold State.startJog
  repeat' first
    | with_reducible assumption | with_reducible apply kept_setJg | exact fun _ k => k | intro _ | dsimp only
    | split

theorem kept_slotNotice (changed : Bool) (e : InfeedEvent) (h : Kept L s0 s) : Kept L s0 (s.slotNotice changed e) := by
  unfold State.slotNotice
  repeat' first
    | with_reducible assumption | with_reducible apply kept_infeedNotice | exact fun _ k => k | intro _
    | dsimp only | split

theorem kept_slotEmptied (h : Kept L s0 s) : Kept L s0 s.slotEmptied := by
  unfold State.slotEmptied
  repeat' first
    | with_reducible assumption | with_reducible apply kept_infeedNotice | with_reducible apply kept_setJg
    | exact fun _ k => k | intro _ | dsimp only | split

theorem kept_jogDone (h : Kept L s0 s) : Kept L s0 s.jogDone := by
  unfold State.jogDone
  repeat' first
    | with_reducible assumption | with_reducible apply kept_slotEnter | with_reducible apply kept_setJg
    | exact fun _ k => k | intro _ | dsimp only | split

theorem kept_jogExpired (h : Kept L s0 s) : Kept L s0 s.jogExpired := by
  unfold State.jogExpired
  repeat' first
    | with_reducible assumption | with_reducible apply kept_jogDone | with_reducible apply kept_reportFault
    | with_reducible apply kept_infeedNotice | with_reducible apply kept_setJg | exact fun _ k => k | intro _
    | dsimp only | split

theorem kept_initialMeasured (m : Nat)
    (hz : PileOk s.pl → ∀ p, s.pl.pile = some p → p.taken = 0 ∧ p.restored = 0) (h : Kept L s0 s) :
    Kept L s0 (s.initialMeasured m) := by
  unfold State.initialMeasured
  refine kept_raise _ _ (kept_setPl h fun ok => ⟨fun p e => ?_, fun e p e2 => ?_⟩)
  · obtain ⟨q, hq, rfl⟩ := Option.map_eq_some_iff.1 e
    obtain ⟨ht, hr⟩ := hz ok q hq
    simp only [ht, hr]
    omega
  · obtain ⟨q, hq, rfl⟩ := Option.map_eq_some_iff.1 e2
    exact hz ok q hq

/-- A take-off keeps the pile's law (R140, R144). -/
theorem Pile.takeOff_law (p : Pile) (m : Nat) (h : p.h0 + p.restored = p.taken + p.hc) :
    (p.takeOff m).h0 + (p.takeOff m).restored = (p.takeOff m).taken + (p.takeOff m).hc := by
  unfold Pile.takeOff
  split <;> dsimp only <;> omega

theorem kept_takeOffMeasured (m : Nat) (hr : s.pl.raising ≠ some .initial) (h : Kept L s0 s) :
    Kept L s0 (s.takeOffMeasured m) := by
  unfold State.takeOffMeasured
  refine kept_slotNotice _ _ (kept_infeedNotice _ _ (kept_setJg (kept_setPl h fun ok => ⟨fun p e => ?_, fun e => ?_⟩)))
  · obtain ⟨q, hq, rfl⟩ := Option.map_eq_some_iff.1 e
    exact Pile.takeOff_law q m (ok.law q hq)
  · exact absurd e hr

theorem kept_raiseMeasured (m : Nat) (h : Kept L s0 s) : Kept L s0 (s.raiseMeasured m) := by
  unfold State.raiseMeasured
  have h1 : Kept L s0 (s.setPl { s.pl with raising := none, raiseTimer := none, raiseValve := false }) :=
    kept_setPl_same h rfl nofun
  dsimp only
  split
  · exact kept_takeOffMeasured m nofun h1
  · rename_i e
    unfold State.initialMeasured
    rw [State.setPl_twice]
    refine kept_raise _ _ (kept_setPl h fun ok => ⟨fun p e2 => ?_, nofun⟩)
    obtain ⟨q, hq, rfl⟩ := Option.map_eq_some_iff.1 e2
    obtain ⟨ht, hr⟩ := ok.initial e q hq
    simp only [ht, hr]
    omega
  · exact h1

theorem kept_liftGranted (h : Kept L s0 s) : Kept L s0 s.liftGranted := by
  unfold State.liftGranted
  repeat' first
    | with_reducible assumption | with_reducible apply kept_setPl_same | exact rfl | exact id | exact fun _ k => k | intro _ | dsimp only | split

theorem kept_liftRevoked (h : Kept L s0 s) : Kept L s0 s.liftRevoked := by
  unfold State.liftRevoked
  repeat' first
    | with_reducible assumption | with_reducible apply kept_setPl_same | exact rfl | exact id | exact fun _ k => k | intro _ | dsimp only | split

theorem kept_raiseTimedOut (h : Kept L s0 s) : Kept L s0 s.raiseTimedOut := by
  unfold State.raiseTimedOut
  exact kept_slotNotice _ _ (kept_infeedNotice _ _ (kept_reportFault _ _ (kept_setJg (kept_setPl_same h rfl nofun))))

theorem kept_reachedFloor (h : Kept L s0 s) : Kept L s0 s.reachedFloor := by
  unfold State.reachedFloor
  repeat' first
    | with_reducible assumption | with_reducible apply kept_infeedNotice
    | with_reducible apply kept_setPl_same | exact rfl | exact id | (intro e; cases e; done)
    | exact fun _ k => k | intro _ | dsimp only | split

theorem kept_infeedEstop (h : Kept L s0 s) : Kept L s0 s.infeedEstop := by
  unfold State.infeedEstop
  refine kept_slotNotice _ _ (kept_slotNotice _ _ (kept_setJg (kept_setPl_same h ?_ ?_)))
  · unfold Lift.stopped; split <;> rfl
  · unfold Lift.stopped; split <;> exact id

theorem kept_jogReset (h : Kept L s0 s) : Kept L s0 s.jogReset := by
  unfold State.jogReset
  repeat' first
    | with_reducible assumption | with_reducible apply kept_infeedNotice | with_reducible apply kept_setJg
    | exact fun _ k => k | intro _ | dsimp only | split

end Sys2Proof.Machine
end

