-- ==== Sys2Proof/Laws/KeptSupply.lean ====
section
/-! SUPPORT. What the operations of the supply and its grants leave alone (`Kept`), one lemma each. -/

set_option linter.unreachableTactic false
set_option linter.unusedTactic false

namespace Sys2Proof.Machine

variable {L : Prop} {s0 s : State}

/-! ### The supply's own changes -/

theorem Supply.stop_ok {h : Supply} (hn : h.holder = none) : SupplyOk h.stop :=
  ⟨fun e => absurd hn e, rfl, rfl, rfl, nofun, nofun⟩

theorem Supply.tryStart_ok {h : Supply} (b : Bool) (ok : SupplyOk h) : SupplyOk (h.tryStart b) := by
  unfold Supply.tryStart
  split
  · rename_i e
    have hn : h.holder = none := by
      by_contra hh
      have := ok.grant hh
      rw [e.1] at this
      cases this
    exact
      { grant := fun k => absurd hn k
        lockout := by rw [ok.lockout, e.1]; rfl
        runUp := rfl
        contactor := rfl
        idle := fun k => by
          have := (ok.idle k).1
          rw [e.1] at this
          cases this
        stop := ok.stop }
  · exact ok

/-- A request set or cleared leaves the pump, the timers and the holder alone. -/
theorem Supply.setRequest_eq (h : Supply) (c : Consumer) (b : Bool) :
    ∃ x y z, h.setRequest c b = { h with reqCut := x, reqLift := y, reqTurn := z } := by
  cases c <;> exact ⟨_, _, _, rfl⟩

/-- A request cleared sets none. -/
theorem Supply.clear_any {h : Supply} (c : Consumer) (e : h.anyRequest = false) :
    (h.setRequest c false).anyRequest = false := by
  cases c <;> simp_all [Supply.setRequest, Supply.anyRequest]

theorem Supply.clear_ok {h : Supply} (c : Consumer) (ok : SupplyOk h) : SupplyOk (h.setRequest c false) := by
  have hi := fun e => Supply.clear_any (h := h) c e
  obtain ⟨x, y, z, e⟩ := h.setRequest_eq c false
  rw [e] at hi ⊢
  exact ⟨ok.grant, ok.lockout, ok.runUp, ok.contactor,
    fun k => ⟨(ok.idle k).1, (ok.idle k).2.1, hi (ok.idle k).2.2⟩, ok.stop⟩

theorem Supply.noRequests_ok {h : Supply} (ok : SupplyOk h) : SupplyOk h.noRequests :=
  ⟨ok.grant, ok.lockout, ok.runUp, ok.contactor, fun k => ⟨(ok.idle k).1, (ok.idle k).2.1, rfl⟩, ok.stop⟩

/-- A request set without an idle timer running. -/
theorem Supply.ask_ok {h : Supply} (c : Consumer) (hi : h.idleTimer = none) (ok : SupplyOk h) :
    SupplyOk (h.setRequest c true) := by
  obtain ⟨x, y, z, e⟩ := h.setRequest_eq c true
  rw [e]
  exact ⟨ok.grant, ok.lockout, ok.runUp, ok.contactor, fun k => by simp [hi] at k, ok.stop⟩

/-- The idle timer stopped. -/
theorem Supply.noIdle_ok {h : Supply} (ok : SupplyOk h) : SupplyOk { h with idleTimer := none } :=
  ⟨ok.grant, ok.lockout, ok.runUp, ok.contactor, nofun, ok.stop⟩

/-- A supply that grants is READY, enabled and free (R132). -/
theorem Supply.choice_some {h : Supply} {x : Settings} {c : Consumer} (e : h.choice x = some c) :
    h.pump = .ready ∧ h.enable = true ∧ h.holder = none := by
  unfold Supply.choice at e
  split at e
  · assumption
  · cases e

theorem Supply.grantTo_ok {h : Supply} {x : Settings} {c : Consumer} (e : h.choice x = some c) (ok : SupplyOk h) :
    SupplyOk (h.grantTo c) := by
  obtain ⟨hp, he, hn⟩ := Supply.choice_some e
  unfold Supply.grantTo
  obtain ⟨x, y, z, e⟩ := h.setRequest_eq c false
  rw [e]
  exact ⟨fun _ => hp, ok.lockout, ok.runUp, ok.contactor, nofun, fun k => absurd hn (ok.stop k).1⟩

/-- The grant given back (R133), no stop pending and a request waiting. -/
theorem Supply.freed_ok {h : Supply} (hs : h.stopPending = false) (hr : h.anyRequest = true) (ok : SupplyOk h) :
    SupplyOk { h with holder := none } :=
  ⟨nofun, ok.lockout, ok.runUp, ok.contactor, fun k =>
    absurd (hr.symm.trans (ok.idle k).2.2) nofun, fun k => by simp [hs] at k⟩

theorem Supply.idle_ok {h : Supply} (n : Nat) (hp : h.pump = .ready) (hs : h.stopPending = false)
    (hr : h.anyRequest = false) (ok : SupplyOk h) : SupplyOk { h with holder := none, idleTimer := some n } :=
  ⟨nofun, ok.lockout, ok.runUp, ok.contactor, fun _ => ⟨hp, rfl, hr⟩, fun k => by simp [hs] at k⟩

theorem Supply.not_ready {h : Supply} (hp : h.pump ≠ .ready) (ok : SupplyOk h) :
    h.holder = none ∧ h.idleTimer = none ∧ h.stopPending = false := by
  have hn : h.holder = none := by
    by_contra k
    exact hp (ok.grant k)
  refine ⟨hn, ?_, ?_⟩
  · cases e : h.idleTimer
    · rfl
    · exact absurd (ok.idle (by simp [e])).1 hp
  · cases e : h.stopPending
    · rfl
    · exact absurd hn (ok.stop e).1

theorem Supply.estop_ok {h : Supply} (ok : SupplyOk h) : SupplyOk h.estop := by
  unfold Supply.estop
  dsimp only
  split
  · exact ⟨nofun, rfl, rfl, rfl, nofun, nofun⟩
  · rename_i e
    have hl := ok.lockout
    have hc := ok.contactor
    simp only [not_or] at e
    refine ⟨fun k => absurd rfl k, hl, ?_, hc, nofun, nofun⟩
    change false = decide (h.pump = .runUp)
    simp [e.1]

theorem Supply.clearFault_ok {h : Supply} (ok : SupplyOk h) : SupplyOk h.clearFault := by
  unfold Supply.clearFault
  split
  · rename_i e
    obtain ⟨hn, hi, hs⟩ := Supply.not_ready (by rw [e]; nofun) ok
    refine ⟨fun k => absurd hn k, rfl, ?_, ?_, fun k => by simp [hi] at k, fun k => by simp [hs] at k⟩
    · rw [ok.runUp, e]; rfl
    · rw [ok.contactor, e]; rfl
  · exact ok

theorem Supply.pressureGone_ok {h : Supply} (e : h.pump = .ready) (ok : SupplyOk h) : SupplyOk h.pressureGone := by
  refine ⟨nofun, ?_, ?_, rfl, nofun, nofun⟩
  · change h.lockoutTimer.isSome = _
    rw [ok.lockout, e]
    rfl
  · change h.runUpTimer.isSome = _
    rw [ok.runUp, e]
    rfl

/-! ### The supply and its consumers -/

theorem kept_pumpStart (h : Kept L s0 s) : Kept L s0 s.pumpStart := kept_setHs h (Supply.tryStart_ok _)

theorem kept_csGranted (h : Kept L s0 s) : Kept L s0 s.csGranted := by
  unfold State.csGranted
  split <;> first | exact kept_setCs h | exact h

theorem kept_ptGranted (h : Kept L s0 s) : Kept L s0 s.ptGranted := by
  unfold State.ptGranted
  repeat' first
    | exact kept_setPt h | exact h | split

theorem kept_grantOther (h : Kept L s0 s) : Kept L s0 s.grantOther := by
  unfold State.grantOther
  split
  · exact kept_csGranted (kept_setHs h (Supply.grantTo_ok ‹_›))
  · exact kept_ptGranted (kept_setHs h (Supply.grantTo_ok ‹_›))
  · exact h
  · exact h

theorem kept_releasedBy {next : State → State} (hn : ∀ t, Kept L s0 t → Kept L s0 (next t))
    (hp : SupplyOk s.hs → s.hs.pump = .ready) (h : Kept L s0 s) : Kept L s0 (s.releasedBy next) := by
  unfold State.releasedBy
  dsimp only
  split
  · exact kept_setHs h fun _ => Supply.stop_ok rfl
  · rename_i e1
    have e1 : s.hs.stopPending = false := by simpa using e1
    split
    · rename_i e2
      exact hn _ (kept_setHs h (Supply.freed_ok e1 e2))
    · rename_i e2
      have e2 : s.hs.anyRequest = false := by simpa [Supply.anyRequest] using e2
      unfold State.startIdle
      rw [State.setHs_twice]
      exact kept_setHs h fun ok => Supply.idle_ok (h := s.hs) _ (hp ok) e1 e2 ok

/-- A raise that ends leaves the supply alone. -/
@[simp] theorem State.raiseMeasured_hs (s : State) (m : Nat) : (s.raiseMeasured m).hs = s.hs := by
  unfold State.raiseMeasured State.takeOffMeasured State.initialMeasured State.slotNotice
  dsimp only
  split
  · split <;> rfl
  · rfl
  · rfl

theorem kept_decideGrant (h : Kept L s0 s) : Kept L s0 s.decideGrant := by
  unfold State.decideGrant
  split
  · rename_i e
    have h1 : Kept L s0 (s.setHs (s.hs.grantTo .lift)) := kept_setHs h (Supply.grantTo_ok e)
    dsimp only
    split
    · refine kept_releasedBy (fun t k => kept_grantOther k) (fun ok => ?_) (kept_raiseMeasured _ h1)
      rw [State.raiseMeasured_hs] at ok ⊢
      exact ok.grant nofun
    · exact kept_liftGranted h1
  · exact kept_grantOther h

theorem kept_release (c : Consumer) (h : Kept L s0 s) : Kept L s0 (s.release c) := by
  unfold State.release
  split
  · rename_i e
    exact kept_releasedBy (fun t k => kept_decideGrant k) (fun ok => ok.grant (by rw [e]; nofun)) h
  · exact h

theorem kept_request (c : Consumer) (h : Kept L s0 s) : Kept L s0 (s.request c) := by
  unfold State.request
  split
  · exact h
  · dsimp only
    split
    · rename_i e
      exact kept_pumpStart (kept_setHs h fun ok =>
        Supply.ask_ok c (Supply.not_ready (by rw [e]; nofun) ok).2.1 ok)
    · refine kept_decideGrant ?_
      rw [State.setHs_twice]
      refine kept_setHs h fun ok => ?_
      have := Supply.ask_ok (h := { s.hs with idleTimer := none }) c rfl (Supply.noIdle_ok ok)
      cases c <;> exact this
    · rename_i e1 e2
      exact kept_setHs h fun ok => Supply.ask_ok c (Supply.not_ready (fun k => e2 k) ok).2.1 ok

theorem kept_withdrawRequest (c : Consumer) (h : Kept L s0 s) : Kept L s0 (s.withdrawRequest c) :=
  kept_setHs h (Supply.clear_ok c)

theorem kept_giveUp (c : Consumer) (h : Kept L s0 s) : Kept L s0 (s.giveUp c) :=
  kept_release c (kept_withdrawRequest c h)

theorem kept_runUpExpired (h : Kept L s0 s) : Kept L s0 s.runUpExpired := by
  unfold State.runUpExpired
  split
  · exact h
  · rename_i e
    have e : s.hs.pump = .runUp := by simpa using e
    split
    · have hok : SupplyOk s.hs → SupplyOk { s.hs with pump := .ready, runUpTimer := none } := fun ok => by
        obtain ⟨hn, hi, hs⟩ := Supply.not_ready (by rw [e]; nofun) ok
        refine ⟨fun k => rfl, ?_, rfl, ?_, fun k => by simp [hi] at k, fun k => by simp [hs] at k⟩
        · rw [ok.lockout, e]; rfl
        · rw [ok.contactor, e]; rfl
      dsimp only
      split
      · exact kept_decideGrant (kept_setHs h hok)
      · rename_i e2
        have e2 : s.hs.anyRequest = false := by simpa [Supply.anyRequest] using e2
        unfold State.startIdle
        rw [State.setHs_twice]
        refine kept_setHs h fun ok => ?_
        obtain ⟨hn, -, hs⟩ := Supply.not_ready (by rw [e]; nofun) ok
        have := Supply.idle_ok (h := { s.hs with pump := .ready, runUpTimer := none })
          (s.ps.settings.pumpIdleOff * 1000) rfl hs e2 (hok ok)
        rw [← hn] at this
        exact this
    · refine kept_reportFault _ _ (kept_setHs h fun ok => ?_)
      obtain ⟨hn, hi, hs⟩ := Supply.not_ready (by rw [e]; nofun) ok
      refine ⟨fun k => absurd hn k, ?_, rfl, rfl, fun k => by simp [hi] at k, fun k => by simp [hs] at k⟩
      rw [ok.lockout, e]; rfl

theorem kept_lockoutExpired (h : Kept L s0 s) : Kept L s0 s.lockoutExpired := by
  unfold State.lockoutExpired
  split
  · exact h
  · rename_i e
    have e : s.hs.pump = .lockout := by simpa using e
    refine kept_pumpStart (kept_setHs h fun ok => ?_)
    obtain ⟨hn, hi, hs⟩ := Supply.not_ready (by rw [e]; nofun) ok
    refine ⟨fun k => absurd hn k, rfl, ?_, ?_, fun k => by simp [hi] at k, fun k => by simp [hs] at k⟩
    · rw [ok.runUp, e]; rfl
    · rw [ok.contactor, e]; rfl

theorem kept_idleExpired (h : Kept L s0 s) : Kept L s0 s.idleExpired := by
  unfold State.idleExpired
  split
  · split
    · rename_i e
      exact kept_setHs h fun _ => Supply.stop_ok e.2
    · exact h
  · exact h

theorem Supply.enable_ok {h : Supply} (hs : SupplyOk h → h.stopPending = false) (b : Bool) (ok : SupplyOk h) :
    SupplyOk { h with enable := b } :=
  ⟨ok.grant, ok.lockout, ok.runUp, ok.contactor, ok.idle, fun k => by simp [hs ok] at k⟩

theorem kept_decidePumpOn (h : Kept L s0 s) : Kept L s0 (decidePumpOn s).1 := by
  unfold decidePumpOn
  dsimp only
  split
  · exact h
  · split
    · exact kept_setHs h fun ok => ⟨ok.grant, ok.lockout, ok.runUp, ok.contactor, ok.idle, nofun⟩
    · rename_i e
      exact kept_pumpStart (kept_setHs h (Supply.enable_ok
        (fun ok => (Supply.not_ready (by rw [e]; nofun) ok).2.2) true))
    · rename_i e _
      exact kept_setHs h (Supply.enable_ok (fun ok => (Supply.not_ready (fun k => e k) ok).2.2) true)

theorem kept_decidePumpOff (h : Kept L s0 s) : Kept L s0 (decidePumpOff s).1 := by
  unfold decidePumpOff
  dsimp only
  split
  · exact h
  · split
    · rename_i e
      exact kept_setHs h fun _ => Supply.stop_ok e
    · rename_i e
      exact kept_setHs h fun ok => ⟨ok.grant, ok.lockout, ok.runUp, ok.contactor, ok.idle,
        fun _ => ⟨by change s.hs.holder ≠ none; rw [e]; nofun, rfl⟩⟩
    · rename_i e
      exact kept_setHs h fun ok => Supply.stop_ok (Supply.not_ready (by rw [e]; nofun) ok).1
    · exact kept_setHs h fun ok => ⟨ok.grant, ok.lockout, ok.runUp, ok.contactor, ok.idle,
        fun k => ⟨(ok.stop k).1, rfl⟩⟩

end Sys2Proof.Machine
end

