-- ==== Sys2Proof/Laws/KeptCutStation.lean ====
section
/-! SUPPORT. What the operations of the cut station leave alone (`Kept`), one lemma each. -/

set_option linter.unreachableTactic false
set_option linter.unusedTactic false

namespace Sys2Proof.Machine

variable {L : Prop} {s0 s : State}

theorem kept_recoverRequest (h : Kept L s0 s) : Kept L s0 s.recoverRequest := by
  unfold State.recoverRequest
  repeat' first
    | with_reducible assumption | with_reducible apply kept_request | exact fun _ k => k | intro _
    | dsimp only | split

theorem kept_enterRecover (h : Kept L s0 s) : Kept L s0 s.enterRecover := by
  unfold State.enterRecover
  repeat' first
    | with_reducible assumption | with_reducible apply kept_recoverRequest | with_reducible apply kept_setCs
    | exact fun _ k => k | intro _ | dsimp only | split

theorem kept_stopKnife (h : Kept L s0 s) : Kept L s0 s.stopKnife :=
  kept_recoverRequest (kept_setCs h)

theorem kept_homeOrRecover (h : Kept L s0 s) : Kept L s0 s.homeOrRecover := by
  unfold State.homeOrRecover
  repeat' first
    | with_reducible assumption | with_reducible apply kept_enterRecover | with_reducible apply kept_setCs
    | exact fun _ k => k | intro _ | dsimp only | split

theorem kept_csTake (c : Cycle) (h : Kept L s0 s) : Kept L s0 (s.csTake c) := by
  unfold State.csTake
  repeat' first
    | with_reducible assumption | with_reducible apply kept_setCs | exact fun _ k => k | intro _ | dsimp only
    | split

theorem kept_csWithdraw (h : Kept L s0 s) : Kept L s0 s.csWithdraw := by
  unfold State.csWithdraw
  repeat' first
    | with_reducible assumption | with_reducible apply kept_giveUp | with_reducible apply kept_setCs
    | exact fun _ k => k | intro _ | dsimp only | split

theorem kept_pedalDown (h : Kept L s0 s) : Kept L s0 s.pedalDown := by
  unfold State.pedalDown
  repeat' first
    | with_reducible assumption | with_reducible apply kept_request | with_reducible apply kept_setCs
    | exact fun _ k => k | intro _ | dsimp only | split

theorem kept_pedalUp (h : Kept L s0 s) : Kept L s0 s.pedalUp := by
  unfold State.pedalUp
  repeat' first
    | with_reducible assumption | with_reducible apply kept_withdrawRequest
    | with_reducible apply kept_release | with_reducible apply kept_setCs | exact fun _ k => k | intro _
    | dsimp only | split

theorem kept_pedalDwellExpired (h : Kept L s0 s) : Kept L s0 s.pedalDwellExpired := by
  unfold State.pedalDwellExpired
  repeat' first
    | with_reducible assumption | with_reducible apply kept_release | with_reducible apply kept_setCs
    | exact fun _ k => k | intro _ | dsimp only | split

theorem kept_permissionRises (h : Kept L s0 s) : Kept L s0 s.permissionRises := by
  unfold State.permissionRises
  repeat' first
    | with_reducible assumption | with_reducible apply kept_request | with_reducible apply kept_setCs
    | exact fun _ k => k | intro _ | dsimp only | split

theorem kept_permissionFalls (fall lapse : Bool) (h : Kept L s0 s) : Kept L s0 (s.permissionFalls fall lapse) := by
  unfold State.permissionFalls
  repeat' first
    | with_reducible assumption | with_reducible apply kept_withdrawRequest
    | with_reducible apply kept_release | with_reducible apply kept_setCs | exact fun _ k => k | intro _
    | dsimp only | split

theorem kept_keyTurnsOn (h : Kept L s0 s) : Kept L s0 s.keyTurnsOn := by
  unfold State.keyTurnsOn
  repeat' first
    | with_reducible assumption | with_reducible apply kept_setCs | exact fun _ k => k | intro _ | dsimp only
    | split

theorem kept_keyTurnsOff (h : Kept L s0 s) : Kept L s0 s.keyTurnsOff := by
  unfold State.keyTurnsOff
  repeat' first
    | with_reducible assumption | with_reducible apply kept_homeOrRecover | exact fun _ k => k | intro _
    | dsimp only | split

theorem kept_fullPressure (h : Kept L s0 s) : Kept L s0 s.fullPressure := by
  unfold State.fullPressure
  repeat' first
    | with_reducible assumption | with_reducible apply kept_setCs | exact fun _ k => k | intro _ | dsimp only
    | split

theorem kept_countStroke (h : Kept L s0 s) : Kept L s0 s.countStroke := by
  unfold State.countStroke
  repeat' first
    | with_reducible assumption | with_reducible apply kept_warn | with_reducible apply kept_plainWarning
    | with_reducible apply kept_setCs | exact fun _ k => k | intro _ | dsimp only | split

theorem kept_bottomReached (h : Kept L s0 s) : Kept L s0 s.bottomReached := by
  unfold State.bottomReached
  repeat' first
    | with_reducible assumption | with_reducible apply kept_countStroke | with_reducible apply kept_setCs
    | exact fun _ k => k | intro _ | dsimp only | split

theorem kept_knifeTimedOut (h : Kept L s0 s) : Kept L s0 s.knifeTimedOut := by
  unfold State.knifeTimedOut
  repeat' first
    | with_reducible assumption | with_reducible apply kept_setCs | exact fun _ k => k | intro _ | dsimp only
    | split

theorem kept_cutNowEnded (cause : Nat) (h : Kept L s0 s) : Kept L s0 (s.cutNowEnded cause) := by
  unfold State.cutNowEnded
  repeat' first
    | with_reducible assumption | with_reducible apply kept_plainWarning | exact fun _ k => k | intro _
    | dsimp only | split

theorem kept_decideBladeReset (h : Kept L s0 s) : Kept L s0 (decideBladeReset s).1 := by
  unfold decideBladeReset
  try dsimp only [refuse, take]
  repeat' first
    | with_reducible assumption | with_reducible apply kept_warn | with_reducible apply kept_setCs
    | exact fun _ k => k | intro _ | dsimp only | split

theorem kept_csClearFault (h : Kept L s0 s) : Kept L s0 s.csClearFault := by
  unfold State.csClearFault
  repeat' first
    | with_reducible assumption | with_reducible apply kept_homeOrRecover | exact fun _ k => k | intro _
    | dsimp only | split

end Sys2Proof.Machine
end

