-- ==== Sys2Proof/Laws/KeptTurner.lean ====
section
/-! SUPPORT. What the operations of the turner leave alone (`Kept`), one lemma each. -/

set_option linter.unreachableTactic false
set_option linter.unusedTactic false

namespace Sys2Proof.Machine

variable {L : Prop} {s0 s : State}

theorem kept_gripRequest (h : Kept L s0 s) : Kept L s0 s.gripRequest := by
  unfold State.gripRequest
  repeat' first
    | with_reducible assumption | with_reducible apply kept_request | exact fun _ k => k | intro _
    | dsimp only | split

theorem kept_turnTaken (x : TurnRec) (h : Kept L s0 s) : Kept L s0 (s.turnTaken x) := by
  unfold State.turnTaken
  repeat' first
    | with_reducible assumption | with_reducible apply kept_gripRequest | with_reducible apply kept_setPt
    | exact fun _ k => k | intro _ | dsimp only | split

theorem kept_turnResumed (h : Kept L s0 s) : Kept L s0 s.turnResumed := by
  unfold State.turnResumed
  repeat' first
    | with_reducible assumption | with_reducible apply kept_release | with_reducible apply kept_request
    | with_reducible apply kept_gripRequest | with_reducible apply kept_setPt | exact fun _ k => k | intro _
    | dsimp only | split

theorem kept_gripClosedMade (h : Kept L s0 s) : Kept L s0 s.gripClosedMade := by
  unfold State.gripClosedMade
  repeat' first
    | with_reducible assumption | with_reducible apply kept_setPt | exact fun _ k => k | intro _ | dsimp only
    | split

theorem kept_quarterMade (h : Kept L s0 s) : Kept L s0 s.quarterMade := by
  unfold State.quarterMade
  repeat' first
    | with_reducible assumption | with_reducible apply kept_setPt | exact fun _ k => k | intro _ | dsimp only
    | split

theorem kept_turnEnded (cause : Int) (h : Kept L s0 s) : Kept L s0 (s.turnEnded cause) := by
  unfold State.turnEnded
  repeat' first
    | with_reducible assumption | with_reducible apply kept_plainWarning | exact fun _ k => k | intro _
    | dsimp only | split

theorem kept_parkLost (h : Kept L s0 s) : Kept L s0 s.parkLost := by
  unfold State.parkLost
  repeat' first
    | with_reducible assumption | with_reducible apply kept_reportFault | with_reducible apply kept_setPt
    | exact fun _ k => k | intro _ | dsimp only | split

theorem kept_decideTurnerPark (h : Kept L s0 s) : Kept L s0 (decideTurnerPark s).1 := by
  unfold decideTurnerPark
  try dsimp only [refuse, take]
  repeat' first
    | with_reducible assumption | with_reducible apply kept_turnResumed | with_reducible apply kept_request
    | with_reducible apply kept_setPt | exact fun _ k => k | intro _ | dsimp only | split

end Sys2Proof.Machine
end

