-- ==== Sys2Proof/Laws/KeptRunner.lean ====
section
/-! SUPPORT. What the operations of the Runner at work leave alone (`Kept`), one lemma each. -/

set_option linter.unreachableTactic false
set_option linter.unusedTactic false

namespace Sys2Proof.Machine

variable {L : Prop} {s0 s : State}

theorem kept_inPhase (p : Phase) (h : Kept L s0 s) : Kept L s0 (s.inPhase p) := by
  unfold State.inPhase
  repeat' first
    | with_reducible assumption | with_reducible apply kept_setPr | exact rfl | exact Iff.rfl | exact fun _ k => k | intro _ | dsimp only | split

theorem kept_enterWait (p : Phase) (h : Kept L s0 s) : Kept L s0 (s.enterWait p) := by
  unfold State.enterWait
  repeat' first
    | with_reducible assumption | with_reducible apply kept_inPhase | with_reducible apply kept_owe
    | exact fun _ k => k | intro _ | dsimp only | split

theorem kept_advance (h : Kept L s0 s) : Kept L s0 s.advance := by
  unfold State.advance
  repeat' first
    | with_reducible assumption | with_reducible apply kept_setPr | exact rfl | exact Iff.rfl | exact fun _ k => k | intro _ | dsimp only | split

theorem kept_dropPrepared (h : Kept L s0 s) : Kept L s0 s.dropPrepared := by
  unfold State.dropPrepared
  repeat' first
    | with_reducible assumption | with_reducible apply kept_setGt | exact fun _ k => k | intro _ | dsimp only
    | split

theorem kept_holdOr (hr : Live L s0) {next : State → State} (hn : ∀ t, Kept L s0 t → Kept L s0 (next t)) (h : Kept L s0 s) :
    Kept L s0 (s.holdOr next) := by
  unfold State.holdOr
  split
  · exact kept_toHeld hr _ h
  · exact hn _ h

theorem kept_handCycle (h : Kept L s0 s) : Kept L s0 s.handCycle := by
  unfold State.handCycle
  repeat' first
    | with_reducible assumption | with_reducible apply kept_csTake | with_reducible apply kept_setPr
    | exact rfl | exact Iff.rfl | exact fun _ k => k | intro _ | dsimp only | split

theorem kept_positioned (hr : Live L s0) (h : Kept L s0 s) : Kept L s0 s.positioned := by
  unfold State.positioned
  repeat' first
    | with_reducible assumption | with_reducible apply kept_holdOr | with_reducible apply kept_handCycle
    | exact fun _ k => k | intro _ | dsimp only | split

theorem kept_runnerMove (hr : Live L s0) {start : State → Started} {done : State → Bool → State}
    (hs : ∀ t, t.bg.referenced = true → Kept L s0 t → KeptStarted L s0 (start t))
    (hd : ∀ t b, Kept L s0 t → Kept L s0 (done t b)) (h : Kept L s0 s) : Kept L s0 (s.runnerMove start done) := by
  unfold State.runnerMove
  split
  · exact kept_setPr h rfl Iff.rfl
  · exact kept_reportFault _ _ h
  · exact h
  · exact kept_toHeld hr _ h
  · rename_i e
    have k := hs (s.setPr { s.pr with waits := .nothing }) (State.moveRefusal_none e) (kept_setPr h rfl Iff.rfl)
    split <;> rename_i e2 <;> rw [e2] at k
    · exact k
    · exact hd _ _ k

theorem kept_handTurn (hr : Live L s0) (h : Kept L s0 s) : Kept L s0 s.handTurn := by
  unfold State.handTurn
  repeat' first
    | with_reducible assumption | with_reducible apply kept_toHeld | with_reducible apply kept_reportFault
    | with_reducible apply kept_inPhase | with_reducible apply kept_runnerMove
    | with_reducible apply kept_turnResumed | with_reducible apply kept_turnTaken
    | with_reducible apply kept_setPr | exact rfl | exact Iff.rfl | (intro e; cases e; done)
    | with_reducible apply kept_approach | with_reducible apply kept_retract | exact fun _ k => k | intro _
    | dsimp only | split

theorem kept_retracted (hr : Live L s0) (h : Kept L s0 s) : Kept L s0 s.retracted := by
  unfold State.retracted
  repeat' first
    | with_reducible assumption | with_reducible apply kept_inPhase | with_reducible apply kept_handTurn
    | with_reducible apply kept_enterWait | exact fun _ k => k | intro _ | dsimp only | split

theorem kept_handPositioning (hr : Live L s0) (h : Kept L s0 s) : Kept L s0 s.handPositioning := by
  unfold State.handPositioning
  repeat' first
    | with_reducible assumption | with_reducible apply kept_runnerMove
    | with_reducible apply kept_warnBackward | with_reducible apply kept_positioned
    | with_reducible apply kept_approach | with_reducible apply kept_retract | exact fun _ k => k | intro _
    | dsimp only | split

theorem kept_handRetract (hr : Live L s0) (h : Kept L s0 s) : Kept L s0 s.handRetract := by
  unfold State.handRetract
  repeat' first
    | with_reducible assumption | with_reducible apply kept_runnerMove | with_reducible apply kept_retracted
    | with_reducible apply kept_approach | with_reducible apply kept_retract | exact fun _ k => k | intro _
    | dsimp only | split

theorem State.loadWarning_pr (s : State) (k : WarningKind) (d : Int) : (s.loadWarning k d).pr = s.pr := by
  unfold State.loadWarning State.warn
  dsimp only
  split <;> rfl

theorem State.warnSaturated_pr (s : State) (x : Target) : (s.warnSaturated x).pr = s.pr := by
  unfold State.warnSaturated
  split
  · rfl
  · exact s.loadWarning_pr _ _

theorem kept_fixIteration (r : StepRec) (base : Int) (x : Target) (h : Kept L s0 s) :
    Kept L s0 (s.fixIteration r base x) := by
  unfold State.fixIteration
  refine kept_setPr (kept_warnSaturated _ (kept_setGt h)) ?_ ?_ <;> rw [State.warnSaturated_pr]
  · rfl
  · exact Iff.rfl

theorem kept_checkFault (k : FaultKind) (d : Int) (h : Kept L s0 s) : Kept L s0 (s.checkFault k d) := by
  unfold State.checkFault
  repeat' first
    | with_reducible assumption | with_reducible apply kept_inPhase | with_reducible apply kept_reportFault
    | exact fun _ k => k | intro _ | dsimp only | split

theorem kept_warnFailed (g : Int) (h : Kept L s0 s) : Kept L s0 (s.warnFailed g) := by
  unfold State.warnFailed
  repeat' first
    | with_reducible assumption | with_reducible apply kept_warn | dsimp only | split

theorem kept_iterationFault (g : Int) (k : FaultKind) (d : Int) (h : Kept L s0 s) :
    Kept L s0 (s.iterationFault g k d) := by
  unfold State.iterationFault
  split
  · exact kept_checkFault _ _ (kept_warnFailed _ h)
  · exact kept_checkFault _ _ h

theorem kept_startIteration (hr : Live L s0) (r : StepRec) (h : Kept L s0 s) : Kept L s0 (s.startIteration r) := by
  unfold State.startIteration
  repeat' first
    | with_reducible assumption | with_reducible apply kept_checkFault
    | with_reducible apply kept_iterationFault | with_reducible apply kept_fixIteration | with_reducible apply kept_handPositioning | exact fun _ k => k
    | intro _ | dsimp only | split

theorem kept_startLoad (h : Kept L s0 s) : Kept L s0 s.startLoad := by
  unfold State.startLoad
  repeat' first
    | with_reducible assumption | with_reducible apply kept_checkFault | with_reducible apply kept_enterWait
    | exact fun _ k => k | intro _ | dsimp only | split

theorem kept_startTurn (hr : Live L s0) (h : Kept L s0 s) : Kept L s0 s.startTurn := by
  unfold State.startTurn
  repeat' first
    | with_reducible assumption | with_reducible apply kept_checkFault | with_reducible apply kept_handRetract
    | with_reducible apply kept_setPr | exact rfl | exact Iff.rfl | exact fun _ k => k
    | intro _ | dsimp only | split

theorem kept_startEject (d : Disposition) (h : Kept L s0 s) : Kept L s0 (s.startEject d) := by
  unfold State.startEject
  repeat' first
    | with_reducible assumption | with_reducible apply kept_checkFault | with_reducible apply kept_enterWait
    | exact fun _ k => k | intro _ | dsimp only | split

theorem kept_startRecall (hr : Live L s0) (h : Kept L s0 s) : Kept L s0 s.startRecall := by
  unfold State.startRecall
  repeat' first
    | with_reducible assumption | with_reducible apply kept_checkFault | with_reducible apply kept_handRetract
    | with_reducible apply kept_setPr | exact rfl | exact Iff.rfl | exact fun _ k => k
    | intro _ | dsimp only | split

theorem kept_startPause (hr : Live L s0) (h : Kept L s0 s) : Kept L s0 s.startPause := by
  unfold State.startPause
  repeat' first
    | with_reducible assumption | with_reducible apply kept_advance | with_reducible apply kept_endReady
    | with_reducible apply kept_toHeld | exact fun _ k => k | intro _ | dsimp only | split

theorem kept_startStep (hr : Live L s0) (h : Kept L s0 s) : Kept L s0 s.startStep := by
  unfold State.startStep
  repeat' first
    | with_reducible assumption | with_reducible apply kept_startIteration
    | with_reducible apply kept_startTurn | with_reducible apply kept_startLoad
    | with_reducible apply kept_eject | with_reducible apply kept_startEject
    | with_reducible apply kept_startRecall | with_reducible apply kept_startPause | exact fun _ k => k
    | intro _ | dsimp only | split

theorem kept_boundaryHold (hr : Live L s0) (h : Kept L s0 s) : Kept L s0 s.boundaryHold := by
  unfold State.boundaryHold
  repeat' first
    | with_reducible assumption | with_reducible apply kept_holdOr | with_reducible apply kept_toHeld
    | with_reducible apply kept_startStep | exact fun _ k => k | intro _ | dsimp only | split

theorem kept_boundaryLimit (hr : Live L s0) {next : State → State} (hn : ∀ t, Kept L s0 t → Kept L s0 (next t)) (h : Kept L s0 s) :
    Kept L s0 (s.boundaryLimit next) := by
  unfold State.boundaryLimit
  split
  · exact kept_endReady hr _ _ h
  · exact hn _ h

theorem kept_followLink (hr : Live L s0) {next : State → State} (hn : ∀ t, Kept L s0 t → Kept L s0 (next t)) (h : Kept L s0 s) :
    Kept L s0 (s.followLink next) := by
  unfold State.followLink
  split
  · exact kept_endReady hr _ _ h
  · rename_i n hl
    split
    · rename_i q hq
      split
      · rename_i hc
        refine kept_boundaryLimit hr hn (kept_setPr_of (fun hz ok => ⟨⟨fun e => ?_, fun e => ?_⟩, fun _ => ⟨q, hq, hc⟩⟩)
          (fun _ e => e) h)
        · have h0 : s.pr.program = 0 := ok.1.1 e
          simp [State.currentProgram, State.program, h0, hz] at hl
        · have e : n = 0 := e
          rw [State.program, e, hz] at hq
          cases hq
      · exact kept_reportFault _ _ h
    · exact kept_reportFault _ _ h

theorem kept_boundaryBy (hr : Live L s0) {next : State → State} (hn : ∀ t, Kept L s0 t → Kept L s0 (next t)) (h : Kept L s0 s) :
    Kept L s0 (s.boundaryBy next) := by
  unfold State.boundaryBy
  split
  · exact kept_followLink hr hn h
  · exact kept_boundaryLimit hr hn h

theorem kept_boundary (hr : Live L s0) (h : Kept L s0 s) : Kept L s0 s.boundary := by
  unfold State.boundary
  repeat' first
    | with_reducible assumption | with_reducible apply kept_boundaryBy
    | with_reducible apply kept_boundaryHold | exact fun _ k => k | intro _ | dsimp only | split

theorem kept_finishStep (hr : Live L s0) (h : Kept L s0 s) : Kept L s0 s.finishStep := by
  unfold State.finishStep
  repeat' first
    | with_reducible assumption | with_reducible apply kept_advance | with_reducible apply kept_boundary
    | exact fun _ k => k | intro _ | dsimp only | split

theorem kept_handContact (hr : Live L s0) (h : Kept L s0 s) : Kept L s0 s.handContact := by
  unfold State.handContact
  repeat' first
    | with_reducible assumption | with_reducible apply kept_inPhase | with_reducible apply kept_runnerMove
    | with_reducible apply kept_warnBackward | with_reducible apply kept_finishStep
    | with_reducible apply kept_approach | with_reducible apply kept_retract | exact fun _ k => k | intro _
    | dsimp only | split

theorem kept_nextIteration (hr : Live L s0) (r : StepRec) (h : Kept L s0 s) : Kept L s0 (s.nextIteration r) := by
  unfold State.nextIteration
  repeat' first
    | with_reducible assumption | with_reducible apply kept_inPhase | with_reducible apply kept_holdOr
    | with_reducible apply kept_toHeld | with_reducible apply kept_startIteration | exact fun _ k => k
    | intro _ | dsimp only | split

theorem kept_resume (hr : Live L s0) (h : Kept L s0 s) : Kept L s0 s.resume := by
  unfold State.resume
  repeat' first
    | with_reducible assumption | with_reducible apply kept_boundary
    | with_reducible apply kept_startIteration | with_reducible apply kept_handRetract
    | with_reducible apply kept_handContact | with_reducible apply kept_handTurn | exact fun _ k => k
    | intro _ | dsimp only | split

theorem kept_withdrawRunner (h : Kept L s0 s) : Kept L s0 s.withdrawRunner := by
  unfold State.withdrawRunner
  repeat' first
    | with_reducible assumption | with_reducible apply kept_csWithdraw | exact fun _ k => k | intro _
    | dsimp only | split

/-! ### Ends, which may take the Runner to IDLE -/

/-- A run that goes on from a Runner that is not IDLE leaves alone what it left alone before. -/
theorem kept_go {f : State → State} (h : Kept False s0 s) (hr : s.pr.state ≠ .idle)
    (k : Live True s → Kept True s s → Kept True s (f s)) : Kept False s0 (f s) :=
  h.after (k ⟨trivial, hr⟩ (Kept.refl True s))

/-- A RUNNING Runner is not IDLE. -/
theorem running_ne {x : RunState} (e : x = .running) : x ≠ .idle := by rw [e]; nofun

theorem kept_doSkip (h : Kept False s0 s) : Kept False s0 s.doSkip := by
  unfold State.doSkip
  have k : Kept False s0 s.advance.dropPrepared := kept_dropPrepared (kept_advance h)
  dsimp only
  split
  · exact k
  · split
    · rename_i e
      exact kept_go k (running_ne e) fun r => kept_boundary r
    · rename_i e
      exact kept_go (f := fun x => x.boundaryBy id) k (fun i => absurd (e.symm.trans i) nofun) fun r => kept_boundaryBy r fun _ => id
    · exact k

theorem kept_afterWork {next : State → State} (hn : Kept False s0 s → Kept False s0 (next s))
    (h : Kept False s0 s) : Kept False s0 (s.afterWork next) := by
  unfold State.afterWork
  split
  · exact kept_abortEnd h
  · split
    · exact kept_doSkip h
    · exact hn h

theorem kept_runnerCycleDone (h : Kept False s0 s) : Kept False s0 s.runnerCycleDone := by
  refine kept_afterWork (fun h => ?_) h
  split
  · exact h
  · rename_i r _
    have k : Kept False s0
        (s.setPr { s.pr with iter := s.pr.iter + 1, singleStep := true, noticeDue := true }) :=
      kept_setPr h rfl Iff.rfl
    dsimp only
    split
    · split
      · rename_i e
        exact kept_go k (running_ne e) fun r => kept_finishStep r
      · exact kept_advance k
    · split
      · rename_i e
        exact kept_go (f := fun x => x.nextIteration r) k (running_ne e) fun l => kept_nextIteration l r
      · exact kept_inPhase _ k

theorem kept_runnerCycleAborted (h : Kept False s0 s) : Kept False s0 s.runnerCycleAborted := by
  refine kept_afterWork (fun h => ?_) h
  split
  · rename_i e
    exact kept_go (f := fun x => x.toHeld _) h (running_ne e) fun r => kept_toHeld r _
  · exact h

theorem kept_runnerMoveDone (h : Kept False s0 s) : Kept False s0 s.runnerMoveDone := by
  refine kept_afterWork (fun h => ?_) h
  split <;> rename_i e
  · exact kept_go h (running_ne (of_decide_eq_true e)) fun r => kept_positioned r
  · exact kept_go h (running_ne (of_decide_eq_true e)) fun r => kept_retracted r
  · exact kept_go h (running_ne (of_decide_eq_true e)) fun r => kept_finishStep r
  · split
    · exact kept_inPhase _ h
    · exact kept_enterWait _ h
  · exact kept_advance h
  · exact h

theorem kept_runnerMoveStopped (byGuard : Bool) (h : Kept False s0 s) :
    Kept False s0 (s.runnerMoveStopped byGuard) := by
  unfold State.runnerMoveStopped
  have k : Kept False s0 (if byGuard = true ∧ s.pr.state = .running then s.toHeld .guardOpen else s) := by
    split
    · rename_i e
      exact kept_go (f := fun x => x.toHeld _) h (running_ne e.2) fun r => kept_toHeld r _
    · exact h
  generalize (if byGuard = true ∧ s.pr.state = .running then s.toHeld .guardOpen else s) = t at k
  dsimp only
  split
  · exact kept_abortEnd h
  · split
    · exact kept_doSkip k
    · exact k

theorem kept_runnerTurnDone (h : Kept False s0 s) : Kept False s0 s.runnerTurnDone := by
  refine kept_afterWork (fun h => ?_) h
  split
  · rename_i e
    exact kept_go h (running_ne e) fun r => kept_handContact r
  · exact kept_inPhase _ h

theorem kept_runnerTurnStopped (byGuard : Bool) (h : Kept False s0 s) :
    Kept False s0 (s.runnerTurnStopped byGuard) := by
  refine kept_afterWork (fun h => ?_) h
  split
  · rename_i e
    exact kept_go (f := fun x => x.toHeld _) h (running_ne e.2) fun r => kept_toHeld r _
  · exact h

theorem kept_pendingAtArmed (h : Kept False s0 s) : Kept False s0 s.pendingAtArmed := by
  unfold State.pendingAtArmed
  split
  · exact kept_afterWork id (kept_withdrawRunner h)
  · exact h

theorem kept_takeHold (h : Kept False s0 s) : Kept False s0 s.takeHold := by
  unfold State.takeHold
  split
  · rename_i e
    split
    · refine kept_go (f := fun x => x.withdrawRunner.toHeld _) h (fun i => ?_) fun r k =>
        kept_toHeld r _ (kept_withdrawRunner k)
      simp [State.atHoldPoint, i] at e
    · exact h
  · exact h

theorem kept_lookReady (hr : Live L s0) {w ls : Nat} (h : Kept L s0 s) :
    Kept L s0 (((s.setGt { s.gt with prepared := some (w, ls) }).setPr
      { s.pr with phase := .retract, retractPos := s.clearOf ls }).handRetract) :=
  kept_handRetract hr (kept_setPr (kept_setGt h) rfl Iff.rfl)

theorem kept_infeedLook (h : Kept False s0 s) : Kept False s0 s.infeedLook := by
  unfold State.infeedLook
  split
  · rename_i e
    split
    · split
      · exact kept_checkFault _ _ h
      · exact h.after (kept_lookReady ⟨trivial, running_ne e.1⟩ (Kept.refl True s))
    · split
      · exact kept_go (f := fun x => x.toHeld _) h (running_ne e.1) fun r => kept_toHeld r _
      · exact h
    · exact h
  · exact h

theorem kept_handAgain (h : Kept False s0 s) : Kept False s0 s.handAgain := by
  unfold State.handAgain
  split
  · exact h
  · rename_i e
    refine kept_go (f := fun x =>
      match x.pr.waits with
      | .nothing => x
      | .cycle => if x.cs.state = .ready then x.holdOr State.handCycle else x
      | .move =>
        match x.gaugeBusy, x.pr.phase with
        | false, .positioning => x.handPositioning
        | false, .retract => x.handRetract
        | false, .contact => x.handContact
        | _, _ => x) h (running_ne (Decidable.not_not.1 e)) fun r k => ?_
    split
    · exact k
    · split
      · exact kept_holdOr r (fun _ => kept_handCycle) k
      · exact k
    · split
      · exact kept_handPositioning r k
      · exact kept_handRetract r k
      · exact kept_handContact r k
      · exact k

end Sys2Proof.Machine
end

