-- ==== Sys2Proof/Laws/KeptRunRequests.lean ====
section
/-! SUPPORT. What the operations of the Runner's requests leave alone (`Kept`), one lemma each. -/

set_option linter.unreachableTactic false
set_option linter.unusedTactic false

namespace Sys2Proof.Machine

variable {L : Prop} {s0 s : State}

theorem kept_decideSelect (body : List Byte) (h : Kept False s0 s) : Kept False s0 (decideSelect body s).1 := by
  unfold decideSelect
  dsimp only
  split
  · exact h
  · rename_i e
    obtain ⟨e1, e⟩ := firstRefusal_cons e
    obtain ⟨e2, e⟩ := firstRefusal_cons e
    obtain ⟨e3, -⟩ := firstRefusal_cons e
    cases hp : s.program (fieldAt body 0 1) with
    | none => rw [hp] at e2; cases e2
    | some p =>
      rw [hp] at e3
      refine kept_setPr_of (fun _ _ => ⟨⟨nofun, fun z => ?_⟩, fun _ => ⟨p, hp, by simpa using e3⟩⟩) nofun h
      simp [programNumber, show fieldAt body 0 1 = 0 from z] at e1

theorem kept_decideRun (body : List Byte) (h : Kept False s0 s) : Kept False s0 (decideRun body s).1 := by
  unfold decideRun
  dsimp only
  split
  · exact h
  · rename_i e
    obtain ⟨-, e⟩ := firstRefusal_cons e
    obtain ⟨e, -⟩ := firstRefusal_cons e
    refine kept_go (f := fun x => State.resume (x.setPr _)) h (fun i => ?_) fun r k =>
      kept_resume r (kept_setPr_live r k rfl nofun)
    simp [i] at e

theorem kept_decideHold (h : Kept False s0 s) : Kept False s0 (decideHold s).1 := by
  unfold decideHold
  try dsimp only [refuse, take]
  repeat' first
    | with_reducible assumption | with_reducible apply kept_setPr | exact rfl | exact Iff.rfl | exact fun _ k => k | intro _ | dsimp only | split

theorem kept_decideSkip (h : Kept False s0 s) : Kept False s0 (decideSkip s).1 := by
  unfold decideSkip
  try dsimp only [refuse, take]
  repeat' first
    | with_reducible assumption | with_reducible apply kept_withdrawRunner | with_reducible apply kept_doSkip
    | with_reducible apply kept_setPr | exact rfl | exact Iff.rfl | exact fun _ k => k
    | intro _ | dsimp only | split

theorem kept_decideAbort (h : Kept False s0 s) : Kept False s0 (decideAbort s).1 := by
  unfold decideAbort
  try dsimp only [refuse, take]
  repeat' first
    | with_reducible assumption | with_reducible apply kept_goIdle | with_reducible apply kept_withdrawRunner
    | with_reducible apply kept_abortEnd | with_reducible apply kept_setPr | exact rfl | exact Iff.rfl | exact fun _ k => k | intro _ | dsimp only | split

theorem kept_locateAt (program index : Nat) (hi : s.pr.state ≠ .idle)
    (hc : progLookup s.ps.programs 0 = none → RunnerOk s.pr s.ps.programs →
      ∃ p, s.program program = some p ∧ p.complete = true) (h : Kept False s0 s) :
    Kept False s0 (s.locateAt program index) := by
  unfold State.locateAt
  refine kept_dropPrepared (kept_setPr_of (fun hz ok => ⟨⟨fun e => absurd e hi, fun e => ?_⟩, fun _ => hc hz ok⟩)
    nofun h)
  obtain ⟨p, hp, -⟩ := hc hz ok
  rw [State.program, show program = 0 from e, hz] at hp
  cases hp

theorem kept_locateByIndex (program index : Nat) (follow : Nat) (h : Kept False s0 s) :
    Kept False s0 (locateByIndex program index follow s).1 := by
  unfold locateByIndex
  dsimp only
  split
  · exact h
  · rename_i e
    obtain ⟨-, e⟩ := firstRefusal_cons e
    obtain ⟨e2, e⟩ := firstRefusal_cons e
    obtain ⟨e3, e⟩ := firstRefusal_cons e
    obtain ⟨e4, -⟩ := firstRefusal_cons e
    refine kept_locateAt _ _ (fun k => ?_) (fun _ _ => ?_) h
    · simp [State.locateBarred, k] at e4
    · cases hp : s.program program with
      | none => simp [hp] at e2
      | some p => exact ⟨p, rfl, by simpa [hp] using e3⟩

/-- A label search stops in a complete program, when it starts in one (R89). -/
theorem searchLabel_complete (s : State) (label : Nat) (follow : Bool) (fuel n from_ m i : Nat)
    (hn : ∀ p, s.program n = some p → p.complete = true) (e : searchLabel s label follow fuel n from_ = some (m, i)) :
    ∃ p, s.program m = some p ∧ p.complete = true := by
  induction fuel generalizing n from_ with
  | zero => cases e
  | succ fuel ih =>
    unfold searchLabel at e
    split at e
    · cases e
    · rename_i p hp
      split at e
      · cases e
        exact ⟨p, hp, hn p hp⟩
      · split at e
        · split at e
          · rename_i l _ hc
            refine ih l 0 (fun q hq => ?_) e
            rw [hq] at hc
            exact hc
          · cases e
        · cases e

theorem kept_locateLabel (label follow : Nat) (h : Kept False s0 s) : Kept False s0 (locateLabel label follow s).1 := by
  unfold locateLabel
  split
  · exact h
  · split
    · exact h
    · split
      · exact h
      · rename_i hi _ n i e
        split
        · exact h
        · refine kept_locateAt _ _ hi (fun hz ok => ?_) h
          refine searchLabel_complete s _ _ _ _ _ n i (fun p hp => ?_) e
          by_cases h0 : s.pr.program = 0
          · rw [State.program, h0, hz] at hp
            cases hp
          · obtain ⟨q, hq, hc⟩ := ok.2 h0
            rw [State.program, hq] at hp
            cases hp
            exact hc

theorem kept_decideLocate (body : List Byte) (h : Kept False s0 s) : Kept False s0 (decideLocate body s).1 := by
  unfold decideLocate
  try dsimp only [refuse, take]
  repeat' first
    | with_reducible assumption | with_reducible apply kept_locateByIndex
    | with_reducible apply kept_locateLabel | exact fun _ k => k | intro _ | dsimp only | split

theorem kept_runnerCleared (h : Kept False s0 s) : Kept False s0 s.runnerCleared := by
  unfold State.runnerCleared
  have k : Kept False s0 (s.setPr { s.pr with fault := none, second := false }) := kept_setPr h rfl Iff.rfl
  dsimp only
  split
  · rename_i e
    exact kept_go (f := fun x => x.toHeld _) k (fun i => absurd (e.symm.trans i) nofun) fun r => kept_toHeld r _
  · exact k

theorem kept_slotCleared (h : Kept False s0 s) : Kept False s0 s.slotCleared := by
  unfold State.slotCleared
  repeat' first
    | with_reducible assumption | with_reducible apply kept_slotEnter | exact fun _ k => k | intro _
    | dsimp only | split

theorem kept_gaugeCleared (h : Kept False s0 s) : Kept False s0 s.gaugeCleared := by
  unfold State.gaugeCleared
  split
  · rename_i e
    refine kept_setBg h fun ok => ⟨?_, ?_, fun k => ?_, fun k => ?_, ok.segments⟩
    · rw [ok.flag, e]; rfl
    · rw [← ok.moves, e]; rfl
    · have := ok.dwells k
      rw [e] at this
      cases this
    · have := ok.inPosition k
      rw [e] at this
      cases this
  · exact h

theorem kept_decideClearFault (h : Kept False s0 s) : Kept False s0 (decideClearFault s).1 := by
  unfold decideClearFault
  split
  · exact h
  · exact kept_csClearFault (kept_gaugeCleared (kept_slotCleared (kept_setHs (kept_runnerCleared h)
      Supply.clearFault_ok)))

theorem kept_decideLineHalt (body : List Byte) (h : Kept False s0 s) : Kept False s0 (decideLineHalt body s).1 := by
  unfold decideLineHalt
  try dsimp only [refuse, take]
  repeat' first
    | with_reducible assumption | with_reducible apply kept_setPr | exact rfl | exact Iff.rfl | exact fun _ k => k | intro _ | dsimp only | split

theorem kept_placed (hr : Live L s0) (h : Kept L s0 s) : Kept L s0 s.placed := by
  unfold State.placed
  repeat' first
    | with_reducible assumption | with_reducible apply kept_openWith | with_reducible apply kept_slotEmptied
    | with_reducible apply kept_handContact | with_reducible apply kept_recallTop | exact fun _ k => k
    | intro _ | dsimp only | split

theorem kept_removed (hr : Live L s0) (h : Kept L s0 s) : Kept L s0 s.removed := by
  unfold State.removed
  repeat' first
    | with_reducible assumption | with_reducible apply kept_eject | with_reducible apply kept_finishStep
    | exact fun _ k => k | intro _ | dsimp only | split

theorem kept_pauseConfirmed (hr : Live L s0) (h : Kept L s0 s) : Kept L s0 s.pauseConfirmed :=
  kept_boundary hr (kept_setPr_live hr h rfl nofun)

theorem kept_confirmed (h : Kept False s0 s) : ∀ t, s.confirmed = some t → Kept False s0 t := by
  unfold State.confirmed
  intro t e
  split at e <;> rename_i a _ <;> cases e
  · exact kept_go h (running_ne a) fun r => kept_placed r
  · exact kept_go h (running_ne a) fun r => kept_removed r
  · exact kept_go h (fun i => absurd (a.symm.trans i) nofun) fun r => kept_pauseConfirmed r

theorem kept_decideConfirm (h : Kept False s0 s) : Kept False s0 (decideConfirm s).1 := by
  unfold decideConfirm
  split
  · exact kept_confirmed h _ ‹_›
  · exact h

end Sys2Proof.Machine
end

