-- ==== Sys2Proof/Laws/KeptEnds.lean ====
section
/-! SUPPORT. What the operations of the ends of operations leave alone (`Kept`), one lemma each. -/

set_option linter.unreachableTactic false
set_option linter.unusedTactic false

namespace Sys2Proof.Machine

variable {s0 s : State}

theorem kept_cycleCompleted (c : Cycle) (h : Kept False s0 s) : Kept False s0 (s.cycleCompleted c) := by
  unfold State.cycleCompleted
  repeat' first
    | with_reducible assumption | with_reducible apply kept_applyCut
    | with_reducible apply kept_runnerCycleDone | exact fun _ k => k | intro _ | dsimp only | split

theorem kept_cycleAborted (c : Cycle) (h : Kept False s0 s) : Kept False s0 (s.cycleAborted c) := by
  unfold State.cycleAborted
  repeat' first
    | with_reducible assumption | with_reducible apply kept_applyAborted
    | with_reducible apply kept_reportFault | with_reducible apply kept_runnerCycleAborted
    | exact fun _ k => k | intro _ | dsimp only | split

theorem kept_cycleDropped (c : Cycle) (cause : Nat) (h : Kept False s0 s) :
    Kept False s0 (s.cycleDropped c cause) := by
  unfold State.cycleDropped
  split
  · exact kept_cutNowEnded _ h
  · split
    · exact kept_afterWork id h
    · exact h

theorem kept_cycleCut (c : Option Cycle) (cause : Nat) (h : Kept False s0 s) : Kept False s0 (s.cycleCut c cause) := by
  unfold State.cycleCut
  repeat' first
    | with_reducible assumption | with_reducible apply kept_cycleAborted
    | with_reducible apply kept_cycleDropped | exact fun _ k => k | intro _ | dsimp only | split

theorem kept_returnEnded (h : Kept False s0 s) : Kept False s0 s.returnEnded := by
  unfold State.returnEnded
  repeat' first
    | with_reducible assumption | with_reducible apply kept_release | with_reducible apply kept_cycleCompleted
    | with_reducible apply kept_cycleCut | with_reducible apply kept_setCs | exact fun _ k => k | intro _
    | dsimp only | split

theorem kept_recoverEnded (h : Kept False s0 s) : Kept False s0 s.recoverEnded := by
  unfold State.recoverEnded
  repeat' first
    | with_reducible assumption | with_reducible apply kept_release | with_reducible apply kept_cycleCompleted
    | with_reducible apply kept_setCs | exact fun _ k => k | intro _ | dsimp only | split

theorem kept_clampTimedOut (h : Kept False s0 s) : Kept False s0 s.clampTimedOut := by
  unfold State.clampTimedOut
  repeat' first
    | with_reducible assumption | with_reducible apply kept_release | with_reducible apply kept_reportFault
    | with_reducible apply kept_cycleDropped | with_reducible apply kept_setCs | exact fun _ k => k | intro _
    | dsimp only | split

theorem kept_returnCut (h : Kept False s0 s) : Kept False s0 s.returnCut := by
  unfold State.returnCut
  repeat' first
    | with_reducible assumption | with_reducible apply kept_stopKnife | with_reducible apply kept_setCs
    | exact fun _ k => k | intro _ | dsimp only | split

theorem kept_csRevoked (h : Kept False s0 s) : Kept False s0 s.csRevoked := by
  unfold State.csRevoked
  repeat' first
    | with_reducible assumption | with_reducible apply kept_stopKnife | with_reducible apply kept_cycleCut
    | with_reducible apply kept_returnCut | with_reducible apply kept_recoverRequest
    | with_reducible apply kept_setCs | exact fun _ k => k | intro _ | dsimp only | split

theorem kept_waitingCutEnds (cause : Nat) (h : Kept False s0 s) : Kept False s0 (s.waitingCutEnds cause) := by
  unfold State.waitingCutEnds
  repeat' first
    | with_reducible assumption | with_reducible apply kept_cutNowEnded | with_reducible apply kept_setCs
    | exact fun _ k => k | intro _ | dsimp only | split

theorem kept_csEstop (h : Kept False s0 s) : Kept False s0 s.csEstop := by
  unfold State.csEstop
  repeat' first
    | with_reducible assumption | with_reducible apply kept_homeOrRecover | with_reducible apply kept_cycleCut
    | with_reducible apply kept_stopKnife | with_reducible apply kept_returnCut
    | with_reducible apply kept_waitingCutEnds | with_reducible apply kept_setCs | exact fun _ k => k
    | intro _ | dsimp only | split

theorem kept_csReset (h : Kept False s0 s) : Kept False s0 s.csReset := by
  unfold State.csReset
  repeat' first
    | with_reducible assumption | with_reducible apply kept_csWithdraw | with_reducible apply kept_cycleCut
    | with_reducible apply kept_waitingCutEnds | with_reducible apply kept_setCs | exact fun _ k => k
    | intro _ | dsimp only | split

theorem kept_csFollow (h : Kept False s0 s) : Kept False s0 s.csFollow := by
  unfold State.csFollow
  repeat' first
    | with_reducible assumption | with_reducible apply kept_csWithdraw | with_reducible apply kept_cutNowEnded
    | exact fun _ k => k | intro _ | dsimp only | split

theorem kept_manualCutNext (h : Kept False s0 s) : Kept False s0 s.manualCutNext := by
  unfold State.manualCutNext
  repeat' first
    | with_reducible assumption | with_reducible apply kept_cutNowEnded | with_reducible apply kept_csTake
    | with_reducible apply kept_setCs | exact fun _ k => k | intro _ | dsimp only | split

theorem kept_manualCutApproached (backward : Bool) (h : Kept False s0 s) : Kept False s0 (s.manualCutApproached backward) := by
  unfold State.manualCutApproached
  repeat' first
    | with_reducible assumption | with_reducible apply kept_warnBackward
    | with_reducible apply kept_manualCutNext | with_reducible apply kept_setCs | exact fun _ k => k | intro _
    | dsimp only | split

theorem kept_manualCutFailed (cause : Nat) (h : Kept False s0 s) : Kept False s0 (s.manualCutFailed cause) := by
  unfold State.manualCutFailed
  repeat' first
    | with_reducible assumption | with_reducible apply kept_cutNowEnded | with_reducible apply kept_setCs
    | exact fun _ k => k | intro _ | dsimp only | split

theorem kept_manualTurnEnds (cause : Int) (h : Kept False s0 s) : Kept False s0 (s.manualTurnEnds cause) := by
  unfold State.manualTurnEnds
  repeat' first
    | with_reducible assumption | with_reducible apply kept_turnEnded | with_reducible apply kept_setPt
    | exact fun _ k => k | intro _ | dsimp only | split

theorem kept_manualTurnRetracted (h : Kept False s0 s) : Kept False s0 s.manualTurnRetracted := by
  unfold State.manualTurnRetracted
  repeat' first
    | with_reducible assumption | with_reducible apply kept_manualTurnEnds
    | with_reducible apply kept_turnTaken | with_reducible apply kept_setPt | exact fun _ k => k | intro _
    | dsimp only | split

theorem kept_manualTurnContacted (backward : Bool) (h : Kept False s0 s) : Kept False s0 (s.manualTurnContacted backward) := by
  unfold State.manualTurnContacted
  repeat' first
    | with_reducible assumption | with_reducible apply kept_warnBackward
    | with_reducible apply kept_manualTurnEnds | exact fun _ k => k | intro _ | dsimp only | split

theorem kept_manualTurnMade (m : ManualTurn) (h : Kept False s0 s) : Kept False s0 (s.manualTurnMade m) := by
  unfold State.manualTurnMade
  split
  · exact kept_manualTurnEnds _ h
  · split
    · exact kept_manualTurnEnds _ h
    · dsimp only
      have h1 := kept_setPt (x := { s.pt with manual := some { m with stage := .contact } }) h
      split
      · exact kept_manualTurnEnds _ h1
      · rename_i e
        have k := kept_approach .manualTurn false .approach
          (s.setPt { s.pt with manual := some { m with stage := .contact } }).contactPosition
          (State.moveRefusal_none e) h1
        split <;> rename_i e2 <;> rw [e2] at k
        · exact k
        · exact kept_manualTurnContacted _ k

theorem kept_manualTurnMoved (backward : Bool) (h : Kept False s0 s) : Kept False s0 (s.manualTurnMoved backward) := by
  unfold State.manualTurnMoved
  repeat' first
    | with_reducible assumption | with_reducible apply kept_manualTurnContacted
    | with_reducible apply kept_manualTurnRetracted | exact fun _ k => k | intro _ | dsimp only | split

theorem kept_turnReported (r : TurnRec) (h : Kept False s0 s) : Kept False s0 (s.turnReported r) := by
  unfold State.turnReported
  repeat' first
    | with_reducible assumption | with_reducible apply kept_runnerTurnDone
    | with_reducible apply kept_manualTurnMade | with_reducible apply kept_turnEnded | exact fun _ k => k
    | intro _ | dsimp only | split

theorem kept_parkMade (h : Kept False s0 s) : Kept False s0 s.parkMade := by
  unfold State.parkMade
  repeat' first
    | with_reducible assumption | with_reducible apply kept_release | with_reducible apply kept_applyTurn
    | with_reducible apply kept_turnReported | with_reducible apply kept_turnEnded
    | with_reducible apply kept_setPt | exact fun _ k => k | intro _ | dsimp only | split

theorem kept_turnGivenUp (cause : Nat) (h : Kept False s0 s) : Kept False s0 (s.turnGivenUp cause) := by
  unfold State.turnGivenUp
  repeat' first
    | with_reducible assumption | with_reducible apply kept_giveUp | exact fun _ k => k | intro _ | dsimp only
    | split

theorem kept_turnInterrupted (cause : Nat) (h : Kept False s0 s) : Kept False s0 (s.turnInterrupted cause) := by
  unfold State.turnInterrupted
  repeat' first
    | with_reducible assumption | with_reducible apply kept_turnGivenUp | with_reducible apply kept_turnEnded
    | with_reducible apply kept_runnerTurnStopped | with_reducible apply kept_manualTurnEnds
    | with_reducible apply kept_setPt | exact fun _ k => k | intro _ | dsimp only | split

theorem kept_ptReset (h : Kept False s0 s) : Kept False s0 s.ptReset := by
  unfold State.ptReset
  repeat' first
    | with_reducible assumption | with_reducible apply kept_setPt | exact fun _ k => k | intro _ | dsimp only
    | split

theorem kept_slotAfter (o : MoveEnd) (h : Kept False s0 s) : Kept False s0 (s.slotAfter o) := by
  unfold State.slotAfter
  repeat' first
    | with_reducible assumption | with_reducible apply kept_slotNext | with_reducible apply kept_slotCancel
    | exact fun _ k => k | intro _ | dsimp only | split

theorem kept_moveDoneAt (m : Move) (backward : Bool) (h : Kept False s0 s) : Kept False s0 (s.moveDoneAt m backward) := by
  unfold State.moveDoneAt
  repeat' first
    | with_reducible assumption | with_reducible apply kept_warnBackward
    | with_reducible apply kept_runnerMoveDone | with_reducible apply kept_manualCutApproached
    | with_reducible apply kept_manualTurnMoved | with_reducible apply kept_gaugeDone
    | with_reducible apply kept_slotNext | exact fun _ k => k | intro _ | dsimp only | split

theorem kept_moveCutAt (m : Move) (e : MoveEnd) (h : Kept False s0 s) : Kept False s0 (s.moveCutAt m e) := by
  unfold State.moveCutAt
  repeat' first
    | with_reducible assumption | with_reducible apply kept_runnerMoveStopped
    | with_reducible apply kept_manualCutFailed | with_reducible apply kept_manualTurnEnds
    | with_reducible apply kept_gaugeDone | with_reducible apply kept_slotAfter | exact fun _ k => k | intro _
    | dsimp only | split

theorem kept_gaugeSegmentEnd (h : Kept False s0 s) : Kept False s0 s.gaugeSegmentEnd := by
  unfold State.gaugeSegmentEnd
  have k := kept_segmentEnded h
  split <;> rename_i e <;> rw [e] at k
  · exact kept_moveDoneAt _ _ k
  · exact k

theorem kept_gaugeGuard (h : Kept False s0 s) : Kept False s0 s.gaugeGuard := by
  unfold State.gaugeGuard
  split
  · rename_i hb
    split
    · exact kept_moveCutAt _ _ (kept_gaugeStopped hb h)
    · exact kept_gaugeStopped hb h
  · exact h

theorem kept_gaugeFault (k : FaultKind) (detail : Int) (h : Kept False s0 s) : Kept False s0 (s.gaugeFault k detail) := by
  unfold State.gaugeFault
  repeat' first
    | with_reducible assumption | with_reducible apply kept_gaugeFaulted
    | with_reducible apply kept_reportFault | with_reducible apply kept_moveCutAt
    | with_reducible apply kept_slotCancel | exact fun _ k => k | intro _ | dsimp only | split

theorem kept_gaugeEstop (h : Kept False s0 s) : Kept False s0 s.gaugeEstop := by
  unfold State.gaugeEstop
  refine kept_slotCancel ?_
  split
  · rename_i hb
    split
    · exact kept_moveCutAt _ _ (kept_gaugeStopped hb h)
    · exact kept_gaugeStopped hb h
  · exact kept_notInPos h

theorem kept_gaugeReset (h : Kept False s0 s) : Kept False s0 s.gaugeReset := by
  unfold State.gaugeReset
  refine kept_slotCancel ?_
  split
  · rename_i hb
    split
    · exact kept_moveCutAt _ _ (kept_gaugeStopped hb h)
    · exact kept_gaugeStopped hb h
  · exact h

theorem kept_raiseEnded (m : Nat) (h : Kept False s0 s) : Kept False s0 (s.raiseEnded m) := by
  unfold State.raiseEnded
  repeat' first
    | with_reducible assumption | with_reducible apply kept_raiseMeasured | with_reducible apply kept_release
    | exact fun _ k => k | intro _ | dsimp only | split

theorem kept_raiseExpired (h : Kept False s0 s) : Kept False s0 s.raiseExpired := by
  unfold State.raiseExpired
  repeat' first
    | with_reducible assumption | with_reducible apply kept_raiseTimedOut | with_reducible apply kept_release
    | exact fun _ k => k | intro _ | dsimp only | split

theorem kept_holderRevoked (o : Option Consumer) (h : Kept False s0 s) : Kept False s0 (s.holderRevoked o) := by
  unfold State.holderRevoked
  repeat' first
    | with_reducible assumption | with_reducible apply kept_csRevoked | with_reducible apply kept_liftRevoked
    | with_reducible apply kept_turnInterrupted | exact fun _ k => k | intro _ | dsimp only | split

theorem kept_pressureFails (faultFirst : Bool) (h : Kept False s0 s) : Kept False s0 (s.pressureFails faultFirst) := by
  unfold State.pressureFails
  split
  · exact h
  · rename_i e
    have h1 : Kept False s0 (s.setHs s.hs.pressureGone) :=
      kept_setHs h (Supply.pressureGone_ok (by simpa using e))
    dsimp only
    split
    · exact kept_holderRevoked _ (kept_flush (kept_reportFault _ _ h1))
    · exact kept_reportFault _ _ (kept_flush (kept_holderRevoked _ h1))

theorem kept_renewRequests (h : Kept False s0 s) : Kept False s0 s.renewRequests := by
  unfold State.renewRequests
  repeat' first
    | with_reducible assumption | with_reducible apply kept_recoverRequest | with_reducible apply kept_request
    | with_reducible apply kept_gripRequest | exact fun _ k => k | intro _ | dsimp only | split

theorem kept_settle (h : Kept False s0 s) : Kept False s0 s.settle := by
  unfold State.settle
  repeat' first
    | with_reducible assumption | with_reducible apply kept_pendingAtArmed
    | with_reducible apply kept_handAgain | with_reducible apply kept_takeHold
    | with_reducible apply kept_infeedLook | with_reducible apply kept_csFollow
    | with_reducible apply kept_manualCutNext | with_reducible apply kept_renewRequests
    | with_reducible apply kept_flush | exact fun _ k => k | intro _ | dsimp only | split

end Sys2Proof.Machine
end

