-- ==== Sys2Proof/Laws/KeptManualRequests.lean ====
section
/-! SUPPORT. What the operations of the manual requests leave alone (`Kept`), one lemma each. -/

set_option linter.unreachableTactic false
set_option linter.unusedTactic false

namespace Sys2Proof.Machine

variable {s0 s : State}

theorem kept_decideGaugeMove (body : List Byte) (h : Kept False s0 s) : Kept False s0 (decideGaugeMove body s).1 := by
  unfold decideGaugeMove
  dsimp only
  split
  · exact h
  · rename_i e
    split
    · exact kept_setSlot _ h
    · rename_i hb
      obtain ⟨-, e⟩ := firstRefusal_cons e
      obtain ⟨-, e⟩ := firstRefusal_cons e
      obtain ⟨-, e⟩ := firstRefusal_cons e
      obtain ⟨e, -⟩ := firstRefusal_cons e
      have k := kept_approach .gaugeMove false .approach (signedAt body 0 4)
        (by simpa [Bool.eq_false_iff.2 hb] using e) h
      split <;> rename_i e2 <;> rw [e2] at k
      · exact k
      · exact kept_gaugeDone _ _ _ _ _ k

theorem kept_decideGaugeReference (h : Kept False s0 s) : Kept False s0 (decideGaugeReference s).1 := by
  unfold decideGaugeReference
  try dsimp only [refuse, take]
  repeat' first
    | with_reducible assumption | with_reducible apply kept_startReference | exact fun _ k => k | intro _
    | dsimp only | split

theorem State.warnSaturated_bg (s : State) (x : Target) : (s.warnSaturated x).bg = s.bg := by
  unfold State.warnSaturated State.loadWarning State.warn
  split
  · rfl
  · dsimp only
    split <;> rfl

theorem kept_cutNowTaken (d : Disposition) (x : Target) (hr : s.bg.referenced = true) (h : Kept False s0 s) :
    Kept False s0 (s.cutNowTaken d x) := by
  unfold State.cutNowTaken
  dsimp only
  have k := kept_approach .manualCut false .approach x.target
    (s := (s.warnSaturated x).setCs { s.cs with manual := some ⟨s.manualCycle d x, false⟩ })
    (by rw [State.bg_setCs, s.warnSaturated_bg x]; exact hr) (kept_setCs (kept_warnSaturated x h))
  split <;> rename_i e2 <;> rw [e2] at k
  · exact k
  · exact kept_manualCutApproached _ k

theorem kept_decideCutNow (body : List Byte) (h : Kept False s0 s) : Kept False s0 (decideCutNow body s).1 := by
  unfold decideCutNow
  dsimp only
  split
  · exact h
  · rename_i e _
    unfold State.cutNowRefusal at e
    obtain ⟨-, e⟩ := firstRefusal_cons e
    obtain ⟨-, e⟩ := firstRefusal_cons e
    obtain ⟨-, e⟩ := firstRefusal_cons e
    obtain ⟨-, e⟩ := firstRefusal_cons e
    obtain ⟨e, -⟩ := firstRefusal_cons e
    exact kept_cutNowTaken _ _ (by simpa using e) h
  · exact h

theorem kept_turnNowTaken (n : Nat) (r : Int) (hr : s.bg.referenced = true) (h : Kept False s0 s) :
    Kept False s0 (s.turnNowTaken n r) := by
  unfold State.turnNowTaken
  dsimp only
  have k := kept_retract .manualTurn r
    (s := s.setPt { s.pt with manual := some ⟨n, r, s.gt.openLoad.isSome, s.loadId, .retract, false⟩ }) hr
    (kept_setPt h)
  split <;> rename_i e2 <;> rw [e2] at k
  · exact k
  · exact kept_manualTurnRetracted k

theorem kept_decideTurnNow (body : List Byte) (h : Kept False s0 s) : Kept False s0 (decideTurnNow body s).1 := by
  unfold decideTurnNow
  dsimp only
  split
  · exact h
  · rename_i e _
    obtain ⟨-, e⟩ := firstRefusal_cons e
    obtain ⟨-, e⟩ := firstRefusal_cons e
    obtain ⟨-, e⟩ := firstRefusal_cons e
    obtain ⟨-, e⟩ := firstRefusal_cons e
    obtain ⟨e, -⟩ := firstRefusal_cons e
    exact kept_turnNowTaken _ _ (by simpa using e) h
  · exact h

theorem kept_startRaise (k : RaiseKind)
    (hz : k = .initial → ∀ p, s.pl.pile = some p → p.taken = 0 ∧ p.restored = 0) (h : Kept False s0 s) :
    Kept False s0 (s.startRaise k) := by
  unfold State.startRaise
  exact kept_request _ (kept_setPl h fun ok => ⟨ok.law, fun e => hz (by simpa using e)⟩)

theorem kept_decideNewPile (body : List Byte) (h : Kept False s0 s) : Kept False s0 (decideNewPile body s).1 := by
  unfold decideNewPile
  dsimp only
  split
  · exact h
  · refine kept_startRaise _ (fun _ p e => ?_) (kept_setPl h fun _ => ⟨fun p e => ?_, fun _ p e => ?_⟩) <;>
      cases e
    · exact ⟨rfl, rfl⟩
    · rfl
    · exact ⟨rfl, rfl⟩

theorem kept_decideLiftLower (h : Kept False s0 s) : Kept False s0 (decideLiftLower s).1 := by
  unfold decideLiftLower
  dsimp only
  split
  · exact h
  · have k : Kept False s0 ((s.setPl { s.pl with
        state := .lowering, raising := none, pile := none, lowerValve := true }).setJg s.slotForLower) :=
      kept_setJg (kept_setPl h fun _ => ⟨nofun, nofun⟩)
    split
    · exact kept_reachedFloor k
    · exact k

theorem kept_floorMade (h : Kept False s0 s) : Kept False s0 s.floorMade := by
  unfold State.floorMade
  repeat' first
    | with_reducible assumption | with_reducible apply kept_reachedFloor | exact fun _ k => k | intro _
    | dsimp only | split

theorem kept_jogStarted (h : Kept False s0 s) : ∀ t, s.jogStarted = some t → Kept False s0 t := by
  unfold State.jogStarted
  intro t e
  split at e <;> cases e
  · exact kept_startRaise _ nofun (kept_startJog (kept_setJg h))
  all_goals first
    | exact kept_startJog (kept_setJg h)
    | skip
  split
  · exact kept_startRaise _ nofun (kept_startJog h)
  · exact kept_startJog h

theorem kept_decideJogStart (h : Kept False s0 s) : Kept False s0 (decideJogStart s).1 := by
  unfold decideJogStart
  split
  · exact h
  · rename_i e
    split
    · exact h
    · split
      · exact h
      · exact kept_jogStarted h _ e

theorem kept_jogButton (h : Kept False s0 s) : Kept False s0 s.jogButton := by
  unfold State.jogButton
  split
  · exact h
  · cases e : s.jogStarted with
    | none => exact h
    | some t => exact kept_jogStarted h t e

theorem kept_decideDiscard (h : Kept False s0 s) : Kept False s0 (decideDiscard s).1 := by
  unfold decideDiscard
  try dsimp only [refuse, take]
  repeat' first
    | with_reducible assumption | with_reducible apply kept_slotEmptied | exact fun _ k => k | intro _
    | dsimp only | split

theorem kept_decideJog (body : List Byte) (h : Kept False s0 s) : Kept False s0 (decideJog body s).1 := by
  unfold decideJog
  try dsimp only [refuse, take]
  repeat' first
    | with_reducible assumption | with_reducible apply kept_decideJogStart
    | with_reducible apply kept_decideDiscard | exact fun _ k => k | intro _ | dsimp only | split

end Sys2Proof.Machine
end

