-- ==== Sys2Proof/Laws/KeptSafetyMonitor.lean ====
section
/-! SUPPORT. What the operations of the events of the Safety Monitor at the blocks leave alone (`Kept`), one lemma each. -/

set_option linter.unreachableTactic false
set_option linter.unusedTactic false

namespace Sys2Proof.Machine

variable {s0 s : State}

theorem kept_safetyNotice (e : SafetyEvent) (h : Kept False s0 s) : Kept False s0 (s.safetyNotice e) := by
  unfold State.safetyNotice
  repeat' first
    | with_reducible assumption | with_reducible apply kept_raise | exact fun _ k => k | intro _ | dsimp only
    | split

theorem kept_runnerEstop (h : Kept False s0 s) : Kept False s0 s.runnerEstop := by
  unfold State.runnerEstop
  repeat' first
    | with_reducible assumption | with_reducible apply kept_reportFault | exact fun _ k => k | intro _
    | dsimp only | split

theorem kept_supplyEstop (h : Kept False s0 s) : Kept False s0 s.supplyEstop := by
  exact kept_setHs h Supply.estop_ok

theorem kept_estopAt (o : Consumers) (h : Kept False s0 s) : Kept False s0 (s.estopAt o) := by
  unfold State.estopAt
  repeat' first
    | with_reducible assumption | with_reducible apply kept_runnerEstop | with_reducible apply kept_gaugeEstop
    | with_reducible apply kept_csEstop | with_reducible apply kept_supplyEstop
    | with_reducible apply kept_infeedEstop | with_reducible apply kept_turnInterrupted | exact fun _ k => k
    | intro _ | dsimp only | split

theorem kept_guardAt (fell : Bool) (o : Consumers) (h : Kept False s0 s) : Kept False s0 (s.guardAt fell o) := by
  unfold State.guardAt
  repeat' first
    | with_reducible assumption | with_reducible apply kept_gaugeGuard
    | with_reducible apply kept_turnInterrupted | with_reducible apply kept_permissionFalls
    | exact fun _ k => k | intro _ | dsimp only | split

/-! ### Events that change the monitor itself -/

/-- The same change of the monitor on both sides. -/
theorem Kept.setSm (h : Kept False s0 s) (x : Monitor) : Kept False (s0.setSm x) (s.setSm x) :=
  { h with sm := rfl }

/-- An event handed round leaves alone what each block's response does. -/
theorem kept_deliver {respond : State → Consumers → State}
    (hr : ∀ t c, Kept False s0 t → Kept False s0 (respond t c)) (order : List Consumers) (h : Kept False s0 s) :
    Kept False s0 (s.deliver respond order) := by
  unfold State.deliver
  induction order generalizing s with
  | nil => exact h
  | cons c rest ih => exact ih (kept_flush (hr s c h))

/-- An input's effective value becoming unsafe changes the monitor first, and leaves alone what `Kept` says. -/
theorem kept_becomesUnsafe (i : SafetyIn) (order : List Consumers) (h : Kept False s0 s) :
    ∃ x, Kept False (s0.setSm x) (s.becomesUnsafe i order) := by
  have hs : s0.setSm s.sm = s0 := by rw [h.sm]; exact State.setSm_self s0
  cases i
  · exact ⟨_, kept_permissionFalls _ _ (h.setSm _)⟩
  · exact ⟨_, kept_permissionFalls _ _ (h.setSm _)⟩
  · exact ⟨_, kept_permissionFalls _ _ (h.setSm _)⟩
  · unfold State.becomesUnsafe
    dsimp only
    split
    · exact ⟨s.sm, hs.symm ▸ h⟩
    · exact ⟨_, kept_deliver (fun _ c k => kept_estopAt c k) _ (kept_safetyNotice _ (h.setSm _))⟩
  · exact ⟨_, kept_deliver (fun _ c k => kept_guardAt _ c k) _ (kept_safetyNotice _ (h.setSm _))⟩
  · exact ⟨_, kept_keyTurnsOn (kept_permissionFalls _ _ (kept_safetyNotice _ (h.setSm _)))⟩

/-- An input's effective value becoming permissive likewise. -/
theorem kept_becomesPermissive (i : SafetyIn) (now : Nat) (h : Kept False s0 s) :
    ∃ x, Kept False (s0.setSm x) (s.becomesPermissive i now) := by
  have hs : Kept False (s0.setSm s.sm) s := by
    have e : s0.setSm s.sm = s0 := by rw [h.sm]; exact State.setSm_self s0
    exact e.symm ▸ h
  have two : ∀ j, ∃ x, Kept False (s0.setSm x)
      (if (s.setSm (s.sm.pressed j now)).sm.permission = true ∧ s.sm.permission = false then
        (s.setSm (s.sm.pressed j now)).permissionRises else s.setSm (s.sm.pressed j now)) := fun j => by
    refine ⟨s.sm.pressed j now, ?_⟩
    split
    · exact kept_permissionRises (h.setSm _)
    · exact h.setSm _
  cases i
  · exact two _
  · exact two _
  · exact ⟨_, hs⟩
  · exact ⟨_, hs⟩
  · exact ⟨_, kept_safetyNotice _ hs⟩
  · exact ⟨_, kept_keyTurnsOff (kept_safetyNotice _ hs)⟩

/-- A channel change, whole (R165 to R173). -/
theorem kept_channelReads (i : SafetyIn) (c : Channel) (reading : Bool) (now : Nat) (order : List Consumers)
    (h : Kept False s0 s) : ∃ x, Kept False (s0.setSm x) (s.channelReads i c reading now order) := by
  unfold State.channelReads
  dsimp only
  generalize s.sm.setInput i _ = y
  have k : Kept False (s0.setSm y) (if (s.sm.input i).latch = true ∧ (((s.sm.input i).read c reading).follow).latch = false
      then (s.setSm y).safetyNotice (.discrepancyCleared i) else s.setSm y) := by
    split
    · exact kept_safetyNotice _ (h.setSm _)
    · exact h.setSm _
  generalize (if (s.sm.input i).latch = true ∧ (((s.sm.input i).read c reading).follow).latch = false
      then (s.setSm y).safetyNotice (.discrepancyCleared i) else s.setSm y) = t at k
  split
  · obtain ⟨x, hx⟩ := kept_becomesUnsafe i order k
    exact ⟨x, by rwa [State.setSm_twice] at hx⟩
  · obtain ⟨x, hx⟩ := kept_becomesPermissive i now k
    exact ⟨x, by rwa [State.setSm_twice] at hx⟩
  · exact ⟨y, k⟩

theorem kept_discrepancyExpires (i : SafetyIn) (h : Kept False s0 s) :
    ∃ x, Kept False (s0.setSm x) (s.discrepancyExpires i) := by
  unfold State.discrepancyExpires
  dsimp only
  split
  · exact ⟨_, kept_reportFault _ _ (kept_safetyNotice _ (h.setSm _))⟩
  · exact ⟨s.sm, (show s0.setSm s.sm = s0 by rw [h.sm]; exact State.setSm_self s0).symm ▸ h⟩

theorem kept_decideEstopAck (h : Kept False s0 s) : ∃ x, Kept False (s0.setSm x) (decideEstopAck s).1 := by
  unfold decideEstopAck
  have hs : Kept False (s0.setSm s.sm) s := by
    have e : s0.setSm s.sm = s0 := by rw [h.sm]; exact State.setSm_self s0
    exact e.symm ▸ h
  split
  · exact ⟨_, hs⟩
  · split
    · exact ⟨_, hs⟩
    · exact ⟨_, kept_pumpStart (kept_recoverRequest (kept_safetyNotice _ (h.setSm _)))⟩

end Sys2Proof.Machine
end

