-- ==== Sys2Proof/Laws/PerInstr.lean ====
section
/-! SUPPORT. The family `Carried`, one lemma per command: a well-formed command samples a platform within its travel
(R139), and the frame of a request row fits the link (Table 8). -/

namespace Sys2Proof.Laws.Carried

/-- A well-formed command samples the platform at or below the transfer plane, and its frame, if it has one, takes at
most 246 bytes of the line: 240 of body and 6 around it (Table 8). -/
def Statement (i : Instr) : Prop :=
  i.wellFormed = true →
    i.lines.platform ≤ Config.transferPlane ∧ ∀ f, i.frame = some f → f.wire.length ≤ 246

/-- The bytes of a frame on the line are its body and six more (Table 8). -/
theorem wire_length (f : Machine.Frame) : f.wire.length = f.body.length + 6 := by
  simp [Machine.Frame.wire, Machine.Frame.covered, Machine.leBytes]

/-- What well-formedness says of any command. -/
theorem of_wellFormed (i : Instr) : Statement i := by
  intro h
  unfold Instr.wellFormed Lines.fit Instr.bodyFits at h
  simp only [Bool.and_eq_true, decide_eq_true_eq] at h
  refine ⟨h.1.1.1, fun f hf => ?_⟩
  have hb := h.1.2
  rw [hf] at hb
  simp only [Option.all_some, decide_eq_true_eq, Config.maxBody] at hb
  rw [wire_length]
  omega

theorem powerOn (m pedal readings) : Statement (.powerOn m pedal readings) := of_wellFormed _
theorem receiveByte (m byte gap framingError) : Statement (.receiveByte m byte gap framingError) := of_wellFormed _
theorem transmitEnd (m) : Statement (.transmitEnd m) := of_wellFormed _
theorem unknownRequest (m kind tag body) : Statement (.unknownRequest m kind tag body) := of_wellFormed _
theorem storeOpen (m tag body) : Statement (.storeOpen m tag body) := of_wellFormed _
theorem step (m tag body) : Statement (.step m tag body) := of_wellFormed _
theorem replaceStep (m tag body) : Statement (.replaceStep m tag body) := of_wellFormed _
theorem deleteProgram (m tag body) : Statement (.deleteProgram m tag body) := of_wellFormed _
theorem readProgram (m tag body) : Statement (.readProgram m tag body) := of_wellFormed _
theorem listPrograms (m tag body) : Statement (.listPrograms m tag body) := of_wellFormed _
theorem select (m tag body) : Statement (.select m tag body) := of_wellFormed _
theorem run (m tag body) : Statement (.run m tag body) := of_wellFormed _
theorem hold (m tag body) : Statement (.hold m tag body) := of_wellFormed _
theorem skip (m tag body) : Statement (.skip m tag body) := of_wellFormed _
theorem abort (m tag body) : Statement (.abort m tag body) := of_wellFormed _
theorem locate (m tag body) : Statement (.locate m tag body) := of_wellFormed _
theorem locateByLabel (m tag program index label follow) : Statement (.locateByLabel m tag program index label follow) := of_wellFormed _
theorem clearFault (m tag body) : Statement (.clearFault m tag body) := of_wellFormed _
theorem lineHalt (m tag body) : Statement (.lineHalt m tag body) := of_wellFormed _
theorem confirm (m tag body) : Statement (.confirm m tag body) := of_wellFormed _
theorem confirmButton (m) : Statement (.confirmButton m) := of_wellFormed _
theorem gaugeMove (m tag body) : Statement (.gaugeMove m tag body) := of_wellFormed _
theorem gaugeReference (m tag body) : Statement (.gaugeReference m tag body) := of_wellFormed _
theorem reversalDwellExpiry (m) : Statement (.reversalDwellExpiry m) := of_wellFormed _
theorem segmentEnd (m) : Statement (.segmentEnd m) := of_wellFormed _
theorem referenceSwitchMade (m) : Statement (.referenceSwitchMade m) := of_wellFormed _
theorem followingError (m lag) : Statement (.followingError m lag) := of_wellFormed _
theorem overtravel (m) : Statement (.overtravel m) := of_wellFormed _
theorem inPositionLost (m) : Statement (.inPositionLost m) := of_wellFormed _
theorem cutNow (m tag body) : Statement (.cutNow m tag body) := of_wellFormed _
theorem pedalPressed (m) : Statement (.pedalPressed m) := of_wellFormed _
theorem pedalReleased (m) : Statement (.pedalReleased m) := of_wellFormed _
theorem pedalDwellExpiry (m) : Statement (.pedalDwellExpiry m) := of_wellFormed _
theorem clampFullPressure (m) : Statement (.clampFullPressure m) := of_wellFormed _
theorem clampTimeout (m) : Statement (.clampTimeout m) := of_wellFormed _
theorem knifeBdc (m) : Statement (.knifeBdc m) := of_wellFormed _
theorem knifeTimeout (m) : Statement (.knifeTimeout m) := of_wellFormed _
theorem returnEnd (m) : Statement (.returnEnd m) := of_wellFormed _
theorem recoverEnd (m) : Statement (.recoverEnd m) := of_wellFormed _
theorem bladeReset (m tag body) : Statement (.bladeReset m tag body) := of_wellFormed _
theorem pumpOn (m tag body) : Statement (.pumpOn m tag body) := of_wellFormed _
theorem pumpOff (m tag body) : Statement (.pumpOff m tag body) := of_wellFormed _
theorem pumpRunUpExpiry (m) : Statement (.pumpRunUpExpiry m) := of_wellFormed _
theorem pumpLockoutExpiry (m) : Statement (.pumpLockoutExpiry m) := of_wellFormed _
theorem pumpIdleExpiry (m) : Statement (.pumpIdleExpiry m) := of_wellFormed _
theorem pressureLost (m faultFirst) : Statement (.pressureLost m faultFirst) := of_wellFormed _
theorem newPile (m tag body) : Statement (.newPile m tag body) := of_wellFormed _
theorem liftLower (m tag body) : Statement (.liftLower m tag body) := of_wellFormed _
theorem floorStopMade (m) : Statement (.floorStopMade m) := of_wellFormed _
theorem topOfPileTrip (m) : Statement (.topOfPileTrip m) := of_wellFormed _
theorem platformAtTp (m) : Statement (.platformAtTp m) := of_wellFormed _
theorem raiseTimeout (m) : Statement (.raiseTimeout m) := of_wellFormed _
theorem jogStart (m tag body) : Statement (.jogStart m tag body) := of_wellFormed _
theorem jogStartButton (m) : Statement (.jogStartButton m) := of_wellFormed _
theorem jogStartDiscard (m tag) : Statement (.jogStartDiscard m tag) := of_wellFormed _
theorem jogCycleExpiry (m) : Statement (.jogCycleExpiry m) := of_wellFormed _
theorem turnNow (m tag body) : Statement (.turnNow m tag body) := of_wellFormed _
theorem turnerPark (m tag body) : Statement (.turnerPark m tag body) := of_wellFormed _
theorem gripClosed (m) : Statement (.gripClosed m) := of_wellFormed _
theorem quarterMark (m) : Statement (.quarterMark m) := of_wellFormed _
theorem parkSensorMade (m) : Statement (.parkSensorMade m) := of_wellFormed _
theorem parkSensorLost (m) : Statement (.parkSensorLost m) := of_wellFormed _
theorem trackQuery (m tag body) : Statement (.trackQuery m tag body) := of_wellFormed _
theorem trackDeclare (m tag body) : Statement (.trackDeclare m tag body) := of_wellFormed _
theorem trackClear (m tag body) : Statement (.trackClear m tag body) := of_wellFormed _
theorem settingRead (m tag body) : Statement (.settingRead m tag body) := of_wellFormed _
theorem settingWrite (m tag body) : Statement (.settingWrite m tag body) := of_wellFormed _
theorem estopAck (m tag body) : Statement (.estopAck m tag body) := of_wellFormed _
theorem noticeSelect (m tag body) : Statement (.noticeSelect m tag body) := of_wellFormed _
theorem ident (m tag body) : Statement (.ident m tag body) := of_wellFormed _
theorem status (m tag body) : Statement (.status m tag body) := of_wellFormed _
theorem reset (m tag body) : Statement (.reset m tag body) := of_wellFormed _
theorem softReset (m) : Statement (.softReset m) := of_wellFormed _
theorem safetyChannelChange (m input channel reading now order) : Statement (.safetyChannelChange m input channel reading now order) := of_wellFormed _
theorem discrepancyTimeout (m input) : Statement (.discrepancyTimeout m input) := of_wellFormed _
theorem referenceSwitchesReleased (m) : Statement (.referenceSwitchesReleased m) := of_wellFormed _

end Sys2Proof.Laws.Carried
end

