-- ==== Sys2Proof/Laws/Quiet.lean ====
section
/-! SUPPORT. What settling does to a quiet machine (nothing), what sampling the lines changes, and how a request row
with its frame alone in the queue, or a machine-side row, is carried out. -/

namespace Sys2Proof.Machine

/-! ### Settling -/

theorem State.pendingAtArmed_quiet {s : State}
    (h : (s.runnerCycleHeld && (s.pr.abortPending || s.pr.skipPending)) = false) : s.pendingAtArmed = s := by
  unfold State.pendingAtArmed
  rw [h]
  rfl

theorem State.handAgain_quiet {s : State} (h : s.pr.waits = .nothing) : s.handAgain = s := by
  unfold State.handAgain
  split
  · rfl
  · rw [h]

theorem State.takeHold_quiet {s : State} (h : s.atHoldPoint = false ∨ s.standingReason = none) : s.takeHold = s := by
  unfold State.takeHold
  obtain h | h := h <;> rw [h]
  · rfl
  · dsimp only
    split <;> rfl

theorem State.infeedLook_quiet {s : State} (h : ¬(s.pr.state = .running ∧ s.pr.phase = .infeedWait) ∨
    (s.jg.state ≠ .ready ∧ (s.jg.state = .empty → s.pl.spent = false))) : s.infeedLook = s := by
  unfold State.infeedLook
  obtain h | ⟨h1, h2⟩ := h
  · exact if_neg h
  · split
    · split
      · exact absurd ‹_› h1
      · rw [h2 ‹_›]; rfl
      · rfl
    · rfl

theorem State.csFollow_quiet {s : State}
    (h : s.cutAtHoldPoint = false ∨ ∀ c, s.cs.cycle = some c →
      (c.issuer = .runner → s.pr.state = .running) ∧ (c.issuer = .manual → s.manualStop = none)) :
    s.csFollow = s := by
  unfold State.csFollow
  split
  · rename_i c hc
    split
    · rename_i hp
      obtain h | h := h
      · rw [h] at hp; cases hp
      · obtain ⟨h1, h2⟩ := h c hc
        split
        · rw [if_pos (h1 ‹_›)]
        · rw [h2 ‹_›]
    · rfl
  · rfl

theorem State.manualCutNext_quiet {s : State} (h : ∀ x, s.cs.manual = some x → x.approachDone = false) :
    s.manualCutNext = s := by
  unfold State.manualCutNext
  split
  · rw [h _ ‹_›]; rfl
  · rfl

theorem State.request_quiet {s : State} {c : Consumer} (h : s.hs.requested c = true ∨ s.hs.holder = some c) :
    s.request c = s := if_pos h

theorem State.renewRequests_quiet {s : State}
    (hc : s.cs.state = .recover → s.sm.estopLatch = true ∨ s.hs.requested .cut = true ∨ s.hs.holder = some .cut)
    (hl : s.pl.state = .raising → s.hs.requested .lift = true ∨ s.hs.holder = some .lift)
    (hr : s.pt.state = .releasing → s.hs.requested .turn = true ∨ s.hs.holder = some .turn)
    (hg : s.pt.state = .gripping ∧ s.cutterHome = true → s.hs.requested .turn = true ∨ s.hs.holder = some .turn) :
    s.renewRequests = s := by
  have e1 : s.recoverRequest = s := by
    unfold State.recoverRequest
    split
    · rename_i e
      obtain h | h := hc e.1
      · rw [h] at e; cases e.2
      · exact State.request_quiet h
    · rfl
  have e2 : (if s.pl.state = .raising then s.request .lift else s) = s := by
    split
    · exact State.request_quiet (hl ‹_›)
    · rfl
  unfold State.renewRequests
  simp only [e1, e2]
  split
  · exact State.request_quiet (hr ‹_›)
  · unfold State.gripRequest
    split
    · exact State.request_quiet (hg ‹_›)
    · rfl

theorem State.flush_quiet {s : State} (h : s.pr.noticeDue = false) : s.flush = s := by
  unfold State.flush
  rw [h]
  rfl

/-- A quiet machine raises the RUN_STATE it owes, if it owes one, and does nothing more when a command ends. -/
theorem State.quiet_settle {s : State} (h : s.quiet = true) : s.settle = s.flush := by
  unfold State.quiet at h
  simp only [Bool.and_eq_true, Bool.or_eq_true, Bool.not_eq_true', decide_eq_true_eq, decide_eq_false_iff_not] at h
  obtain ⟨⟨⟨⟨⟨⟨⟨⟨⟨hw, hp⟩, hh⟩, hi⟩, hc⟩, hm⟩, hrec⟩, hl⟩, hr⟩, hg⟩ := h
  unfold State.settle
  rw [State.pendingAtArmed_quiet hp, State.handAgain_quiet hw,
    State.takeHold_quiet (hh.imp id (by simp)), State.infeedLook_quiet (hi.imp id fun h => ⟨h.1, fun e => by simpa [e] using h.2⟩),
    State.csFollow_quiet ?_, State.manualCutNext_quiet ?_, State.renewRequests_quiet ?_ ?_ ?_ ?_]
  · intro e
    simp only [Supply.requested]
    obtain ((h | h) | h) | h := hrec
    · exact absurd e h
    · exact .inl h
    · exact .inr (.inl h)
    · exact .inr (.inr h)
  · intro e
    simp only [Supply.requested]
    obtain (h | h) | h := hl
    · exact absurd e h
    · exact .inl h
    · exact .inr h
  · intro e
    simp only [Supply.requested]
    obtain (h | h) | h := hr
    · exact absurd e h
    · exact .inl h
    · exact .inr h
  · intro e
    simp only [Supply.requested]
    obtain (h | h) | h := hg
    · simp [e.1, e.2] at h
    · exact .inl h
    · exact .inr h
  · intro x e
    rw [e] at hm
    simpa using hm
  · refine hc.imp id fun h c e => ?_
    rw [e] at h
    simp only [Option.all_some] at h
    constructor
    · intro k
      rw [k] at h
      simpa using h
    · intro k
      rw [k] at h
      simpa using h

/-- The link has no part in being quiet. -/
@[simp] theorem State.quiet_setLi (s : State) (x : Link) : (s.setLi x).quiet = s.quiet := rfl

/-- The store has no part in being quiet. -/
@[simp] theorem State.quiet_setPs (s : State) (x : Store) : (s.setPs x).quiet = s.quiet := rfl

@[simp] theorem State.quiet_raise (s : State) (k : NoticeKind) (b : List Byte) : (s.raise k b).quiet = s.quiet := rfl

@[simp] theorem State.quiet_replied (s : State) (f : Frame) (b : List Byte) : (s.replied f b).quiet = s.quiet := rfl

@[simp] theorem State.quiet_closeFor (s : State) (r : Request) : (s.closeFor r).quiet = s.quiet := by
  unfold State.closeFor
  split <;> rfl

@[simp] theorem State.quiet_hearing (s : State) (c : Instr) : (s.hearing c).quiet = (s.sample c.lines).quiet := by
  unfold State.hearing
  split <;> rfl

/-! ### Sampling -/

@[simp] theorem State.sample_li (s : State) (m : Lines) : (s.sample m).li = s.li := rfl
@[simp] theorem State.sample_ps (s : State) (m : Lines) : (s.sample m).ps = s.ps := rfl
@[simp] theorem State.sample_gt (s : State) (m : Lines) : (s.sample m).gt = s.gt := rfl
@[simp] theorem State.sample_pr (s : State) (m : Lines) : (s.sample m).pr = s.pr := rfl
@[simp] theorem State.sample_hs (s : State) (m : Lines) : (s.sample m).hs = s.hs := rfl
@[simp] theorem State.sample_jg (s : State) (m : Lines) : (s.sample m).jg = s.jg := rfl
@[simp] theorem State.sample_pt (s : State) (m : Lines) : (s.sample m).pt = s.pt := rfl
@[simp] theorem State.sample_sm (s : State) (m : Lines) : (s.sample m).sm = s.sm := rfl
@[simp] theorem State.sample_lines (s : State) (m : Lines) : (s.sample m).lines = m := rfl
@[simp] theorem State.sample_pending (s : State) (m : Lines) : (s.sample m).pending = s.pending := rfl

/-- Sampling the same lines again changes nothing. -/
@[simp] theorem State.sample_twice (s : State) (m : Lines) : (s.sample m).sample m = s.sample m := by
  unfold State.sample
  simp only [State.setLines, State.setBg, State.setPl, State.setCs]
  congr 1
  simp only [CutStation.mk.injEq, true_and, and_true]
  split <;> simp_all

/-! ### Requests -/

/-- Every request kind is named by its kind byte (R6). -/
@[simp] theorem Request.ofKind_kind (r : Request) : Request.ofKind r.kind = some r := by cases r <;> rfl

/-- A request whose body has its owner's length is decided by its owner (R12, R13). -/
theorem decideFrame_owner (r : Request) (tag : Byte) (body : List Byte) (s : State)
    (h : body.length = r.bodyLength) : decideFrame ⟨r.kind, tag, body⟩ s = decideOwner r body (s.closeFor r) := by
  unfold decideFrame
  simp only [Request.ofKind_kind]
  rw [if_pos h]

/-- A request of the wrong length is refused BAD_FIELDS, its window closing done (R12, R13). -/
theorem decideFrame_length (r : Request) (tag : Byte) (body : List Byte) (s : State)
    (h : body.length ≠ r.bodyLength) :
    decideFrame ⟨r.kind, tag, body⟩ s = (s.closeFor r, [Status.badFields.code]) := by
  unfold decideFrame
  simp only [Request.ofKind_kind]
  rw [if_neg h]
  rfl

/-- A request row is its frame arriving, with the lines of the command sampled. -/
theorem exec_frame {c : Instr} {f : Frame} (s : State) (hf : c.frame = some f) :
    exec c s = .next ((s.sample c.lines).acceptFrame f) := by
  cases c
  all_goals first
    | (cases hf; done)
    | (simp only [Instr.frame, Option.some.injEq] at hf; subst hf; rfl)

/-- A request row with its frame alone in the queue is decided at once (R4, R5). -/
theorem exec_request {c : Instr} {f : Frame} {s : State} (hf : c.frame = some f) (hq : s.li.queue = []) :
    exec c s = .next
      (((decideFrame f (s.hearing c)).1.replied f (decideFrame f (s.hearing c)).2).settle).kick := by
  rw [exec_frame s hf]
  unfold State.acceptFrame
  rw [if_pos (by rw [State.sample_li, hq]; decide), if_pos (by rw [State.sample_li, hq])]
  have e : s.hearing c = (s.sample c.lines).setLi (s.li.enqueue f) := by
    unfold State.hearing Link.enqueue
    rw [hf, hq]
    rfl
  rw [e]
  unfold State.decideHead
  have e2 : ((s.sample c.lines).setLi ((s.sample c.lines).li.enqueue f)).li.queue = [⟨f, none⟩] := by
    simp [Link.enqueue, hq]
  rw [e2]
  rfl

/-- A request row follows its decision. -/
theorem decides_of {c : Instr} {f : Frame} {s t : State} {body : List Byte} (hf : c.frame = some f)
    (hq : s.li.queue = []) (e : decideFrame f (s.hearing c) = (t, body)) : Decides c s t body :=
  ⟨f, hf, by rw [exec_request hf hq, e], fun ht => by
    rw [exec_request hf hq, e, State.quiet_settle (by simpa using ht)]⟩

/-- A request row of a kind follows its owner's decision (R12, R13). -/
theorem decides_owner {c : Instr} {r : Request} {tag : Byte} {b body : List Byte} {s t : State}
    (hf : c.frame = some ⟨r.kind, tag, b⟩) (hq : s.li.queue = []) (hb : b.length = r.bodyLength)
    (e : decideOwner r b ((s.hearing c).closeFor r) = (t, body)) : Decides c s t body :=
  decides_of hf hq (by rw [decideFrame_owner r tag b _ hb, e])

/-- A machine-side row follows its effect. -/
theorem becomes_of {c : Instr} {effect : State → State} {m : Lines} {s t : State}
    (hc : exec c s = .next (onEvent effect m s)) (e : effect (s.sample m) = t) : Becomes c s t := by
  unfold Becomes
  rw [hc]
  unfold onEvent
  rw [e]
  exact ⟨rfl, fun ht => by rw [State.quiet_settle ht]⟩

end Sys2Proof.Machine
end

