-- ==== Sys2Proof/Tests/Slice0.lean ====
section
/-! SUPPORT. Our own tests of the model on the spec's examples, the smoke test of WellFormed, and a witness for the
hypotheses of every statement. -/

namespace Sys2Proof.Tests

open Sys2Proof.Machine

/-! ### Well-formed commands -/

theorem test_wellFormed_platform : (Instr.overtravel { Lines.atRest with platform := 13001 }).wellFormed = false := by
  decide

theorem test_wellFormed_encoder : (Instr.overtravel { Lines.atRest with encoder := -2 ^ 29 }).wellFormed = false := by
  decide

theorem test_wellFormed_clampHeight :
    (Instr.overtravel { Lines.atRest with clampHeight := 2 ^ 15 }).wellFormed = false := by decide

theorem test_wellFormed_body : (Instr.hold Lines.atRest 0 (List.replicate 241 0)).wellFormed = false := by
  decide +kernel

theorem test_wellFormed_unknown_kind : (Instr.unknownRequest Lines.atRest 0x12 0 []).wellFormed = false := by decide

theorem test_wellFormed_locate_by_label : (Instr.locate Lines.atRest 0 [1, 0, 0, 1, 0, 0]).wellFormed = false := by
  decide

theorem test_wellFormed_lag : (Instr.followingError Lines.atRest 100).wellFormed = false := by decide

theorem test_wellFormed_discard : (Instr.jogStart Lines.atRest 0 [1]).wellFormed = false := by decide

theorem test_wellFormed_order :
    (Instr.safetyChannelChange Lines.atRest .rearGuard .a true 0 [.gauge, .gauge]).wellFormed = false := by decide

theorem test_wellFormed_accepts :
    (Instr.select Lines.atRest 0 [12]).wellFormed = true ∧
      (Instr.safetyChannelChange Lines.atRest .rearGuard .a true 0 [.gauge, .cutStation]).wellFormed = true := by decide

/-! ### The spec's examples -/

/-- R1: the check of the nine characters "123456789" is 29B1h. -/
theorem test_crc : crc [0x31, 0x32, 0x33, 0x34, 0x35, 0x36, 0x37, 0x38, 0x39] = 0x29B1 := by decide +kernel

/-- Table 32: products divided by 1000, halves away from zero, brought within 50. -/
theorem test_compensation :
    [10488, 5500, -10500, -500, 499, 66000, -52000].map (fun p => saturate (roundThousandth p)) =
      [10, 6, -11, -1, 0, 50, -50] := by decide

/-- Table 33, row 6: at q = 2 the trim of 600 comes off y = 89400. -/
theorem test_strip :
    (Rect.mk 0 67200 64000 22800).strip 2 600 = ⟨0, 89400, 64000, 600⟩ ∧
      (Rect.mk 0 67200 64000 22800).remainder 2 600 = ⟨0, 67200, 64000, 22200⟩ := by decide

/-- Table 56: the record of rows 2, 6, 8, 10 and 11. -/
theorem test_pile_record :
    ((((Pile.mk 64000 90000 2620 2620 0 0 0).takeOff 1746).takeOff 1750).takeOff 875).takeOff 0 =
        ⟨64000, 90000, 2620, 0, 2624, 4, 3⟩ ∧
      (Pile.mk 64000 90000 2620 2620 0 0 0).takeOffHeight 1746 = .known 874 ∧
      (Pile.mk 64000 90000 2620 1746 874 0 1).takeOffHeight 1750 = .unknown := by decide

/-- The bytes of the example's requests in Table 64, rows 2 and 6, and their replies. -/
theorem test_setting_write :
    (decideSettingWrite [1, 20, 0, 0, 0] State.reset).2 = [0x01, 1, 50, 0, 0, 0] ∧
      (decideSettingWrite [10, 1, 2, 0, 0] State.reset).2 = [0x00, 10, 1, 2, 0, 0] := by decide

/-- Table 64, row 10: the reply of SETTING_READ 1 with 50 stored. -/
theorem test_setting_read :
    (decideSettingRead [1] (decideSettingWrite [1, 20, 0, 0, 0] State.reset).1).2 =
      [0x00, 1, 50, 0, 0, 0, 50, 0, 0, 0, 0xE8, 3, 0, 0, 0x2C, 1, 0, 0] := by decide

/-- Section 2.4: a labelled step and a repeated cut take 2 units, any other step 1 (R18). -/
theorem test_units :
    (StepRec.mk .cut 0 .aside .abs 3 67200 22200).units = 2 ∧ (StepRec.mk .recall 100 .waste .abs 1 0 0).units = 2 ∧
      (StepRec.mk .cut 0 .waste .trim 1 1000 0).units = 1 := by decide

/-- After reset the emergency-stop latch is set, so a GAUGE_REFERENCE is refused SAFETY_BLOCKED (R98, R164). -/
theorem test_reset_latched : (decideGaugeReference State.reset).2 = [0x0C] := by decide

/-- The first step of a waiting HOLD after reset answers BAD_STATE (R84). -/
theorem test_step_runs_hold :
    (match step (State.reset.setPending [.hold Lines.atRest 7 []]) with
      | .next t => t.li.queue.map Queued.reply
      | _ => []) = [some ⟨0x92, 7, [0x04]⟩] := by decide +kernel

/-- A machine at rest with a request in hand is quiet, so the second half of `Decides` and `Becomes` applies. -/
theorem test_quiet :
    State.reset.quiet = true ∧ (State.reset.hearing (.hold Lines.atRest 7 [])).quiet = true ∧
      (State.reset.sample { Lines.atRest with park := false }).quiet = true := by decide

/-! ### Witnesses: states to state them in -/

/-- A header with no part. -/
def plain : Header := ⟨[], none, none, none, none⟩

/-- A step of a kind with one count. -/
def stepOf (k : StepKind) : StepRec :=
  ⟨k, 0, .waste, .abs, 1, if k = .cut then 50000 else if k = .turn then 1 else 0, 0⟩

/-- A labelled CUT of two iterations. -/
def twice : StepRec := ⟨.cut, 7, .waste, .abs, 2, 50000, 1000⟩

/-- Program 5: one step of each kind; 6 links to 5, 8 to the incomplete 7. -/
def store : Store :=
  { State.reset.ps with
    programs :=
      [(5, ⟨plain, [twice, stepOf .load, stepOf .turn, stepOf .eject, stepOf .recall, stepOf .pause], true⟩),
        (6, ⟨{ plain with link := some 5 }, [stepOf .cut], true⟩), (7, ⟨plain, [stepOf .cut], false⟩),
        (8, ⟨{ plain with link := some 7 }, [stepOf .cut], true⟩)] }

/-- A machine at work: the store above, the latch acknowledged, the gauge referenced at 60000, the pump READY. -/
def base : State :=
  (((State.reset.setPs store).setSm { State.reset.sm with estopLatch := false }).setBg
    { State.reset.bg with state := .standing, referenced := true, actual := 60000 }).setHs
    { State.reset.hs with pump := .ready, contactor := true }

/-- A table load of 72000 by 52000 with a height. -/
def sheet : TableLoad := ⟨1, ⟨0, 0, 72000, 52000⟩, 0, some 900, false⟩

/-- `base` with the sheet on the table and its load open. -/
def loaded : State :=
  base.setGt { base.gt with table := some sheet, openLoad := some ⟨1, 72000, 52000, 0, 0, 0, [], 0⟩, nextId := 2 }

/-- A piece of 100 by 200. -/
def piece : Piece := ⟨⟨0, 0, 100, 200⟩, 0, none, 1⟩

/-- The Runner in a state of program 5, at a step and in a phase. -/
def runAt (s : State) (x : RunState) (step : Nat) (p : Phase) : State :=
  s.setPr { s.pr with state := x, program := 5, step := step, phase := p }

/-- A tracked cycle of the sheet by an issuer. -/
def cycle (who : CycleIssuer) : Cycle where
  issuer := who
  tracked := true
  nominal := 50000
  comp := 0
  target := 50000
  draw := 0
  heightUsed := some 900
  disposition := .waste
  step := 0
  iter := 0
  loadId := 1
  measured := some 880
  leftTop := true
  mark := .clean

/-- The station in a state with a cycle. -/
def cutAt (s : State) (x : CutState) (c : Option Cycle) : State := s.setCs { s.cs with state := x, cycle := c }

/-- A turn of an issuer, one quarter of two made. -/
def turn (who : TurnIssuer) : TurnRec := ⟨who, true, 1, 2, 1, 74000, none⟩

/-- The turner in a state with a record. -/
def turnerAt (s : State) (x : TurnerState) (r : Option TurnRec) : State := s.setPt { s.pt with state := x, record := r }

/-- A gauge move of an issuer. -/
def move (who : MoveIssuer) (kind : MoveKind) (plan : List Segment) : Move := ⟨who, kind, plan, false, 50000⟩

/-- The gauge in a state with a move and a dwell. -/
def gaugeAt (s : State) (x : GaugeState) (v : Option Move) (dwell : Option Nat) : State :=
  s.setBg { s.bg with state := x, move := v, dwell := dwell }

/-- The lift in a state, raising what. -/
def liftAt (s : State) (x : LiftState) (r : Option RaiseKind) : State := s.setPl { s.pl with state := x, raising := r }

/-- The slot in a state with a height. -/
def slotAt (s : State) (x : SlotState) (h : SlotHeight) : State := s.setJg { s.jg with state := x, height := h }

/-- The lines at rest. -/
abbrev m0 : Lines := Lines.atRest

/-! ### Witnesses: the link -/

theorem witness_StepRunsTheFrontCommand :
    (base.setPending [.transmitEnd m0, .overtravel m0]).pending = [.transmitEnd m0, .overtravel m0] ∧
      base.pending = [] := ⟨rfl, rfl⟩

/-- A HOLD's six bytes, each after 20 ms. -/
theorem witness_WireBytesAreTheRequestRow :
    let f : Frame := ⟨0x12, 7, []⟩
    let l : List (Nat × Byte) := f.wire.map fun b => (20, b)
    (Instr.hold m0 7 []).frame = some f ∧ f.body.length ≤ 240 ∧ base.li.receiver = .hunting ∧
      l.map Prod.snd = f.wire ∧ ∀ e ∈ l.tail, e.1 ≤ 20 := by decide +kernel

/-- The receiver with bytes collected. -/
def collected (got : List Byte) : State := base.setLi { base.li with receiver := .assembling got }

/-- One byte, then two, then all but the last of a 240-byte body, then its check's last byte. -/
theorem witness_BytesOfAFrameAreCollected :
    base.li.receiver = .hunting ∧ (0xA4 : Byte) ≠ 0xA5 ∧
      (collected [0x12]).li.receiver = .assembling [0x12] ∧ [(0x12 : Byte)].length < 2 ∧
      ([0x12, 7] : List Byte) ++ [240] = 0x12 :: 7 :: 240 :: [] ∧ (240 : Byte).toNat ≤ 240 ∧
      [0x12, 7, 240] ++ List.replicate 240 0 ++ [(0 : Byte)] = 0x12 :: 7 :: 240 :: List.replicate 241 0 ∧
      (List.replicate 241 (0 : Byte)).length < (240 : Byte).toNat + 2 ∧
      (let w : BitVec 16 := crc [0x12, 7, 0]
      let lo : Byte := w.setWidth 8
      let hi : Byte := (w >>> 8).setWidth 8
      (collected [0x12, 7, 0, lo]).li.receiver = .assembling [0x12, 7, 0, lo] ∧
        [0x12, 7, 0, lo] ++ [hi] = 0x12 :: 7 :: 0 :: ([] ++ [lo, hi]) ∧ hi ++ lo = crc (0x12 :: 7 :: 0 :: [])) ∧
      (Instr.hold m0 7 []).lines = m0 ∧ (Instr.hold m0 7 []).frame = some ⟨0x12, 7, []⟩ := by decide +kernel

theorem witness_DamagedFramesAreDiscarded :
    base.li.receiver = .hunting ∧ (collected [0x12, 7]).li.receiver = .assembling [0x12, 7] ∧ 20 < 21 ∧
      [0x12, 7] ++ [241] = [0x12, 7, (241 : Byte)] ∧ 240 < (241 : Byte).toNat ∧
      [0x12, 7, 0, 1] ++ [2] = 0x12 :: 7 :: 0 :: ([] ++ [1, (2 : Byte)]) ∧
      (2 : Byte) ++ (1 : Byte) ≠ crc (0x12 :: 7 :: 0 :: []) := by decide +kernel

/-- The link with requests queued, the head decided, and LINK_BUSY replies pending. -/
def queued (n busy : Nat) : State :=
  base.setLi
    { base.li with
      queue := ⟨⟨0x12, 0, []⟩, some ⟨0x92, 0, [0x04]⟩⟩ :: List.replicate (n - 1) ⟨⟨0x12, 1, []⟩, none⟩
      busy := List.replicate busy ⟨0x92, 2, [0x0D]⟩ }

theorem witness_ReceiveQueueTakesOrDrops :
    (Instr.hold m0 7 []).frame = some ⟨0x12, 7, []⟩ ∧ base.li.queue = [] ∧
      ((queued 3 0).li.queue ≠ [] ∧ (queued 3 0).li.queue.length < 4) ∧
      (4 ≤ (queued 4 3).li.queue.length ∧ (queued 4 3).li.busy.length < 4) ∧
      4 ≤ (queued 4 4).li.queue.length ∧ 4 ≤ (queued 4 4).li.busy.length := by decide

/-- Each source of a frame on the line, and the line free. -/
theorem witness_TransmitLineOrder :
    (∀ src : TxSource,
      (base.setLi { base.li with line := some ⟨src, ⟨0x92, 7, [0x04]⟩⟩ }).li.line = some ⟨src, ⟨0x92, 7, [0x04]⟩⟩) ∧
      Frame.isResetReply ⟨0x92, 7, [0x04]⟩ = false ∧ base.li.notices ≠ [] ∧
      (base.setLi { base.li with line := none }).li.line = none := by
  refine ⟨fun _ => rfl, ?_, ?_, rfl⟩ <;> decide

/-- The end of HOLD's reply with PUMP_ON waiting behind it: PUMP_ON is decided and has its effect. -/
theorem witness_TransmitLineOrder_queue :
    let r : Frame := ⟨0x92, 7, [0x04]⟩
    let s :=
      (base.setHs { base.hs with enable := false }).setLi
        { base.li with line := some ⟨.reply, r⟩, queue := [⟨⟨0x12, 7, []⟩, some r⟩, ⟨⟨0x28, 8, []⟩, none⟩] }
    s.li.queue.tail = [⟨⟨0x28, 8, []⟩, none⟩] ∧
      (match exec (.transmitEnd m0) s with
        | .next t => t.hs.enable && (t.li.queue.map fun q => q.reply.map Frame.kind) == [some 0xA8]
        | _ => false) = true := by
  decide +kernel

/-- The first kind past Table 11, and the first notice kind. -/
theorem witness_UnknownKindsAreRefused :
    Request.ofKind 0x07 = none ∧ Request.ofKind 0x3F = none ∧ 0x40 ≤ (0x40 : Byte).toNat ∧ base.li.queue = [] := by
  decide

theorem witness_WindowClosesThenLengthIsChecked :
    Request.hold.keepsWindow = false ∧ Request.step.keepsWindow = true ∧
      (List.replicate 13 (0 : Byte)).length = Request.step.bodyLength ∧ [(0 : Byte)].length ≠ Request.hold.bodyLength ∧
      (Instr.hold m0 7 [0]).frame = some ⟨Request.hold.kind, 7, [0]⟩ ∧ base.li.queue = [] := by decide

/-- A link with a number of notices waiting. -/
def waiting (n : Nat) : Link := { base.li with notices := List.replicate n ⟨0x40, 0, []⟩, mask := 0x0001 }

theorem witness_NoticeSelectStoresTheMask :
    base.li.queue = [] ∧ (1 : Byte).toNat < 2 ∧ 2 ≤ (2 : Byte).toNat ∧ [(0 : Byte)].length ≠ 2 ∧
      (waiting 15).mask.getLsbD NoticeKind.cycle.position = false ∧
      (waiting 15).mask.getLsbD NoticeKind.runState.position = true ∧ (waiting 15).notices.length < 16 ∧
      16 ≤ (waiting 16).notices.length := by decide

theorem witness_IdentAndStatusReportTheirRecords : base.li.queue = [] ∧ ([0] : List Byte) ≠ [] := by decide

/-- The RESET reply on the line, and a cycle at its hold point. -/
theorem witness_SoftResetOfTheBlocks :
    base.li.queue = [] ∧
      (base.setLi { base.li with line := some ⟨.reply, ⟨0xBB, 7, [0x00]⟩⟩ }).li.line =
        some ⟨.reply, ⟨0xBB, 7, [0x00]⟩⟩ ∧
      (let s := cutAt base .preclamped (some { cycle .runner with leftTop := false })
      s.cutAtHoldPoint = true ∧ s.cs.cycle = some { cycle .runner with leftTop := false } ∧
        (s.cs.cycle.all fun c => c.leftTop = false) = true) := by decide

/-- What a step leaves, if it answers a next state. -/
def leaves (s : State) (p : State → Bool) : Bool := match step s with
  | .next t => p t
  | _ => false

/-- A link with its line busy and two requests queued, at the end of its reply. -/
theorem witness_LinkLawIsKept :
    let s :=
      (base.setLi
        { (queued 2 0).li with notices := [], line := some ⟨.reply, ⟨0x92, 0, [0x04]⟩⟩ }).setPending [.transmitEnd m0]
    LinkOk s.li ∧ leaves s (fun t => t.pending.isEmpty && decide (t.li.queue.length = 1)) = true := by
  refine ⟨⟨by decide, by decide, by decide, by decide, by decide, ?_, ?_⟩, by decide +kernel⟩
  · show _ ∧ _; decide
  · show _ = _; decide

/-! ### Witnesses: the store and the settings -/

/-- A descriptor of 37 bytes for program 5 with no part, and one whose number is 0. -/
def descriptor (n : Byte) : List Byte := [n, 0] ++ List.replicate 35 0

/-- Every case of STORE_OPEN: a bad descriptor, 251 steps, an index past the steps, a program in use, 250 steps. -/
theorem witness_StoreOpenOpensTheWindow :
    (descriptor 5).length = 37 ∧ base.li.queue = [] ∧ decodeHeader (descriptor 0) = none ∧
      decodeHeader (descriptor 5) = some (5, plain) ∧
      (let old := ((base.program 5).map Program.steps).getD []
      ¬((7 : Byte).toNat ≤ old.length) ∧ ¬((1 : Byte).toNat + (250 : Byte).toNat ≤ 250) ∧
        (6 : Byte).toNat ≤ old.length ∧ 1 ≤ (244 : Byte).toNat ∧ (244 : Byte).toNat + (6 : Byte).toNat ≤ 250) ∧
      ((runAt base .ready 0 .none).pr.state ≠ .idle ∧ (runAt base .ready 0 .none).pr.program = 5) ∧
      ¬(base.pr.state ≠ .idle ∧ base.pr.program = 5) := by decide +kernel

/-- The store with its window open at the end of the incomplete program 7. -/
def downloading (stop : Nat) : State := base.setPs { base.ps with window := some ⟨7, 1, stop⟩ }

/-- The store with no unit of its pool free, and the window open at the end of the incomplete program 7. -/
def poolFull : State :=
  base.setPs
    { base.ps with
      programs := [(5, ⟨plain, List.replicate 3999 (stepOf .load), true⟩), (7, ⟨plain, [stepOf .cut], false⟩)]
      window := some ⟨7, 1, 3⟩ }

/-- A record the store refuses, no window, a full pool, and a record that completes or does not. -/
theorem witness_StepWritesAtTheWindow :
    (encodeStep twice).length = 13 ∧ base.li.queue = [] ∧ decodeStep (List.replicate 13 0) = none ∧
      decodeStep (encodeStep twice) = some twice ∧ base.ps.window = none ∧
      (downloading 2).ps.window = some ⟨7, 1, 2⟩ ∧ (downloading 2).program 7 = some ⟨plain, [stepOf .cut], false⟩ ∧
      twice.units ≤ 4000 - usedUnits (downloading 2).ps.programs ∧ poolFull.ps.window = some ⟨7, 1, 3⟩ ∧
      poolFull.program 7 = some ⟨plain, [stepOf .cut], false⟩ ∧
      4000 - usedUnits poolFull.ps.programs < twice.units := by decide +kernel

/-- Numbers 0 and 99, no program, an index at the count, a step in use and one after it, a pool too full and not. -/
theorem witness_ReplaceStepAndDeleteProgramEditTheStore :
    (encodeStep twice).length = 13 ∧ base.li.queue = [] ∧ ¬(1 ≤ (0 : Byte).toNat) ∧
      (1 ≤ (99 : Byte).toNat ∧ (99 : Byte).toNat ≤ 99) ∧ decodeStep (List.replicate 13 0) = none ∧
      decodeStep (encodeStep twice) = some twice ∧ base.program 99 = none ∧
      (base.program 5).map (fun p => p.steps.length) = some 6 ∧
      (base.program 5).bind (fun p => p.steps[1]?) = some (stepOf .load) ∧
      (let s := runAt base .held 1 .none
      s.runOpen = true ∧ s.pr.program = 5 ∧ 1 ≤ s.pr.step ∧ ¬ 2 ≤ s.pr.step) ∧
      poolFull.program 7 = some ⟨plain, [stepOf .cut], false⟩ ∧
      ¬ twice.units ≤ (stepOf .cut).units + (4000 - usedUnits poolFull.ps.programs) ∧
      twice.units ≤ (stepOf .cut).units + (4000 - usedUnits base.ps.programs) ∧
      ((runAt base .ready 0 .none).pr.state ≠ .idle ∧ (runAt base .ready 0 .none).pr.program = 5) ∧
      base.ps.programs.Pairwise (fun a b => a.1 < b.1) := by decide +kernel

/-- Number 0, no program 99, an index past the count and at it. -/
theorem witness_ReadAndListReportTheStore :
    base.li.queue = [] ∧ ¬(1 ≤ (0 : Byte).toNat) ∧ ¬((100 : Byte).toNat ≤ 99) ∧
      (1 ≤ (99 : Byte).toNat ∧ (99 : Byte).toNat ≤ 99) ∧ base.program 99 = none ∧
      (base.program 7).map (fun p => p.steps.length) = some 1 ∧ 1 < (2 : Byte).toNat ∧ (1 : Byte).toNat ≤ 1 := by
  decide

theorem witness_RecordsRoundTrip :
    twice.accepted = true ∧ (encodeStep twice).length = 13 ∧ decodeStep (encodeStep twice) = some twice ∧ 1 ≤ 99 ∧
      Header.accepted ⟨[0x4C], some 99, some (124000, 1), some (1, 124000), some (-40)⟩ = true := by decide

theorem settings_ok : SettingsOk Settings.default := by
  refine ⟨fun code r h => ?_, by decide⟩
  unfold settingRange at h
  split at h <;> cases h <;> decide

/-- The store of the examples, with a window, keeps its law; so does the Runner in it. -/
theorem storeOk (w : Option Window) (hw : ∀ x, w = some x → WindowOk store.programs x) :
    StoreOk { store with window := w } := by
  refine ⟨?_, ?_, ?_, ?_, hw, settings_ok⟩
  · show store.programs.Pairwise _; decide
  · show ∀ e ∈ store.programs, _; decide
  · show ∀ e ∈ store.programs, _ ∧ _ ∧ _; decide
  · show usedUnits store.programs ≤ _; decide

/-- A STEP waiting at an open window. -/
theorem witness_StoreLawIsKept :
    let s := (downloading 3).setPending [.step m0 0 (encodeStep twice)]
    StoreOk s.ps ∧ leaves s (fun t => decide (t.ps.window = some ⟨7, 2, 3⟩)) = true :=
  ⟨storeOk _ fun x h => by cases h; exact ⟨⟨plain, [stepOf .cut], false⟩, by decide⟩, by decide +kernel⟩

/-- A HOLD waiting for a Runner that runs, and an ABORT that ends its run. -/
theorem witness_RunnerProgramLawIsKept :
    let s := (runAt base .running 1 .infeedWait).setPending [.hold m0 0 []]
    let x := (runAt base .running 1 .infeedWait).setPending [.abort m0 0 []]
    StoreOk s.ps ∧ RunnerOk s.pr s.ps.programs ∧ leaves s (fun t => decide (t.pr.state = .held)) = true ∧
      leaves x (fun t => decide (t.pr.state = .idle ∧ t.pr.program = 0)) = true :=
  ⟨storeOk _ (by intro x h; cases h), ⟨by decide, fun _ => ⟨_, rfl, rfl⟩⟩, by decide +kernel, by decide +kernel⟩

/-- The first and last code, the priority group, and the codes on either side. -/
theorem witness_SettingReadReportsTheSetting :
    base.li.queue = [] ∧ settingRange (1 : Byte).toNat = some ⟨50, 1000, 300⟩ ∧
      settingRange (14 : Byte).toNat = some ⟨0, 3, 2⟩ ∧ settingRange (10 : Byte).toNat = none ∧
      ((0 : Byte) ≠ 10 ∧ settingRange (0 : Byte).toNat = none) ∧
      (15 : Byte) ≠ 10 ∧ settingRange (15 : Byte).toNat = none := by decide

/-- A value below, at and above a range; a permutation, a repetition, and a fourth byte that is not 0. -/
theorem witness_SettingWriteStoresOrClamps :
    base.li.queue = [] ∧ ([0xD7, 0xFF, 0xFF, 0xFF] : List Byte).length = 4 ∧
      signedOf 4 (leNat [0xD7, 0xFF, 0xFF, 0xFF]) = -41 ∧ settingRange (3 : Byte).toNat = some ⟨-40, 40, 0⟩ ∧
      ((15 : Byte) ≠ 10 ∧ settingRange (15 : Byte).toNat = none) ∧
      (((2 : Byte).toNat < 3 ∧ (0 : Byte).toNat < 3 ∧ (1 : Byte).toNat < 3 ∧ (2 : Byte) ≠ 0 ∧ (0 : Byte) ≠ 1 ∧
        (2 : Byte) ≠ 1) ∧ (0 : Byte) = 0) ∧ ¬((3 : Byte).toNat < 3) ∧ ¬((1 : Byte) = 0) := by decide

/-! ### Witnesses: the tracker -/

/-- Pieces 12 and 13, a load with its table load, and nothing at all. -/
theorem witness_TrackQueryReportsTheTracker :
    base.li.queue = [] ∧ 12 < (13 : Byte).toNat ∧ (12 : Byte).toNat ≤ 12 ∧
      loaded.gt.openLoad = some ⟨1, 72000, 52000, 0, 0, 0, [], 0⟩ ∧ 0 < 2 ^ 64 ∧ 0 < 2 ^ 32 ∧
      loaded.gt.table = some sheet ∧ base.gt.openLoad = none ∧ base.gt.table = none ∧ base.gt.aside = [] ∧
      (loaded.setGt { loaded.gt with table := none }).gt.openLoad.isSome = true := by decide

/-- A body declaring `w` by `ls` at orientation `q` with height `h`. -/
def declare (w ls q h : Nat) : List Byte := leBytes 4 w ++ leBytes 4 ls ++ leBytes 1 q ++ leBytes 2 h

/-- The largest declaration, one too deep, one turned too deep, the states that bar it, and a manual cut under way. -/
theorem witness_TrackDeclareAndTrackClearOpenAndEndALoad :
    (declare 132000 124000 0 1650).length = 11 ∧ base.li.queue = [] ∧
      (let b := declare 132000 124000 0 1650
      leNat (b.take 4) = 132000 ∧ leNat ((b.drop 4).take 4) = 124000 ∧ leNat ((b.drop 8).take 1) = 0 ∧
        leNat (b.drop 9) = 1650) ∧
      ¬((if 1 % 2 = 0 then 124000 else 132000) ≤ 124000) ∧ leNat ((declare 1 1 3 0xFFFF).drop 9) = 0xFFFF ∧
      ¬(1651 ≤ 1650 ∨ 1651 = 0xFFFF) ∧ (runAt base .held 0 .none).runOpen = true ∧ loaded.gt.openLoad ≠ none ∧
      (let s := base.setCs { base.cs with counter := 8400 }
      s.ps.settings.knifeWarn + s.ps.settings.knifeGrace ≤ s.cs.counter) ∧
      (let s := base.setCs { base.cs with counter := 8399 }
      ¬(s.runOpen = true ∨ s.gt.openLoad ≠ none ∨
        s.ps.settings.knifeWarn + s.ps.settings.knifeGrace ≤ s.cs.counter) ∧ s.manualInFlight = false) ∧
      (let s := base.setCs { base.cs with manual := some ⟨cycle .manual, false⟩ }
      ¬(s.runOpen = true ∨ s.gt.openLoad ≠ none ∨
        s.ps.settings.knifeWarn + s.ps.settings.knifeGrace ≤ s.cs.counter) ∧ s.manualInFlight = true) ∧
      (runAt base .ready 0 .none).pr.state ≠ .idle ∧ base.gt.openLoad = none ∧
      (loaded.pr.state = .idle ∧ loaded.gt.openLoad = some ⟨1, 72000, 52000, 0, 0, 0, [], 0⟩ ∧
        loaded.manualInFlight = false) ∧
      (let s := loaded.setPt { loaded.pt with manual := some ⟨1, 74000, true, 1, .retract, false⟩ }
      s.pr.state = .idle ∧ s.gt.openLoad ≠ none ∧ s.manualInFlight = true) := by decide +kernel

theorem witness_AreaLawOfTheTracker : AreaOk loaded.gt ∧ base.gt.table = none ∧ base.gt.aside = [] := by
  refine ⟨?_, rfl, rfl⟩
  intro o h
  cases h
  decide

/-- The CONFIRM of a RECALL moves the piece to the empty table. -/
theorem witness_AreaLawOfTheTracker_step :
    let s :=
      ((runAt base .running 4 .placeWait).setGt
        { base.gt with aside := [piece], openLoad := some ⟨1, 100, 200, 0, 0, 0, [], 0⟩ }).setPending
        [.confirmButton m0]
    AccountOk s.gt ∧
      (s.pr.phase = .placeWait → ∀ r, s.currentStep = some r →
        (r.kind = .recall → s.gt.table = none) ∧ (r.kind = .load → s.gt.aside = [])) ∧
      leaves s (fun t => decide (t.gt.aside = [] ∧ t.gt.table.isSome = true)) = true := by
  refine ⟨⟨?_, nofun, nofun⟩, ?_, by decide +kernel⟩
  · rintro _ ⟨⟩; decide
  · rintro - _ ⟨⟩; decide

/-- A cut of the sheet leaving 1 and leaving all but 1 of its depth, and cycles of another load and of none. -/
theorem witness_CompletedCutUpdatesTheLoad :
    loaded.gt.table = some sheet ∧ (cycle .runner).tracked = true ∧ sheet.loadId = (cycle .runner).loadId ∧
      (1 : Int) ≤ 1 ∧ (51999 : Int) < sheet.depth ∧ loaded.gt.openLoad = some ⟨1, 72000, 52000, 0, 0, 0, [], 0⟩ ∧
      sheet.loadId ≠ { cycle .runner with loadId := 2 }.loadId ∧ { cycle .runner with tracked := false }.tracked = false ∧
      base.gt.table = none := by decide

/-- A program and none; products on either side of the saturation and at a half. -/
theorem witness_CompensationOfATarget :
    base.currentProgram = none ∧ (runAt base .ready 0 .none).currentProgram ≠ none ∧
      (let x := (base.setSettings { base.ps.settings with drawCoeff := 40 }).targetFor { sheet with height := some 1650 } 0
      50 < x.raw ∧ x.raw = 66) ∧
      (let x := (base.setSettings { base.ps.settings with drawCoeff := -40 }).targetFor { sheet with height := some 1275 } 0
      x.raw < -50 ∧ (x.draw * 1275).natAbs % 1000 = 0) ∧
      ((5 : Int) * 1100).natAbs % 1000 = 500 ∧ roundThousandth 50499 = 50 ∧ roundThousandth 50500 = 51 := by
  decide +kernel

/-- Twelve pieces aside, nominal positions 0, 1 and D, and targets at and past each end of the travel. -/
theorem witness_ChecksOfACut :
    base.gt.table = none ∧ loaded.gt.table = some sheet ∧
      (let s := loaded.setGt { loaded.gt with aside := List.replicate 12 piece }
      Disposition.aside = .aside ∧ 12 ≤ s.gt.aside.length) ∧
      ¬(Disposition.waste = .aside ∧ 12 ≤ loaded.gt.aside.length) ∧ ¬((1 : Int) ≤ 0 ∧ (0 : Int) < sheet.depth) ∧
      ¬((1 : Int) ≤ 52000 ∧ (52000 : Int) < sheet.depth) ∧
      ((1 : Int) ≤ 1799 ∧ (1799 : Int) < sheet.depth ∧ (loaded.targetFor sheet 1799).target < 1800) ∧
      ((1800 : Int) < sheet.depth ∧ 1800 ≤ (loaded.targetFor sheet 1800).target ∧
        (loaded.targetFor sheet 1800).target ≤ 124000) ∧
      (let t : TableLoad := { sheet with rect := ⟨0, 0, 1, 130000⟩ }
      (124001 : Int) < t.depth ∧ 124000 < (loaded.targetFor t 124001).target) ∧
      loaded.pr.iter = 0 ∧ twice.mode = .abs ∧ { twice with mode := .trim }.mode = .trim ∧
      (let s := (loaded.setPr { loaded.pr with iter := 1 }).setGt { loaded.gt with stepBase := some ⟨5, 0, 50000⟩ }
      s.pr.iter ≠ 0 ∧ s.gt.stepBase = some ⟨5, 0, 50000⟩) := by decide +kernel

/-! ### Witnesses: running a program -/

/-- `base` with its line halt set. -/
def halted (s : State) : State := s.setPr { s.pr with lineHalt := true }

/-- `base` with the guard open. -/
def guardOff (s : State) : State := s.setSm { s.sm with rearGuard := ⟨true, true, false, false⟩ }

/-- `base` with the blade key on. -/
def keyed (s : State) : State := s.setSm { s.sm with bladeKey := ⟨true, true, false, false⟩ }

/-- `base` with the emergency-stop latch set. -/
def latched (s : State) : State := s.setSm { s.sm with estopLatch := true }

/-- `base` without its reference. -/
def loose (s : State) : State := s.setBg { s.bg with referenced := false }

/-- `base` with a stored gauge move. -/
def slotted (s : State) : State := s.setBg { s.bg with slot := some 1800 }

/-- `base` with a manual turn under way. -/
def turningNow (s : State) : State := s.setPt { s.pt with manual := some ⟨1, 74000, true, 1, .turn, false⟩ }

/-- Numbers 0 and 100, no program 99, the incomplete 7, the complete 5 with a run open and without, and RUN_STATE. -/
theorem witness_SelectMakesAProgramCurrent :
    base.li.queue = [] ∧ ¬(1 ≤ (0 : Byte).toNat) ∧ ¬((100 : Byte).toNat ≤ 99) ∧ base.program (99 : Byte).toNat = none ∧
      base.program 7 = some ⟨plain, [stepOf .cut], false⟩ ∧
      base.program 8 = some ⟨{ plain with link := some 7 }, [stepOf .cut], true⟩ ∧ base.runOpen = false ∧
      (runAt base .faulted 0 .none).runOpen = true ∧ base.pr.noticeDue = false ∧ base.owe.pr.noticeDue = true := by
  decide

/-- The fields, the bars, each unit that makes RUN wait, the dangers. -/
theorem witness_RunOpensOrResumes :
    base.li.queue = [] ∧ ¬((2 : Byte).toNat ≤ 1) ∧ ¬((1 : Byte) = 1 → leNat [1, 0] = 0) ∧
      ((1 : Byte).toNat ≤ 1 ∧ leNat [0, 0] = 0) ∧ (base.pr.state ≠ .ready ∧ base.pr.state ≠ .held) ∧
      (halted (runAt base .ready 0 .none)).pr.lineHalt = true ∧
      (let s := runAt base .held 0 .cutting
      ¬((s.pr.state ≠ .ready ∧ s.pr.state ≠ .held) ∨ s.pr.lineHalt = true ∨ s.pr.abortPending = true) ∧
        ¬(s.cs.state ≠ .ready ∨ s.gaugeBusy = true ∨ s.bg.slot ≠ none ∨ s.pt.state ≠ .parked ∨
          s.manualInFlight = true) ∧ ¬(s.sm.estopLatch = true ∨ s.guardOpen = true) ∧
        s.currentStep = some twice ∧ (cutAt s .recover none).cs.state ≠ .ready ∧
        (gaugeAt s .approaching none none).gaugeBusy = true ∧ (slotted s).bg.slot ≠ none ∧
        (turnerAt s .gripping none).pt.state ≠ .parked ∧ ¬(TurnerState.gripping = .interrupted) ∧
        (turningNow s).manualInFlight = true ∧ (latched s).sm.estopLatch = true ∧ (guardOff s).guardOpen = true) ∧
      (let s := turnerAt (runAt base .held 2 .turning) .interrupted (some (turn .runner))
      s.pt.state = .interrupted ∧ s.runOpen = true ∧ s.pt.record = some (turn .runner) ∧
        (turn .runner).issuer = .runner) ∧
      ([Phase.none, .positioning, .infeedWait, .placeWait, .removeWait, .retract, .contact, .turning].all fun p =>
        (runAt base .ready 0 p).pr.phase = p) = true := by decide

/-- The end of a program with no link, with a link to a complete, an incomplete and a missing one, and a step. -/
theorem witness_BoundaryTakesItsPointsInOrder :
    ((runAt base .running 6 .none).currentProgram.map fun p => (p.steps.length, p.header.link)) = some (6, none) ∧
      (let s := base.setPr { base.pr with program := 6, step := 1 }
      (s.currentProgram.map fun p => (p.steps.length, p.header.link)) = some (1, some 5) ∧
        ((s.program 5).map Program.complete) = some true) ∧
      (let s := base.setPr { base.pr with program := 8, step := 1 }
      (s.currentProgram.map fun p => (p.steps.length, p.header.link)) = some (1, some 7) ∧
        ((s.program 7).map Program.complete) = some false) ∧
      ((runAt base .running 5 .none).currentProgram.map fun p => p.steps.length) = some 6 := by decide

/-- The steps of each kind, unreferenced and referenced, at the conditions of their checks. -/
theorem witness_StepsStartWithTheirChecks :
    (let s := loose (runAt loaded .running 0 .none)
    s.currentStep = some twice ∧ twice.kind = .cut ∧ s.bg.referenced = false) ∧
      (let s := runAt loaded .running 1 .none
      s.currentStep = some (stepOf .load) ∧ s.bg.referenced = true ∧ s.gt.table = some sheet) ∧
      (let s := runAt base .running 1 .none
      s.gt.table = none ∧ s.gt.aside = [] ∧ s.cs.counter < s.knifeLimit ∧
        (s.setGt { s.gt with aside := [piece] }).gt.aside ≠ [] ∧
        (s.setCs { s.cs with counter := 8400 }).knifeLimit ≤ (s.setCs { s.cs with counter := 8400 }).cs.counter ∧
        (s.currentProgram.bind fun q => q.header.format) = none) ∧
      (let s := (base.setPs { base.ps with programs := [(5, ⟨{ plain with format := some (1, 2) }, [stepOf .load], true⟩)] }).setPl
        { base.pl with pile := some ⟨1, 3, 0, 0, 0, 0, 0⟩ }
      let x := runAt s .running 0 .none
      x.currentStep = some (stepOf .load) ∧ (x.currentProgram.bind fun q => q.header.format) = some (1, 2) ∧
        x.pl.pile = some ⟨1, 3, 0, 0, 0, 0, 0⟩ ∧ (1, 2) ≠ ((1, 3) : Nat × Nat)) ∧
      (let s := runAt base .running 2 .none
      s.currentStep = some (stepOf .turn) ∧ s.gt.table = none ∧
        max sheet.len sheet.depth + s.ps.settings.turnClearance = 74000 ∧
        (let t : TableLoad := { sheet with rect := ⟨0, 0, 122000, 1⟩ }
        max t.len t.depth + s.ps.settings.turnClearance = 124000) ∧
        (let t : TableLoad := { sheet with rect := ⟨0, 0, 122001, 1⟩ }
        124000 < max t.len t.depth + s.ps.settings.turnClearance)) ∧
      (let s := runAt loaded .running 3 .none
      s.currentStep = some (stepOf .eject) ∧ s.gt.table ≠ none ∧ ¬((stepOf .eject).disposition = .aside) ∧
        12 ≤ (s.setGt { s.gt with aside := List.replicate 12 piece }).gt.aside.length) ∧
      (let s := runAt base .running 4 .none
      s.currentStep = some (stepOf .recall) ∧ s.gt.table = none ∧ s.gt.aside = [] ∧
        (s.setGt { s.gt with aside := [piece] }).gt.aside = [piece]) ∧
      (let s := runAt base .running 5 .none
      s.currentStep = some (stepOf .pause) ∧ s.pr.limit = 0 ∧
        (let a := s.setPr { s.pr with limit := 1 }
        a.pr.limit ≠ 0 ∧ min 65535 (a.pr.done + 1) = a.pr.limit)) := by decide

/-- A CUT step that fails its checks and one that passes them. -/
theorem witness_StepsStartWithTheirChecks_cut :
    base.checkCut .waste 50000 = .error (.noLoad, 0) ∧
      loaded.checkCut .waste 50000 = .ok ⟨50000, 0, 0, 50000, 0, some 900⟩ := by decide

/-- R60, R74: a saturated target out of travel raises WARNING and then FAULT, and leaves the tracker as it was. -/
theorem test_saturated_out_of_travel :
    let s :=
      ((runAt loaded .running 0 .none).setSettings { base.ps.settings with drawCoeff := 40 }).setGt
        { loaded.gt with table := some { sheet with height := some 1650 } }
    let t := s.iterationFault 1700 .outOfTravel 1750
    s.checkCut .waste 1700 = .error (.outOfTravel, 1750) ∧ t.gt = s.gt ∧
      (t.li.notices.drop s.li.notices.length).map Frame.kind = [0x45, 0x44] ∧ t.pr.state = .faulted := by
  decide +kernel

/-- A Runner in INFEED_WAIT with the slot in a state, and a pile of a format or none. -/
def feeding (x : SlotState) (h : SlotHeight) (p : Option Pile) (l : LiftState) : State :=
  (slotAt (runAt base .running 1 .infeedWait) x h).setPl { base.pl with pile := p, state := l }

theorem witness_InfeedWaitLooksAtTheSlot :
    (let s := feeding .ready (.known 1650) none .noPile
    s.pr.state = .running ∧ s.pr.phase = .infeedWait ∧ s.jg.state = .ready ∧ s.pl.pile = none ∧
      (s.currentProgram.bind fun q => q.header.format) = none) ∧
      (let s := feeding .ready (.known 1651) (some ⟨132000, 124000, 0, 0, 0, 0, 0⟩) .atTransfer
      s.jg.height = .known 1651 ∧ (s.pl.pile.map fun p => (p.w, p.ls)) = some (132000, 124000)) ∧
      ((feeding .ready .unknown (some ⟨1, 124001, 0, 0, 0, 0, 0⟩) .atTransfer).pl.pile.map fun p => p.ls) =
        some 124001 ∧
      (feeding .empty (.known 0) none .exhausted).jg.state = .empty ∧
      (feeding .empty (.known 0) none .exhausted).pl.state = .exhausted ∧
      (let s := feeding .jogging .pending none .atTransfer
      s.jg.state ≠ .ready ∧ ¬(s.jg.state = .empty)) ∧ ¬(base.pr.state = .running) := by decide

/-- HOLD in IDLE, RUNNING, HELD and under a pending abort; LINE_HALT with 0, 1 and 2; a Runner waiting with no cycle. -/
theorem witness_HoldAndLineHaltSetTheirFlags :
    base.li.queue = [] ∧ (base.pr.state ≠ .running ∧ base.pr.state ≠ .held) ∧
      (runAt base .running 0 .none).pr.abortPending = false ∧ (runAt base .running 0 .none).pr.state = .running ∧
      (runAt base .held 0 .none).pr.state = .held ∧ ([0] : List Byte) ≠ [] ∧ ((2 : Byte) ≠ 0 ∧ (2 : Byte) ≠ 1) ∧
      (base.setPr { base.pr with abortPending := true }).pr.abortPending = true ∧
      (let s := runAt base .running 1 .infeedWait
      s.pr.state = .running ∧ s.cs.cycle = none ∧ s.pr.waits = .nothing ∧ s.pr.phase = .infeedWait) := by decide

/-- SKIP barred, with a move in flight and with none, in RUNNING and HELD; ABORT in each state. -/
theorem witness_SkipEndsTheStepAndAbortTheRun :
    base.li.queue = [] ∧ (base.pr.state ≠ .running ∧ base.pr.state ≠ .held) ∧
      (let s := runAt base .running 0 .positioning
      s.pr.state = .running ∧ s.pr.abortPending = false ∧ s.pr.skipPending = false ∧ s.pt.state = .parked ∧
        (s.currentProgram.map fun p => p.steps.length) = some 6 ∧ s.currentStep = some twice ∧ twice.kind = .cut ∧
        (gaugeAt s .approaching (some (move .runner .approach [])) none).runnerMoveInFlight = true ∧
        s.runnerMoveInFlight = false ∧ s.runnerCycleInFlight = false ∧ s.sm.estopLatch = false) ∧
      (let s := runAt base .held 1 .retract
      s.pr.state = .held ∧ s.runnerMoveInFlight = false ∧ s.runnerCycleInFlight = false ∧ s.runOpen = true ∧
        s.abortWaits = false) ∧
      (runAt base .running 1 .retract).currentStep = some (stepOf .load) ∧
      ((runAt base .held 6 .none).currentProgram.map fun p => p.steps.length) = some 6 ∧
      (runAt base .ready 0 .none).pr.abortPending = false ∧
      (gaugeAt (runAt base .running 0 .positioning) .approaching (some (move .runner .approach [])) none).abortWaits =
        true ∧
      (turnerAt base .interrupted none).pt.state = .interrupted := by decide

/-- R88: LOCATE in READY is refused BAD_STATE while a CUT_NOW's cycle is past its hold point, and taken before it. -/
theorem test_locate_manual_cycle :
    [CutState.armed, .preclamped, .clamping, .cutting, .returning, .abortReturn].map (fun x =>
        (decideLocate [0, 5, 1, 0, 0, 0] (cutAt (runAt base .ready 0 .none) x (some (cycle .manual)))).2) =
      [[0x00, 5, 1], [0x00, 5, 1], [0x04], [0x04], [0x04], [0x04]] := by decide +kernel

/-- LOCATE by index at each refusal and taken; by label in IDLE and over a chain of two programs. -/
theorem witness_LocateMovesThePosition :
    base.li.queue = [] ∧ ¬((2 : Byte).toNat ≤ 1) ∧ ¬(1 ≤ (0 : Byte).toNat) ∧ base.program 99 = none ∧
      ((base.program 5).map fun p => (p.steps.length, p.complete)) = some (6, true) ∧ 6 ≤ (6 : Byte).toNat ∧
      (5 : Byte).toNat < 6 ∧ ((base.program 7).map Program.complete) = some false ∧
      (runAt base .running 0 .none).pr.state ≠ .ready ∧
      (let s := runAt base .ready 0 .none
      s.pr.state = .ready ∧ s.pt.state = .parked ∧ s.runnerMoveInFlight = false ∧ s.cs.state = .ready ∧ s.cs.pendingDone = none) ∧
      (∀ x ∈ [CutState.clamping, .cutting, .returning, .abortReturn],
        (cutAt (runAt base .ready 0 .none) x (some (cycle .manual))).cs.state = x) ∧
      ([0, 0, 0, 0, 0] : List Byte).length = 5 ∧ 1 < (2 : Byte).toNat ∧
      ¬(1 ≤ (0 : BitVec 16).toNat) ∧ (9999 : BitVec 16).toNat ≤ 9999 ∧ ¬((10000 : BitVec 16).toNat ≤ 9999) ∧
      base.pr.state = .idle ∧
      (let s := base.setPr { base.pr with state := .held, program := 6, step := 0 }
      let p : Program := ⟨{ plain with link := some 5 }, [stepOf .cut], true⟩
      let q : Program :=
        ⟨plain, [twice, stepOf .load, stepOf .turn, stepOf .eject, stepOf .recall, stepOf .pause], true⟩
      s.program 6 = some p ∧ s.program 5 = some q ∧ q.complete = true ∧ p.header.link = some 5 ∧
        (∀ r ∈ p.steps.drop 1, r.label ≠ 7) ∧ q.steps[0]? = some twice ∧ twice.label = 7 ∧
        (∀ r ∈ q.steps.drop 0, r.label ≠ 8) ∧ q.header.link = none) := by decide

theorem witness_ClearFaultClearsEveryBlock :
    base.li.queue = [] ∧ (latched base).sm.estopLatch = true ∧ base.sm.estopLatch = false := by decide

/-- A Runner in PLACE_WAIT of a LOAD and of a RECALL step, in REMOVE_WAIT, in a pause hold, and in none of them. -/
theorem witness_ConfirmActsInItsThreePlaces :
    (let s := (runAt base .running 1 .placeWait).setGt { base.gt with prepared := some (72000, 52000) }
    s.pr.state = .running ∧ s.pr.phase = .placeWait ∧ s.currentStep = some (stepOf .load) ∧
      s.gt.prepared = some (72000, 52000)) ∧
      (let s := (runAt base .running 4 .placeWait).setGt { base.gt with aside := [piece] }
      s.currentStep = some (stepOf .recall) ∧ s.gt.aside = [piece]) ∧
      (let s := runAt loaded .running 3 .removeWait
      s.pr.phase = .removeWait ∧ s.currentStep = some (stepOf .eject)) ∧
      (let s := base.setPr { base.pr with state := .held, hold := .programPause }
      s.pr.state = .held ∧ s.pr.hold = .programPause) ∧
      ¬(base.pr.state = .running) ∧ ¬(base.pr.state = .held) := by decide

/-- A run going and held, in each phase an operation ends in, with iterations left and none, continuous and single. -/
theorem witness_ContactsAndFinishedStepsGoOn :
    loaded.gt.table = some sheet ∧ (runAt base .faulted 0 .cutting).pr.state ≠ .running ∧
      (let s := runAt loaded .running 0 .positioning
      s.currentStep = some twice ∧ s.pr.abortPending = false ∧ s.pr.skipPending = false ∧ s.pr.state = .running ∧
        s.keyOn = false ∧ s.pr.lineHalt = false ∧ s.pr.holdReq = false ∧ s.cs.state = .ready ∧
        s.pr.iter + 1 < twice.count ∧ s.pr.mode = .continuous ∧
        (s.setPr { s.pr with figures := some (cycle .runner) }).pr.figures = some (cycle .runner) ∧
        (s.setPr { s.pr with mode := .single }).pr.mode = .single ∧
        twice.count ≤ (s.setPr { s.pr with iter := 1 }).pr.iter + 1) ∧
      (runAt base .running 1 .retract).currentStep = some (stepOf .load) ∧ (stepOf .load).kind ≠ .turn ∧
      (runAt base .held 2 .retract).currentStep = some (stepOf .turn) ∧ (runAt base .held 2 .retract).pr.state ≠ .running ∧
      (runAt base .held 2 .contact).pr.phase = .contact := by decide

/-! ### Witnesses: the back gauge -/

/-- A position of four bytes. -/
def position (v : Int) : List Byte := leInt 4 v

/-- Positions at and past each end of the travel; each refusal; a move started, stored and refused at its start. -/
theorem witness_GaugeMoveIsHandedStoredOrRefused :
    (position 1800).length = 4 ∧ base.li.queue = [] ∧ signedOf 4 (leNat (position 1800)) = 1800 ∧
      signedOf 4 (leNat (position 1799)) = 1799 ∧ signedOf 4 (leNat (position 124001)) = 124001 ∧
      signedOf 4 (leNat (position (-1))) = -1 ∧ signedOf 4 (leNat (position 124000)) = 124000 ∧
      ¬((2 : Byte).toNat ≤ 1) ∧ (runAt base .faulted 0 .none).runOpen = true ∧ base.runOpen = false ∧
      (turningNow base).manualInFlight = true ∧
      (let s := gaugeAt base .approaching none none
      s.gaugeBusy = true ∧ s.manualInFlight = false ∧ s.turnerMoving = false ∧ s.bg.slot = none ∧
        (slotted s).bg.slot ≠ none) ∧
      (turnerAt base .gripping none).turnerMoving = true ∧
      ((loose base).bg.referenced = false ∧ (loose base).gaugeBusy = false) ∧ (latched base).sm.estopLatch = true ∧
      ((guardOff base).guardOpen = true ∧ (guardOff base).gaugeBusy = false) ∧
      (base.bg.referenced = true ∧ base.sm.estopLatch = false ∧ base.guardOpen = false) ∧
      base.bg.slot = none ∧ (slotted base).bg.slot = some 1800 := by decide

/-- The machine with its gauge at a position, last moved in a direction, in position at 50000. -/
def standing (a : Int) (d : Direction) : State := base.setBg { base.bg with actual := a, dir := d, inPos := true, target := 50000 }

/-- The four cases of an approach at their limits; a retract begun and done; each answer to a move handed. -/
theorem witness_ApproachesAndRetractsChooseTheirMotion :
    (let s := standing 50000 .forward
    s.bg.inPos = true ∧ s.bg.dir = .forward ∧ (50000 : Int) = s.bg.target) ∧
      (let s := standing 50000 .backward
      ¬(s.bg.dir = .forward) ∧ (49999 : Int) < s.bg.actual ∧ s.bg.actual ≤ 50000 ∧
        (50000 : Int) < min 124000 (50000 + s.ps.settings.backlashMargin)) ∧
      (let s := standing 123997 .backward
      s.bg.actual ≤ 124000 ∧ min 124000 ((124000 : Int) + s.ps.settings.backlashMargin) ≤ 124000 ∧
        s.bg.actual < 124000 - 2) ∧
      (let s := standing 123998 .backward
      (124000 : Int) - 2 ≤ s.bg.actual) ∧
      ((standing 49997 .forward).bg.actual < 50000 - 2 ∧ (50000 : Int) - 2 ≤ (standing 49998 .forward).bg.actual) ∧
      (gaugeAt base .approaching none none).gaugeBusy = true ∧
      ((loose base).gaugeBusy = false ∧ (loose base).bg.referenced = false) ∧
      ((latched base).gaugeBusy = false ∧ (latched base).bg.referenced = true ∧ (latched base).sm.estopLatch = true) ∧
      ((guardOff base).sm.estopLatch = false ∧ (guardOff base).guardOpen = true) ∧
      (let s := base.setPr { base.pr with retractPos := 124000 }
      s.gaugeBusy = false ∧ s.bg.referenced = true ∧ s.sm.estopLatch = false ∧ s.guardOpen = false ∧
        s.bg.actual < s.pr.retractPos - 2) := by decide

/-- Each refusal, a switch made and none, and a search under way at each of its segments. -/
theorem witness_ReferencingFindsTheSwitch :
    base.li.queue = [] ∧ (runAt base .held 0 .none).runOpen = true ∧ base.runOpen = false ∧
      (gaugeAt base .fault none none).bg.state = .fault ∧ base.bg.state ≠ .fault ∧
      (gaugeAt base .dwell none none).gaugeBusy = true ∧ (turningNow base).manualInFlight = true ∧
      (turnerAt base .turning none).turnerMoving = true ∧
      ¬(base.gaugeBusy = true ∨ base.manualInFlight = true ∨ base.turnerMoving = true) ∧
      (latched base).sm.estopLatch = true ∧ (guardOff base).guardOpen = true ∧
      ¬(base.sm.estopLatch = true ∨ base.guardOpen = true) ∧
      ¬(m0.refSwitch = true ∨ m0.rearOvertravel = true) ∧ { m0 with rearOvertravel := true }.rearOvertravel = true ∧
      (let s := gaugeAt base .referencing (some (move .gaugeReference .reference [.offSwitches, .ontoSwitch])) none
      s.bg.move = some (move .gaugeReference .reference [.offSwitches, .ontoSwitch]) ∧ s.bg.dwell = none ∧
        s.bg.dir = .forward ∧ [Segment.offSwitches, .ontoSwitch].head? ≠ some .ontoSwitch) ∧
      (let s := (gaugeAt base .referencing (some (move .gaugeReference .reference [.ontoSwitch])) none)
      let x := s.setBg { s.bg with dir := .backward }
      x.bg.move = some (move .gaugeReference .reference [.ontoSwitch]) ∧ x.bg.dwell = none ∧ x.bg.dir = .backward ∧
        (gaugeAt x .referencing x.bg.move (some 150)).bg.dwell ≠ none) ∧ base.bg.move = none := by decide

/-- A dwell, a segment at 2 and 3 from its end, with another after it and as the last, for each issuer. -/
theorem witness_SegmentsDwellAndComplete :
    (let v := move .runner .approach [.to .backward 50300, .to .forward 50000]
    let s := gaugeAt base .dwell (some v) (some 150)
    s.bg.move = some v ∧ v.plan = .to .backward 50300 :: [.to .forward 50000] ∧ s.bg.dwell = some 150 ∧
      base.bg.dwell = none) ∧
      (let v := move .gaugeMove .approach [.to .forward 50000]
      let s := gaugeAt base .approaching (some v) none
      s.bg.move = some v ∧ s.bg.state = .approaching ∧ v.plan = .to .forward 50000 :: [] ∧
        ((50002 : Int) + s.bg.zero - 50000).natAbs ≤ 2 ∧ ¬(((50003 : Int) + s.bg.zero - 50000).natAbs ≤ 2) ∧
        ((49998 : Int) + s.bg.zero - 50000).natAbs ≤ 2) ∧
      (MoveIssuer.gaugeMove = .gaugeMove ∧ (runAt base .running 0 .positioning).runOpen = true ∧ base.runOpen = false) ∧
      (let s := standing 50000 .forward
      s.bg.state = .standing ∧ 2 < ((50003 : Int) + s.bg.zero - s.bg.target).natAbs ∧
        ¬(2 < ((50002 : Int) + s.bg.zero - s.bg.target).natAbs)) := by decide

/-- Servo control in motion and at rest, a lag of 100 and of 101, a gauge not in FAULT and in it. -/
theorem witness_GaugeFaultsStopTheMove :
    (gaugeAt base .approaching none none).gaugeBusy = true ∧
      (base.bg.state = .standing ∧ base.bg.referenced = true) ∧
      ¬((loose base).gaugeBusy = true ∨ ((loose base).bg.state = .standing ∧ (loose base).bg.referenced = true)) ∧
      100 < (-101 : Int).natAbs ∧ (100 : Int).natAbs ≤ 100 ∧ base.bg.state ≠ .fault ∧
      (gaugeAt base .fault none none).bg.state = .fault := by decide

/-- A gauge on its way, at the end of its segment. -/
theorem witness_GaugeLawIsKept :
    let s :=
      (gaugeAt base .approaching (some (move .gaugeMove .approach [.to .forward 50000])) none).setPending
        [.segmentEnd { m0 with encoder := 50000 }]
    GaugeOk s.bg ∧ leaves s (fun t => decide (t.bg.state = .standing ∧ t.bg.inPos = true)) = true := by
  refine ⟨⟨by decide, by decide, by decide, by decide, ?_⟩, by decide +kernel⟩
  intro m h
  cases h
  decide

/-- A referenced gauge at the front end of its travel with a turn of the load in hand, a move waiting. -/
theorem witness_GaugeLawIsKept_travel :
    let s :=
      (turnerAt
        (loaded.setBg { base.bg with referenced := true, state := .standing, target := 1800, actual := 1800, zero := 0 })
        .turning (some (turn .runner))).setPending [.gaugeMove { m0 with encoder := 1798 } 0 (leInt 4 124000 ++ [0])]
    TravelOk s ∧
      (∀ r x, s.pt.record = some r → r.tracked = true → s.gt.table = some x → x.loadId = r.loadId →
        x.len ≤ Config.gmax) ∧
      (s.bg.referenced = true → ∀ c rest, s.pending = c :: rest → (Config.gmin : Int) - 2 ≤ c.lines.encoder + s.bg.zero) ∧
      leaves s (fun t => decide (t.bg.actual = 1798)) = true := by
  refine ⟨⟨by decide, nofun, nofun, nofun, nofun, by decide, ?_, nofun, ?_, nofun, nofun⟩, ?_, ?_, by decide +kernel⟩
  · rintro _ ⟨⟩; decide
  · rintro _ ⟨⟩; decide
  · rintro _ _ ⟨⟩ - ⟨⟩ -; decide
  · rintro - _ _ ⟨⟩; decide

/-! ### Witnesses: the cut station -/

/-- Each disposition code, refusal and outcome of a CUT_NOW, tracked and not, at the ends of the travel. -/
theorem witness_CutNowIsHandedOrRefused :
    (position 1800).length = 4 ∧ base.li.queue = [] ∧ 2 < (3 : Byte).toNat ∧ (2 : Byte).toNat ≤ 2 ∧
      (runAt base .running 0 .none).runOpen = true ∧ base.runOpen = false ∧ (halted base).pr.lineHalt = true ∧
      (let s := base.setCs { base.cs with counter := 8400 }
      s.gt.openLoad.isSome = false ∧ s.ps.settings.knifeWarn + s.ps.settings.knifeGrace ≤ s.cs.counter) ∧
      (let s := loaded.setGt { loaded.gt with table := none }
      s.gt.openLoad.isSome = true ∧ s.checkCut .waste 50000 = .error (.noLoad, 0)) ∧
      (∀ s ∈ [base, loaded],
        s.pr.lineHalt = false ∧ s.cs.counter < s.ps.settings.knifeWarn + s.ps.settings.knifeGrace ∧
          ¬(s.cs.state ≠ .ready ∨ s.manualInFlight = true ∨ s.gaugeBusy = true ∨ s.bg.slot ≠ none ∨
            s.pt.state ≠ .parked) ∧ s.bg.referenced = true ∧ ¬(s.sm.estopLatch = true ∨ s.guardOpen = true) ∧
          s.keyOn = false) ∧
      (cutAt base .recover none).cs.state ≠ .ready ∧ (loose base).bg.referenced = false ∧
      (latched base).sm.estopLatch = true ∧ ((1799 : Int) < 1800 ∧ (124000 : Int) < 124001) ∧
      loaded.checkCut .waste 50000 = .ok ⟨50000, 0, 0, 50000, 0, some 900⟩ ∧
      loaded.checkCut .waste 52000 = .error (.emptyCut, 52000) := by decide

/-- The approach of a CUT_NOW that moves, and one that is complete at once. -/
theorem witness_CutNowIsHandedOrRefused_approach :
    base.approach .manualCut false .approach 50000 =
        .moving
          (base.setBg
            { base.bg with
              state := .approaching
              target := 50000
              move := some ⟨.manualCut, .approach, [.to .forward 50000], false, 50000⟩ }) ∧
      (standing 50000 .forward).approach .manualCut false .approach 50000 =
        .completed (standing 50000 .forward) false ∧
      ((standing 124000 .backward).approach .manualCut false .approach 124000 matches .completed _ true) = true ∧
      (standing 50000 .forward).keyOn = false ∧ (keyed (standing 50000 .forward)).keyOn = true := by decide

/-- A station in each state a pedal or the permission meets, the pedal counting and not, the conditions met and not. -/
theorem witness_PedalPreclampsTheStack :
    (let s := (cutAt base .armed (some (cycle .runner)))
    let x := s.setCs { s.cs with pedalCounts := true }
    x.cs.state = .armed ∧ x.cs.pedalCounts = true ∧ x.sm.clampConditions = true ∧
      (keyed x).sm.clampConditions = false ∧ ¬(s.cs.pedalCounts = true)) ∧
      (cutAt base .grantWait none).cs.state = .grantWait ∧ (cutAt base .preclamped none).cs.state = .preclamped ∧
      (base.cs.state ≠ .armed ∧ base.cs.state ≠ .grantWait ∧ base.cs.state ≠ .preclamped) := by decide

/-- A stroke in each state, its cycle of each issuer, the counter before its warn level and at it. -/
theorem witness_ClampAndKnifeRunTheirStroke :
    (let s := cutAt base .clamping (some (cycle .runner))
    s.cs.state = .clamping ∧ s.cs.cycle = some (cycle .runner) ∧ (cycle .runner).issuer = .runner ∧
      s.pr.abortPending = false ∧ s.pr.skipPending = false ∧ (cycle .manual).issuer = .manual) ∧
      (let s := cutAt base .cutting (some (cycle .runner))
      s.cs.state = .cutting ∧ s.cs.cycle = some (cycle .runner) ∧
        (let x := s.setCs { s.cs with counter := 7998 }
        min 999999 (x.cs.counter + 1) < x.ps.settings.knifeWarn) ∧
        (let x := s.setCs { s.cs with counter := 7999 }
        x.cs.warn = false ∧ x.ps.settings.knifeWarn ≤ min 999999 (x.cs.counter + 1)) ∧
        (s.setCs { s.cs with warn := true }).cs.warn = true) ∧
      (cutAt base .returning none).cs.state = .returning ∧ (base.cs.state ≠ .clamping ∧ base.cs.state ≠ .cutting) := by
  decide

/-- A return of the run and of none, an abort return, a recovery under the grant with a completion pending and none. -/
theorem witness_ReturnsRecoveriesAndBladeReset :
    (let s := runAt (cutAt base .returning (some (cycle .runner))) .running 0 .cutting
    s.cs.cycle = some (cycle .runner) ∧ s.cs.state = .returning ∧ (cycle .runner).issuer = .runner ∧ s.runOpen = true ∧
      ¬((cycle .manual).issuer = .runner)) ∧
      ((cutAt base .abortReturn (some (cycle .runner))).cs.state = .abortReturn ∧ (cycle .runner).leftTop = true) ∧
      (base.cs.state ≠ .returning ∧ base.cs.state ≠ .abortReturn) ∧
      (let s := (cutAt base .recover none).setHs { base.hs with holder := some .cut }
      s.cs.state = .recover ∧ s.hs.holder = some .cut ∧ s.cs.pendingDone = none ∧
        (s.setCs { s.cs with pendingDone := some (cycle .runner) }).cs.pendingDone = some (cycle .runner)) ∧
      (base.cs.state ≠ .recover ∧ base.hs.holder ≠ some .cut) ∧ base.li.queue = [] ∧
      (cutAt base .bladeChange none).cs.state = .bladeChange ∧ base.cs.state ≠ .bladeChange ∧
      (m0.knifeTop = true ∧ { m0 with knifeTop := false }.knifeTop = false) := by decide

/-! ### Witnesses: the supply and the infeed -/

/-- The supply of `base` in a pump state, with a holder. -/
def pumpAt (x : PumpState) (c : Option Consumer) : State := base.setHs { base.hs with pump := x, holder := c }

/-- `s` with the enable flag clear. -/
def disabled (s : State) : State := s.setHs { s.hs with enable := false }

/-- `s` with a CUT request waiting. -/
def asking (s : State) : State := s.setHs { s.hs with reqCut := true }

theorem witness_PumpStartsStopsAndFaults :
    base.li.queue = [] ∧ base.hs.enable = true ∧ (disabled base).hs.enable = false ∧
      (disabled (pumpAt .off none)).hs.pump = .off ∧
      ((disabled (pumpAt .lockout none)).hs.pump ≠ .ready ∧ (disabled (pumpAt .lockout none)).hs.pump ≠ .off) ∧
      (pumpAt .runUp none).hs.pump = .runUp ∧ (base.hs.pump = .ready ∧ base.hs.holder = none) ∧
      (pumpAt .ready (some .cut)).hs.holder ≠ none ∧
      ((pumpAt .lockout none).hs.pump ≠ .ready ∧ (pumpAt .lockout none).hs.pump ≠ .runUp) ∧
      { m0 with pressureOk := true }.pressureOk = true ∧ m0.pressureOk = false ∧
      (asking (pumpAt .runUp none)).hs.anyRequest = true ∧ (pumpAt .runUp none).hs.anyRequest = false ∧
      (pumpAt .lockout none).hs.pump = .lockout ∧
      (let s := base.setHs { base.hs with idleTimer := some 300000 }
      s.hs.idleTimer.isSome = true ∧ s.hs.pump = .ready ∧ s.hs.holder = none) ∧ ¬(base.hs.idleTimer.isSome = true) ∧
      (∀ c : Consumer, (pumpAt .ready (some c)).hs.holder = some c) ∧ (pumpAt .off none).hs.pump ≠ .ready ∧
      base.hs.holder = none ∧ (cutAt base .preclamped none).cs.state = .preclamped ∧
      (cutAt base .returning none).cs.state = .returning := by
  refine ⟨?_, ?_, ?_, ?_, ?_, ?_, ?_, ?_, ?_, ?_, ?_, ?_, ?_, ?_, ?_, ?_, fun _ => rfl, ?_, ?_, ?_⟩ <;> decide

/-- A supply that decides, by priority and by turns, and one that may not; a request and a release in each case. -/
theorem witness_TheGrantIsArbitrated :
    (base.hs.pump = .ready ∧ base.hs.enable = true ∧ base.hs.holder = none) ∧ ¬((disabled base).hs.enable = true) ∧
      base.ps.settings.roundRobin = false ∧ { base.ps.settings with roundRobin := true }.roundRobin = true ∧
      permutation base.ps.settings.priorityCut base.ps.settings.priorityLift base.ps.settings.priorityTurn = true ∧
      base.hs.anyRequest = false ∧ (asking base).hs.choice base.ps.settings = some .cut ∧
      (let s := (liftAt base .raising (some .initial)).setHs { base.hs with reqLift := true }
      s.hs.choice s.ps.settings = some .lift ∧ s.pl.state = .raising ∧ s.lines.topOfPile = false ∧
        (s.sample { m0 with topOfPile := true }).lines.topOfPile = true ∧ s.hs.stopPending = false ∧
        (s.setHs { s.hs with stopPending := true }).hs.stopPending = true ∧
        ({ s.hs with reqLift := false, last := some .lift } : Supply).anyRequest = false ∧
        ({ s.hs with reqLift := false, reqCut := true, last := some .lift } : Supply).anyRequest = true) ∧
      (let p : Pile := ⟨64000, 90000, 2620, 0, 0, 2620, 0⟩
      let s := (liftAt base .raising (some .takeOff)).setPl { base.pl with raising := some .takeOff, pile := some p }
      s.pl.pile = some p ∧ s.pl.raising = some .takeOff ∧ (liftAt s .raising (some .initial)).pl.raising = some .initial ∧
        ∀ x ∈ [SlotState.empty, .jogging, .waitHeight, .ready, .stopped, .failed],
          (slotAt s x .pending).jg.state = x) ∧
      (base.setHs { base.hs with reqTurn := true }).hs.choice base.ps.settings = some .turn ∧
      (asking base).hs.requested .cut = true ∧ (base.hs.requested .cut = false ∧ base.hs.holder ≠ some .cut) ∧
      ((pumpAt .off none).hs.pump = .off ∧ (pumpAt .off none).hs.enable = true ∧
        (pumpAt .off none).sm.estopLatch = false ∧ (disabled (pumpAt .off none)).hs.enable = false) ∧
      ((pumpAt .lockout none).hs.pump ≠ .off ∧ (pumpAt .lockout none).hs.pump ≠ .ready) ∧
      (let s := pumpAt .ready (some .cut)
      s.hs.holder = some .cut ∧ s.hs.stopPending = false ∧ s.hs.anyRequest = false ∧
        (s.setHs { s.hs with reqLift := true }).hs.anyRequest = true ∧
        (s.setHs { s.hs with stopPending := true }).hs.stopPending = true) := by decide

/-- A supply under grant and a pile part taken, at a PUMP_OFF. -/
theorem witness_SupplyAndPileLawsAreKept :
    let s :=
      ((pumpAt .ready (some .cut)).setPl
        { base.pl with pile := some ⟨64000, 90000, 2620, 1750, 874, 4, 1⟩ }).setPending [.pumpOff m0 0 []]
    SupplyOk s.hs ∧ PileOk s.pl ∧ leaves s (fun t => t.hs.stopPending && !t.hs.enable) = true := by
  refine ⟨⟨by decide, by decide, by decide, by decide, by decide, by decide⟩, ⟨?_, by decide⟩, by decide +kernel⟩
  intro p h
  cases h
  decide

/-- The knife leaves its top: full pressure in CLAMPING under the grant and the permission. -/
theorem witness_SupplyAndPileLawsAreKept_knife :
    let s :=
      (((pumpAt .ready (some .cut)).setCs
        { base.cs with state := .clamping, cycle := some (cycle .runner), clampValve := .high }).setSm
        { base.sm with permission := true }).setPending [.clampFullPressure m0]
    CutOk s ∧ s.cs.knifeValve ≠ .down ∧ leaves s (fun t => decide (t.cs.knifeValve = .down)) = true :=
  ⟨⟨by decide, by decide, by decide, by decide⟩, by decide, by decide +kernel⟩

/-- Formats at and past their ends; each lift state that takes, waits or refuses; raises at each measurement. -/
theorem witness_PilesAreDeclaredRaisedAndLowered :
    (leBytes 4 132000).length = 4 ∧ base.li.queue = [] ∧ leNat (leBytes 4 132000) = 132000 ∧
      leNat (leBytes 4 124000) = 124000 ∧ ¬(132001 ≤ 132000) ∧ ¬(124001 ≤ 124000) ∧ ¬((0 : Nat) ≠ 0) ∧
      (let s := liftAt base .atTransfer none
      s.pl.state ≠ .noPile ∧ s.pl.state ≠ .lowered ∧ s.pl.state ≠ .lowering) ∧
      (halted base).pr.lineHalt = true ∧ (liftAt base .lowering none).pl.state = .lowering ∧
      (base.pl.state = .noPile ∧ base.pr.lineHalt = false ∧ base.pl.state ≠ .lowering ∧ base.sm.estopLatch = false) ∧
      (latched base).sm.estopLatch = true ∧ (liftAt base .raising none).pl.state = .raising ∧
      (slotAt base .waitHeight .pending).jg.state = .waitHeight ∧
      ¬(base.pl.state = .raising ∨ base.pl.state = .lowering ∨ base.jg.state = .waitHeight) ∧
      (m0.floorStop = true ∧ { m0 with floorStop := false }.floorStop = false) ∧
      (let p : Pile := ⟨64000, 90000, 2620, 1746, 874, 0, 1⟩
      let s :=
        ((liftAt (slotAt base .waitHeight .pending) .raising (some .takeOff)).setPl
          { base.pl with state := .raising, raising := some .takeOff, pile := some p }).setHs
            { base.hs with holder := some .lift }
      s.pl.state = .raising ∧ s.hs.holder = some .lift ∧ s.pl.pile = some p ∧ s.pl.raising = some .takeOff ∧
        s.jg.state = .waitHeight ∧ 13000 - 11255 < p.hc ∧ ¬(13000 - 11254 = 0 ∨ 13000 - 11254 < p.hc) ∧
        (s.setPl { s.pl with raising := some .initial }).pl.raising = some .initial ∧
        (slotAt s .jogging .pending).jg.state ≠ .waitHeight) ∧
      (base.pl.state ≠ .raising ∧ base.hs.holder ≠ some .lift) := by decide

/-- The slot and lift states of a start, the reasons against it, a discard and what forbids it, each end of a cycle. -/
theorem witness_JogsStartRunAndEnd :
    base.li.queue = [] ∧ (halted base).pr.lineHalt = true ∧
      (base.pr.lineHalt = false ∧ base.sm.estopLatch = false ∧ (latched base).sm.estopLatch = true) ∧
      (liftAt base .atTransfer none).jg.state = .empty ∧ (liftAt base .atTransfer none).pl.state = .atTransfer ∧
      (base.jg.state = .empty ∧ base.pl.state = .noPile) ∧
      (let s := slotAt (liftAt base .stopped (some .takeOff)) .stopped .pending
      s.jg.state = .stopped ∧ s.jg.height = .pending ∧ s.pl.state = .stopped ∧ s.pl.raising = some .takeOff) ∧
      ¬((slotAt base .stopped .unknown).jg.height = .pending) ∧
      ¬(SlotState.jogging = .empty) ∧ (slotAt base .jogging .pending).jg.state ≠ .stopped ∧
      (let s := slotAt (runAt base .running 1 .placeWait) .ready (.known 874)
      s.jg.state = .ready ∧ s.jg.height ≠ .pending ∧ s.runOpen = true ∧ s.pr.phase = .placeWait ∧
        s.currentStep = some (stepOf .load) ∧ (stepOf .load).kind = .load) ∧
      (slotAt base .failed .unknown).jg.height ≠ .pending ∧ base.runOpen = false ∧ 1 < (2 : Byte).toNat ∧
      (let s := slotAt base .jogging .pending
      s.jg.state = .jogging ∧ s.jg.retries < s.ps.settings.jogRetries ∧
        (s.setJg { s.jg with retries := 2 }).ps.settings.jogRetries ≤ (s.setJg { s.jg with retries := 2 }).jg.retries) ∧
      m0.sideAligned = false ∧ base.jg.state ≠ .jogging := by decide

/-! ### Witnesses: the turner and safety -/

/-- The counts at each end, each refusal, a retract begun and one done; TURNER_PARK in FAULT and in each interrupted
phase. -/
theorem witness_TurnNowAndTurnerParkAreTakenOrRefused :
    base.li.queue = [] ∧ ¬(1 ≤ (0 : Byte).toNat) ∧ ¬((4 : Byte).toNat ≤ 3) ∧
      (1 ≤ (3 : Byte).toNat ∧ (3 : Byte).toNat ≤ 3) ∧ (runAt base .held 0 .none).runOpen = true ∧
      (halted base).pr.lineHalt = true ∧
      (let s := loaded.setGt { loaded.gt with table := none }
      s.gt.openLoad.isSome = true ∧ s.gt.table = none) ∧
      (∀ s ∈ [base, loaded],
        s.runOpen = false ∧ s.pr.lineHalt = false ∧
          ¬(s.pt.state ≠ .parked ∨ s.manualInFlight = true ∨ s.cs.state ≠ .ready ∨ s.gaugeBusy = true ∨
            s.bg.slot ≠ none) ∧ s.bg.referenced = true ∧ ¬(s.sm.estopLatch = true ∨ s.guardOpen = true)) ∧
      (loose base).bg.referenced = false ∧ (latched base).sm.estopLatch = true ∧ base.gt.openLoad.isSome = false ∧
      (loaded.gt.openLoad.isSome = true ∧ loaded.gt.table = some sheet ∧
        max sheet.len sheet.depth + loaded.ps.settings.turnClearance = 74000) ∧
      ((73997 : Int) + loaded.bg.zero < 74000 - 2 ∧ (74000 : Int) - 2 ≤ 73998 + loaded.bg.zero) ∧
      (m0.clampUp = true ∧ m0.knifeTop = true) ∧
      (base.pt.state ≠ .interrupted ∧ base.pt.state ≠ .fault) ∧
      (let s := turnerAt base .fault none
      s.pt.state = .fault ∧ s.runOpen = false ∧ ¬(s.manualInFlight = true ∨ s.gaugeBusy = true)) ∧
      (let s := halted (turnerAt base .interrupted (some (turn .nobody)))
      s.pt.state = .interrupted ∧ s.pr.lineHalt = true) ∧
      (let r : TurnRec := { turn .nobody with interrupted := some .release }
      let s := turnerAt base .interrupted (some r)
      s.pt.state = .interrupted ∧ s.pt.record = some r ∧ s.bg.referenced = true ∧
        (73997 : Int) + s.bg.zero < r.clearance - 2 ∧ r.clearance - 2 ≤ 73998 + s.bg.zero ∧
        r.interrupted = some .release ∧ (turn .nobody).interrupted ≠ some .release) := by decide

/-- The turner in each state under the grant and without it; quarters short of the count and at it; each issuer. -/
theorem witness_TurnsGripRotateReleaseAndPark :
    (let s := (turnerAt base .gripping (some (turn .runner))).setHs { base.hs with holder := some .turn }
    s.pt.state = .gripping ∧ s.hs.holder = some .turn ∧ s.pt.record = some (turn .runner) ∧
      (turn .runner).completed < (turn .runner).commanded ∧
      (let r : TurnRec := { turn .runner with completed := 2 }
      r.commanded ≤ r.completed)) ∧
      ¬(base.pt.state = .gripping) ∧
      (let s := turnerAt base .turning (some (turn .runner))
      s.pt.state = .turning ∧ (turn .runner).commanded ≤ (turn .runner).completed + 1 ∧
        (let r : TurnRec := { turn .runner with completed := 0 }
        r.completed + 1 < r.commanded)) ∧
      (let s := (turnerAt base .releasing none).setHs { base.hs with holder := some .turn }
      s.pt.state = .releasing ∧ s.hs.holder = some .turn ∧ s.pt.record = none) ∧
      ((runAt base .running 2 .turning).runOpen = true ∧ base.runOpen = false) ∧
      (turningNow base).pt.manual = some ⟨1, 74000, true, 1, .turn, false⟩ ∧ base.pt.manual = none ∧
      (turn .turnNow).issuer = .turnNow ∧ (turn .nobody).issuer = .nobody ∧ base.pt.state = .parked ∧
      base.lines.gripClosed = false ∧ base.pt.parkFromFault = false ∧ base.pt.state ≠ .turning := by decide

/-- `base` with both buttons released or one still pressed, and a pair start at 1000. -/
def buttons (left right : Bool) : State :=
  base.setSm
    { base.sm with
      twoHandLeft := ⟨!left, !left, false, false⟩, twoHandRight := ⟨!right, !right, false, false⟩, pairStart := some 1000 }

/-- Changes of each input both ways; a pair at 500 ms and past it; a discrepancy; the acknowledgement's cases. -/
theorem witness_SafetyInputsAct :
    (let x := base.sm.rearGuard
    (x.a || x.b || x.latch) = false ∧ (true || x.b || x.latch) = true) ∧
      [Consumers.turner, .gauge, .cutStation].Perm [.cutStation, .gauge, .turner] ∧
      [Consumers.turner, .infeed, .supply, .cutStation, .gauge, .runner].Perm
        [.runner, .gauge, .cutStation, .supply, .infeed, .turner] ∧
      base.sm.estopLatch = false ∧ (latched base).sm.estopLatch = true ∧
      (let s := buttons false true
      let x := s.sm.twoHandLeft
      (x.a || x.b || x.latch) = true ∧ s.sm.permission = false ∧ (s.sm.input .twoHandRight).atUnsafe = false ∧
        s.sm.pairStart = some 1000 ∧ 1500 ≤ 1000 + 500 ∧ 1000 + 500 < 1501 ∧ s.sm.rearm = true ∧
        s.sm.lightCurtain.atUnsafe = false ∧ s.sm.rearGuard.atUnsafe = false ∧ s.sm.bladeKey.atUnsafe = false ∧
        (keyed s).sm.bladeKey.atUnsafe = true) ∧
      ((buttons false false).sm.input .twoHandRight).atUnsafe = true ∧
      (let x := ({ (SafetyInput.mk true false true false) with b := false } : SafetyInput)
      (x.a || x.b || x.latch) = true ∧ (false || x.b || x.latch) = false ∧ x.timer = true ∧ x.a ≠ x.b) ∧
      ¬(base.sm.rearGuard.timer = true) ∧ (cutAt base .bladeChange none).cs.state = .bladeChange ∧
      base.cs.state ≠ .bladeChange ∧ (m0.clampUp = true ∧ m0.knifeTop = true) ∧
      ¬(({ m0 with clampUp := false } : Lines).clampUp = true ∧ ({ m0 with clampUp := false } : Lines).knifeTop = true) ∧
      base.li.queue = [] ∧
      ({ base.sm with emergencyStop := ⟨true, true, false, false⟩ } : Monitor).emergencyStop.atUnsafe = true ∧
      (latched base).sm.emergencyStop.atUnsafe = false := by decide

/-! ### Witnesses: what the blocks do at an end, a stop or a reset -/

/-- The sheet's cycle by an issuer, its knife still at the top. -/
def early (who : CycleIssuer) : Cycle := { cycle who with leftTop := false }

/-- The station with a CUT_NOW whose approach is under way or complete. -/
def cuttingNow (s : State) (approached : Bool) : State :=
  s.setCs { s.cs with manual := some ⟨cycle .manual, approached⟩ }

/-- The turner with a TURN_NOW of the sheet at a stage. -/
def turnNowAt (s : State) (g : ManualStage) : State :=
  s.setPt { s.pt with manual := some ⟨2, 60000, true, 1, g, false⟩ }

/-- A cycle of a run that is gone and of a CUT_NOW at the hold point, and one past it; a CUT_NOW waiting. -/
theorem witness_SoftResetOfTheBlocks_station :
    (∀ who ∈ [CycleIssuer.runner, .manual],
      let s := cutAt base .grantWait (some (early who))
      s.cs.manual = none ∧ s.cs.cycle = some (early who) ∧ s.cs.state = .grantWait ∧ (early who).leftTop = false ∧
        (early who).issuer = who ∧ s.runOpen = false) ∧
      (cutAt base .clamping (some (early .runner))).cs.state = .clamping ∧
      (cutAt base .cutting (some (cycle .runner))).cs.state = .cutting ∧
      (let s := cuttingNow base true
      s.cs.state ≠ .clamping ∧ s.cs.state ≠ .cutting ∧ s.cutAtHoldPoint = false ∧
        s.cs.manual = some ⟨cycle .manual, true⟩) ∧
      base.cs.manual = none ∧ (slotAt base .jogging .pending).jg.state = .jogging := by decide

/-- Ejects that leave a piece aside and none, and with no load open; a warnings list of 7 and of 8. -/
theorem witness_CompletedCutUpdatesTheLoad_ejects :
    loaded.gt.table = some sheet ∧
      (loaded.setGt { loaded.gt with aside := [piece] }).gt.aside ≠ [] ∧ loaded.gt.aside = [] ∧
      loaded.gt.openLoad = some ⟨1, 72000, 52000, 0, 0, 0, [], 0⟩ ∧
      (let s := base.setGt { base.gt with table := some sheet }
      s.gt.table = some sheet ∧ s.gt.openLoad = none) ∧
      (List.replicate 7 (⟨1, 0, 0⟩ : WarnEntry)).length < 8 ∧
      ¬((List.replicate 8 (⟨1, 0, 0⟩ : WarnEntry)).length < 8) := by
  decide

/-- SKIP and ABORT pending with a run open; a cycle of the run at its hold point and a cycle waiting to be handed; each
reason to hold and none; a hold point in CUTTING and in a wait phase; cycles that may not stay. -/
theorem witness_SkipEndsTheStepAndAbortTheRun_ends :
    (let s := latched (runAt base .held 0 .positioning)
    s.sm.estopLatch = true ∧ s.pr.state = .held ∧ s.runnerMoveInFlight = false ∧ s.runnerCycleInFlight = false) ∧
      (let s := runAt base .running 0 .cutting
      let a := s.setPr { s.pr with abortPending := true }
      let k := s.setPr { s.pr with skipPending := true }
      a.pr.abortPending = true ∧ a.runOpen = true ∧ k.pr.abortPending = false ∧ k.pr.skipPending = true ∧
        s.pr.abortPending = false ∧ s.pr.skipPending = false ∧
        (let x := cutAt s .preclamped (some (early .runner))
        x.cs.state = .preclamped ∧ x.cs.cycle = some (early .runner) ∧ (early .runner).issuer = .runner ∧
          x.pr.state = .running ∧ x.pr.phase = .cutting) ∧
        (s.setPr { s.pr with waits := .cycle }).pr.waits = .cycle ∧ s.pr.waits ≠ .cycle ∧
        (keyed s).keyOn = true ∧ (s.keyOn = false ∧ (halted s).pr.lineHalt = true) ∧
        (s.pr.lineHalt = false ∧ (s.setPr { s.pr with holdReq := true }).pr.holdReq = true) ∧ s.pr.holdReq = false ∧
        (s.setPr { s.pr with figures := some (early .runner) }).pr.figures = some (early .runner)) ∧
      (runAt base .running 1 .infeedWait).pr.phase = .infeedWait ∧ base.runOpen = false ∧
      ((cutAt base .armed (some (early .manual))).cs.cycle = some (early .manual) ∧
        (early .manual).issuer = .manual) ∧
      (base.cs.state ≠ .armed ∧ base.cs.cycle = none) := by decide

/-- Each unit that asks again for its grant, and one that does not. -/
theorem witness_ApproachesAndRetractsChooseTheirMotion_asked :
    ((cutAt base .recover none).cs.state = .recover ∧ base.sm.estopLatch = false ∧
        (latched base).sm.estopLatch = true) ∧
      (liftAt base .raising (some .initial)).pl.state = .raising ∧
      (turnerAt base .releasing none).pt.state = .releasing ∧
      (let s := turnerAt base .gripping (some (turn .runner))
      s.pt.state = .gripping ∧ s.lines.clampUp = true ∧ s.lines.knifeTop = true ∧
        (s.setLines { m0 with clampUp := false }).lines.clampUp = false) ∧
      (base.pt.state ≠ .releasing ∧ base.pt.state ≠ .gripping) := by decide

/-- A move handed that starts and one complete at once, in each phase; a turn handed, refused and resumed; a CUT_NOW. -/
theorem witness_ApproachesAndRetractsChooseTheirMotion_handed :
    (let s := runAt loaded .running 0 .positioning
    let w := s.setPr { s.pr with figures := some (early .runner) }
    w.pr.figures = some (early .runner) ∧ s.gaugeBusy = false ∧ s.bg.referenced = true ∧ s.sm.estopLatch = false ∧
      s.guardOpen = false ∧ s.currentStep = some twice ∧
      (s.retract .runner 124000 matches .moving _) ∧ (s.retract .runner 60000 matches .completed _ _) ∧
      (s.approach .runner false .approach s.contactPosition matches .moving _) ∧
      (let x := s.setBg { s.bg with inPos := true, target := 52000, actual := 52000, dir := .forward }
      (x.approach .runner false .approach x.contactPosition matches .completed _ false)) ∧
      (let x := s.setBg { s.bg with actual := 123999, dir := .backward }
      (x.approach .runner false .approach 124000 matches .completed _ true))) ∧
      (let s := runAt loaded .running 2 .turning
      s.currentStep = some (stepOf .turn) ∧ s.pt.state = .parked ∧ s.pr.lineHalt = false ∧ s.bg.actual = 60000 ∧
        (halted s).pr.lineHalt = true ∧ (latched s).sm.estopLatch = true ∧ (guardOff s).guardOpen = true ∧
        (loose s).bg.referenced = false ∧ (gaugeAt s .dwell none none).gaugeBusy = true ∧
        s.bg.actual < (60003 : Int) - 2 ∧ (60002 : Int) - 2 ≤ s.bg.actual ∧
        (let x := turnerAt s .interrupted (some { turn .runner with interrupted := some .release })
        x.pt.state = .interrupted ∧
          x.pt.record = some { turn .runner with interrupted := some .release }) ∧
        (turnerAt s .fault none).pt.state ≠ .parked) ∧
      base.cs.manual = none ∧
      (let s := cuttingNow base true
      s.cs.manual = some ⟨cycle .manual, true⟩ ∧ s.pr.lineHalt = false ∧ s.keyOn = false ∧ s.cs.state = .ready ∧
        (halted s).pr.lineHalt = true ∧ (keyed s).keyOn = true ∧ (cutAt s .recover none).cs.state ≠ .ready) ∧
      (cuttingNow base false).cs.manual = some ⟨cycle .manual, false⟩ := by decide

/-- A gauge at rest, and a move under way of each issuer, in a run and in none. -/
theorem witness_GaugeFaultsStopTheMove_stops :
    base.gaugeBusy = false ∧
      (∀ who ∈ [MoveIssuer.runner, .manualCut, .manualTurn, .gaugeMove, .gaugeReference],
        let s := gaugeAt base .approaching (some (move who .approach [.to .forward 50000])) none
        s.gaugeBusy = true ∧ s.bg.move = some (move who .approach [.to .forward 50000]) ∧
          (move who .approach [.to .forward 50000]).issuer = who) ∧
      (runAt base .running 0 .positioning).runOpen = true ∧ base.runOpen = false := by decide

/-- A clamp sent back by a soft reset; an emergency stop in each state, the cycle clean, aborted and timed out. -/
theorem witness_ReturnsRecoveriesAndBladeReset_estop :
    (∀ who ∈ [CycleIssuer.runner, .manual],
      let c := (early who).marked .aborted
      let s := cutAt base .abortReturn (some c)
      s.cs.state = .abortReturn ∧ s.cs.cycle = some c ∧ c.leftTop = false ∧ c.mark ≠ .timedOut ∧ c.issuer = who ∧
        s.runOpen = false) ∧
      (let s := latched base
      s.sm.estopLatch = true ∧ s.cs.manual = none ∧ s.runOpen = false ∧
        (cutAt s .clamping (some (early .manual))).cs.cycle = some (early .manual) ∧
        (cutAt s .cutting (some (cycle .runner))).cs.cycle = some (cycle .runner) ∧ (cycle .runner).leftTop = true ∧
        (cutAt s .abortReturn none).cs.state = .abortReturn ∧ (cycle .runner).mark ≠ .timedOut ∧
        ((cycle .runner).marked .timedOut).mark = .timedOut ∧ (cutAt s .returning none).cs.state = .returning ∧
        (cutAt s .recover none).cs.state = .recover ∧ s.cs.state = .ready ∧
        (cuttingNow s true).cs.manual = some ⟨cycle .manual, true⟩) ∧
      (let s := latched (runAt base .running 0 .cutting)
      s.runOpen = true ∧ s.pr.abortPending = false ∧ s.pr.skipPending = false) := by decide

/-- A grant lost in each state of a stroke, its cycle clean and timed out, in a run and in none. -/
theorem witness_PumpStartsStopsAndFaults_station :
    (∀ x ∈ [CutState.clamping, .cutting, .abortReturn, .returning, .recover],
      (cutAt base x (some (cycle .runner))).cs.state = x ∧
        (cutAt base x (some (cycle .runner))).cs.cycle = some (cycle .runner)) ∧
      (cycle .runner).leftTop = true ∧ (cycle .runner).mark ≠ .timedOut ∧
      ((cycle .runner).marked .timedOut).leftTop = true ∧ ((cycle .runner).marked .timedOut).mark = .timedOut ∧
      (cycle .runner).issuer = .runner ∧ (runAt base .running 0 .cutting).runOpen = true ∧ base.runOpen = false := by
  decide

/-- A lift that moves and one at rest, a slot that jogs or waits on the take-off and one at rest. -/
theorem witness_JogsStartRunAndEnd_estop :
    (let s := slotAt (liftAt base .raising (some .takeOff)) .waitHeight .pending
    s.pl.state = .raising ∧ s.pl.raising = some .takeOff ∧ s.jg.state = .waitHeight) ∧
      (let s := slotAt (liftAt base .lowering none) .ready .unknown
      s.pl.state = .lowering ∧ s.jg.state ≠ .jogging ∧ s.jg.state ≠ .waitHeight) ∧
      (let s := slotAt base .jogging .pending
      s.pl.state ≠ .raising ∧ s.pl.state ≠ .lowering ∧ s.jg.state = .jogging) ∧
      base.jg.state ≠ .jogging ∧ base.jg.state ≠ .waitHeight := by decide

/-- Grants with the arms closed and in a cut RELEASE; a parking from FAULT; a TURN_NOW at each stage, its checks at
their limits, its contact starting and complete at once. -/
theorem witness_TurnsGripRotateReleaseAndPark_ends :
    (let s := turnerAt base .gripping (some (turn .runner))
    s.pt.state = .gripping ∧ (s.sample { m0 with gripClosed := true }).lines.gripClosed = true ∧
      s.pt.record = some (turn .runner)) ∧
      (let r : TurnRec := { turn .nobody with interrupted := some .release }
      (turnerAt base .interrupted (some r)).pt.state = .interrupted ∧
        (turnerAt base .interrupted (some r)).pt.record = some r) ∧
      (let s := base.setPt { base.pt with state := .releasing, parkFromFault := true }
      s.pt.parkFromFault = true ∧ s.pt.state = .releasing) ∧
      base.pt.manual = none ∧
      (let s := turnNowAt loaded .retract
      s.pt.manual = some ⟨2, 60000, true, 1, .retract, false⟩ ∧ s.pr.lineHalt = false ∧ s.sm.estopLatch = false ∧
        s.guardOpen = false ∧ s.bg.referenced = true ∧ s.gaugeBusy = false ∧ (60000 : Int) - 2 ≤ s.bg.actual ∧
        s.bg.actual < (60003 : Int) - 2 ∧ s.pt.state = .parked ∧ (turnerAt s .fault none).pt.state ≠ .parked ∧
        (halted s).pr.lineHalt = true ∧ (latched s).sm.estopLatch = true ∧ (guardOff s).guardOpen = true ∧
        (loose s).bg.referenced = false ∧ (gaugeAt s .dwell none none).gaugeBusy = true) ∧
      (turnNowAt loaded .contact).pt.manual = some ⟨2, 60000, true, 1, .contact, false⟩ ∧
      (let s := turnNowAt loaded .turn
      s.pt.manual = some ⟨2, 60000, true, 1, .turn, false⟩ ∧
        (s.approach .manualTurn false .approach s.contactPosition matches .moving _) ∧
        (let x := s.setBg { s.bg with inPos := true, target := 52000, actual := 52000, dir := .forward }
        (x.approach .manualTurn false .approach x.contactPosition matches .completed _ _))) ∧
      (turnNowAt base .turn).gt.table = none := by decide
end Sys2Proof.Tests
end

section
/-! SUPPORT. What the fields of a body on the link read back: numbers least significant byte first, and flag bytes bit
by bit (00_scope, Numbers on the host link; Table 13). -/

namespace Sys2Proof.Machine

/-! ### Numbers -/

theorem byteOf_toNat (v : Nat) : (byteOf v).toNat = v % 256 := BitVec.toNat_ofNat v 8

/-- `n` bytes of a number read back as the number modulo their range. -/
theorem leNat_leBytes (n v : Nat) : leNat (leBytes n v) = v % 256 ^ n := by
  induction n generalizing v with
  | zero => simp [leBytes, leNat, Nat.mod_one]
  | succ n ih =>
    rw [leBytes, leNat, ih, Nat.pow_succ', Nat.mod_mul, ← byteOf_toNat v, byteOf]

/-- `n` bytes of a signed number read back as the number modulo their range. -/
theorem leNat_leInt (n : Nat) (v : Int) : (leNat (leInt n v) : Int) = v % 256 ^ n := by
  have range : (0 : Int) < 256 ^ n := by positivity
  have low := Int.emod_nonneg v range.ne'
  rw [leInt, leNat_leBytes, Int.natCast_emod, Int.toNat_of_nonneg low, Nat.cast_pow]
  exact Int.emod_emod_of_dvd v dvd_rfl

/-- Two bytes, low byte first, are the 16-bit word of the high byte over the low one. -/
theorem leNat_pair (lo hi : Byte) : leNat [lo, hi] = (hi ++ lo : BitVec 16).toNat := by
  have := hi.isLt
  have := lo.isLt
  rw [BitVec.toNat_append, ← Nat.shiftLeft_add_eq_or_of_lt lo.isLt]
  simp [leNat]
  omega

/-- A 16-bit word goes over the link low byte first. -/
theorem leBytes_pair (lo hi : Byte) : leBytes 2 (leNat [lo, hi]) = [lo, hi] := by
  have := lo.isLt
  have := hi.isLt
  simp only [leBytes, leNat, List.cons.injEq, and_true]
  constructor <;> bv_omega

/-! ### Flag bytes -/

/-- The number a list of flags makes, first flag in bit 0. -/
def flagNumber (bits : List Bool) : Nat := bits.foldr (fun b acc => (if b then 1 else 0) + 2 * acc) 0

theorem flagNumber_cons (b : Bool) (bits : List Bool) :
    flagNumber (b :: bits) = (if b then 1 else 0) + 2 * flagNumber bits := rfl

theorem flagNumber_lt (bits : List Bool) : flagNumber bits < 2 ^ bits.length := by
  induction bits with
  | nil => exact Nat.one_pos
  | cons b bits ih =>
    rw [flagNumber_cons, List.length_cons, Nat.pow_succ]
    split <;> omega

/-- At most eight flags fit their byte. -/
theorem flagByte_toNat {bits : List Bool} (h : bits.length ≤ 8) : (flagByte bits).toNat = flagNumber bits := by
  have := flagNumber_lt bits
  have := Nat.pow_le_pow_right (n := 2) (by omega) h
  exact (BitVec.toNat_ofNat (flagNumber bits) 8).trans (Nat.mod_eq_of_lt (by omega))

theorem flagNumber_testBit (bits : List Bool) (i : Nat) : (flagNumber bits).testBit i = bits.getD i false := by
  induction bits generalizing i with
  | nil => simp [flagNumber]
  | cons b bits ih =>
    rw [flagNumber_cons]
    cases i with
    | zero => cases b <;> simp [Nat.testBit_zero]
    | succ i =>
      have half : ((if b then 1 else 0) + 2 * flagNumber bits) / 2 = flagNumber bits := by split <;> omega
      rw [Nat.testBit_succ, half, ih]
      rfl

/-- A flag is its bit of the flag byte. -/
theorem flagByte_testBit {bits : List Bool} (h : bits.length ≤ 8) (i : Nat) :
    (flagByte bits).toNat.testBit i = bits.getD i false := by
  rw [flagByte_toNat h, flagNumber_testBit]

theorem flagNumber_ne_zero (bits : List Bool) : flagNumber bits ≠ 0 ↔ bits.any id = true := by
  induction bits with
  | nil => simp [flagNumber]
  | cons b bits ih =>
    rw [flagNumber_cons, List.any_cons]
    cases b with
    | true => simp
    | false => simpa using ih

/-- A flag byte is zero when no flag is set. -/
theorem flagByte_ne_zero {bits : List Bool} (h : bits.length ≤ 8) :
    (flagByte bits).toNat ≠ 0 ↔ bits.any id = true := by
  rw [flagByte_toNat h, flagNumber_ne_zero]

end Sys2Proof.Machine
end

section
/-! SUPPORT. The receiver (R2, R3), the taking of frames (R4) and what deciding and settling keep of the link. -/

namespace Sys2Proof.Machine

/-! ### Receiving a byte (R2, R3) -/

@[simp] theorem State.sample_setLi (s : State) (x : Link) (m : Lines) : (s.setLi x).sample m = (s.sample m).setLi x :=
  rfl

/-- A byte that ends no good frame changes only the receiver. -/
theorem exec_receiveByte_none {s : State} {m : Lines} {b : Byte} {gap : Nat} {bad : Bool} {r : Receiver}
    (h : receive s.li.receiver b gap bad = (r, none)) :
    exec (.receiveByte m b gap bad) s = .next ((s.sample m).setLi { s.li with receiver := r }) := by
  change Host.Outcome.next ((s.sample m).byteArrives b gap bad) = _
  unfold State.byteArrives
  rw [State.sample_li, h]

theorem receive_hunting (b : Byte) (gap : Nat) (bad : Bool) : receive .hunting b gap bad = (hunt b bad, none) := rfl

/-- After a gap over 20 ms the byte is taken as if the receiver hunted. -/
theorem receive_late {got : List Byte} {b : Byte} {gap : Nat} {bad : Bool} (h : 20 < gap) :
    receive (.assembling got) b gap bad = (hunt b bad, none) := if_pos h

theorem receive_framingError {got : List Byte} {b : Byte} {gap : Nat} (h : gap ≤ 20) :
    receive (.assembling got) b gap true = (.hunting, none) := by
  unfold receive
  simp only [Config.gapMs]
  rw [if_neg (Nat.not_lt.mpr h), if_pos trivial]

theorem receive_inTime {got : List Byte} {b : Byte} {gap : Nat} (h : gap ≤ 20) :
    receive (.assembling got) b gap false = assemble (got ++ [b]) := by
  unfold receive
  simp only [Config.gapMs]
  rw [if_neg (Nat.not_lt.mpr h), if_neg (by decide)]

/-- A length over 240 ends the frame. -/
theorem assemble_tooLong {kind tag len : Byte} {rest : List Byte} (h : 240 < len.toNat) :
    assemble (kind :: tag :: len :: rest) = (.hunting, none) := if_pos h

/-- A whole frame is good when its check matches, and is dropped when it does not. -/
theorem assemble_whole {kind tag len lo hi : Byte} {body : List Byte} (hlen : len.toNat ≤ 240)
    (hbody : body.length = len.toNat) :
    assemble (kind :: tag :: len :: (body ++ [lo, hi])) =
      (.hunting, if hi ++ lo = crc (kind :: tag :: len :: body) then some ⟨kind, tag, body⟩ else none) := by
  have taken : (body ++ [lo, hi]).take len.toNat = body := List.take_left' hbody
  have left : (body ++ [lo, hi]).drop len.toNat = [lo, hi] := List.drop_left' hbody
  have whole : (body ++ [lo, hi]).length = len.toNat + 2 := by simp [hbody]
  unfold assemble
  simp only [Config.maxBody]
  rw [if_neg (Nat.not_lt.mpr hlen), if_pos whole]
  simp only [taken, left, leNat_pair, BitVec.toNat_inj, eq_comm (a := crc _)]
  split <;> rfl

/-! ### Taking a frame (R4) -/

/-- A request row behind waiting frames. -/
theorem exec_queued {c : Instr} {f : Frame} {s : State} (hf : c.frame = some f) (hq : s.li.queue ≠ [])
    (room : s.li.queue.length < 4) :
    exec c s = .next (((s.sample c.lines).setLi (s.li.enqueue f)).kick) := by
  rw [exec_frame s hf]
  unfold State.acceptFrame
  rw [State.sample_li, if_pos room, if_neg hq]

/-- A request row with the queue full. -/
theorem exec_dropped {c : Instr} {f : Frame} {s : State} (hf : c.frame = some f) (full : 4 ≤ s.li.queue.length) :
    exec c s = .next (((s.sample c.lines).setLi (s.li.dropBusy f)).kick) := by
  rw [exec_frame s hf]
  unfold State.acceptFrame
  rw [State.sample_li, if_neg (Nat.not_lt.mpr full)]

theorem Link.dropBusy_room {l : Link} (f : Frame) (h : l.busy.length < 4) :
    l.dropBusy f = { l with busy := l.busy ++ [⟨f.kind + 0x80, f.tag, [0x0D]⟩] } := if_pos h

theorem Link.dropBusy_full {l : Link} (f : Frame) (h : 4 ≤ l.busy.length) : l.dropBusy f = l :=
  if_neg (Nat.not_lt.mpr h)

/-- A free line's start changes only the line. -/
theorem Link.kick_eq (l : Link) : ∃ x, l.kick = { l with line := x } := by
  unfold Link.kick
  split
  · exact ⟨l.line, rfl⟩
  · exact ⟨_, rfl⟩

theorem State.kick_eq (s : State) : ∃ x, s.kick = s.setLi { s.li with line := x } := by
  obtain ⟨x, e⟩ := s.li.kick_eq
  exact ⟨x, congrArg s.setLi e⟩

@[simp] theorem State.kick_queue (s : State) : s.kick.li.queue = s.li.queue := by
  obtain ⟨x, e⟩ := s.kick_eq
  rw [e]
  rfl

@[simp] theorem State.kick_busy (s : State) : s.kick.li.busy = s.li.busy := by
  obtain ⟨x, e⟩ := s.kick_eq
  rw [e]
  rfl

@[simp] theorem State.kick_mask (s : State) : s.kick.li.mask = s.li.mask := by
  obtain ⟨x, e⟩ := s.kick_eq
  rw [e]
  rfl

/-! ### What a decision keeps of the link (R5, R9) -/

/-- What deciding a request leaves alone in the link, and the laws of R9 and R11 it keeps. -/
structure LinkKept (l m : Link) : Prop where
  receiver : m.receiver = l.receiver
  queue : m.queue = l.queue
  busy : m.busy = l.busy
  line : m.line = l.line
  notices : ∃ more, m.notices = l.notices ++ more
  room : l.notices.length ≤ Config.noticePlaces → m.notices.length ≤ Config.noticePlaces
  lost : l.lost ≤ 65535 → m.lost ≤ 65535
  mask : l.mask.toNat < 2 ^ 9 → m.mask.toNat < 2 ^ 9

theorem LinkKept.refl (l : Link) : LinkKept l l := ⟨rfl, rfl, rfl, rfl, ⟨[], by simp⟩, id, id, id⟩

theorem LinkKept.of_eq {l m : Link} (h : m = l) : LinkKept l m := h ▸ LinkKept.refl l

theorem Kept.link {L : Prop} {s t : State} (h : Kept L s t) : LinkKept s.li t.li :=
  ⟨h.receiver, h.queue, h.busy, h.line, h.notices, h.room, h.lost, fun k => by rwa [h.mask]⟩

section
variable (body : List Byte) (s : State)

/-! The requests of the store and the settings leave the link as it is. -/

theorem decideStoreOpen_li : (decideStoreOpen body s).1.li = s.li := by
  unfold decideStoreOpen
  dsimp only
  split
  · rfl
  · split
    · rfl
    · split <;> rfl

theorem decideStep_li : (decideStep body s).1.li = s.li := by
  unfold decideStep
  split
  · rfl
  · split
    · rfl
    · split
      · rfl
      · split <;> rfl

theorem decideReplaceStep_li : (decideReplaceStep body s).1.li = s.li := by
  unfold decideReplaceStep
  dsimp only
  split
  · split
    · rfl
    · split
      · rfl
      · split
        · rfl
        · split <;> rfl
  · rfl

theorem decideDeleteProgram_li : (decideDeleteProgram body s).1.li = s.li := by
  unfold decideDeleteProgram
  dsimp only
  split
  · rfl
  · split
    · rfl
    · split <;> rfl

theorem decideReadProgram_li : (decideReadProgram body s).1.li = s.li := by
  unfold decideReadProgram
  dsimp only
  split
  · rfl
  · split
    · rfl
    · split <;> rfl

theorem decideListPrograms_li : (decideListPrograms body s).1.li = s.li := by
  unfold decideListPrograms
  dsimp only
  split <;> rfl

theorem decideSettingRead_li : (decideSettingRead body s).1.li = s.li := by
  unfold decideSettingRead
  dsimp only
  split
  · rfl
  · split <;> rfl

theorem decideSettingWrite_li : (decideSettingWrite body s).1.li = s.li := by
  unfold decideSettingWrite writePriorities
  dsimp only
  split
  · split <;> rfl
  · split <;> rfl

end

theorem State.closeFor_li (s : State) (r : Request) : (s.closeFor r).li = s.li := by
  unfold State.closeFor
  split <;> rfl

/-- NOTICE_SELECT stores no bit past the nine kinds (R11). -/
theorem linkKept_decideNoticeSelect (body : List Byte) (s : State) :
    LinkKept s.li (decideNoticeSelect body s).1.li := by
  unfold decideNoticeSelect
  dsimp only
  split
  · rename_i h
    refine ⟨rfl, rfl, rfl, rfl, ⟨[], by simp [take]⟩, id, id, fun _ => ?_⟩
    exact lt_of_le_of_lt (Nat.mod_le _ _) h
  · exact LinkKept.refl s.li

/-- Every owner's decision keeps what `LinkKept` says. -/
theorem linkKept_decideOwner (r : Request) (body : List Byte) (s : State) :
    LinkKept s.li (decideOwner r body s).1.li := by
  have same := Kept.refl False s
  cases r with
  | storeOpen => exact .of_eq (decideStoreOpen_li body s)
  | step => exact .of_eq (decideStep_li body s)
  | replaceStep => exact .of_eq (decideReplaceStep_li body s)
  | deleteProgram => exact .of_eq (decideDeleteProgram_li body s)
  | readProgram => exact .of_eq (decideReadProgram_li body s)
  | listPrograms => exact .of_eq (decideListPrograms_li body s)
  | select => exact (kept_decideSelect body same).link
  | run => exact (kept_decideRun body same).link
  | hold => exact (kept_decideHold same).link
  | skip => exact (kept_decideSkip same).link
  | abort => exact (kept_decideAbort same).link
  | locate => exact (kept_decideLocate body same).link
  | clearFault => exact (kept_decideClearFault same).link
  | lineHalt => exact (kept_decideLineHalt body same).link
  | confirm => exact (kept_decideConfirm same).link
  | gaugeMove => exact (kept_decideGaugeMove body same).link
  | gaugeReference => exact (kept_decideGaugeReference same).link
  | cutNow => exact (kept_decideCutNow body same).link
  | turnNow => exact (kept_decideTurnNow body same).link
  | turnerPark => exact (kept_decideTurnerPark same).link
  | newPile => exact (kept_decideNewPile body same).link
  | liftLower => exact (kept_decideLiftLower same).link
  | jogStart => exact (kept_decideJog body same).link
  | pumpOn => exact (kept_decidePumpOn same).link
  | pumpOff => exact (kept_decidePumpOff same).link
  | trackQuery => exact (kept_decideTrackQuery body same).link
  | trackDeclare => exact (kept_decideTrackDeclare body same).link
  | trackClear => exact (kept_decideTrackClear same).link
  | settingRead => exact .of_eq (decideSettingRead_li body s)
  | settingWrite => exact .of_eq (decideSettingWrite_li body s)
  | estopAck =>
    obtain ⟨_, kept⟩ := kept_decideEstopAck same
    exact kept.link
  | bladeReset => exact (kept_decideBladeReset same).link
  | noticeSelect => exact linkKept_decideNoticeSelect body s
  | ident => exact LinkKept.refl s.li
  | status =>
    exact ⟨rfl, rfl, rfl, rfl, ⟨[], by simp [decideOwner, decideStatus, take]⟩, id, fun _ => Nat.zero_le _, id⟩
  | reset => exact LinkKept.refl s.li

/-- So does the decision of any frame. -/
theorem linkKept_decideFrame (f : Frame) (s : State) : LinkKept s.li (decideFrame f s).1.li := by
  unfold decideFrame
  split
  · exact LinkKept.refl s.li
  · rename_i r _
    split
    · have kept := linkKept_decideOwner r f.body (s.closeFor r)
      rwa [State.closeFor_li] at kept
    · exact .of_eq (s.closeFor_li r)

theorem linkKept_settle (s : State) : LinkKept s.li s.settle.li := (kept_settle (Kept.refl False s)).link

/-! ### Power-on and the soft reset -/

/-- Power-on adds no more than notices to the blocks' power-on values. -/
theorem kept_powerOn (s : State) (m : Lines) (pedal : Bool) (x : AllReadings) :
    ∃ t : State, s.powerOn m pedal x = t.kick ∧ Kept False (s.powerOnBlocks m pedal x) t := by
  have notice := kept_safetyNotice .powerOn (Kept.refl False (s.powerOnBlocks m pedal x))
  refine ⟨_, rfl, kept_settle ?_⟩
  split
  · exact notice
  · exact kept_reportFault _ _ notice

theorem kept_runnerReset {s0 s : State} (h : Kept False s0 s) : Kept False s0 s.runnerReset :=
  kept_setGt (kept_setPr_none h rfl rfl)

theorem kept_supplyReset {L : Prop} {s0 s : State} (h : Kept L s0 s) : Kept L s0 s.supplyReset :=
  kept_setHs h Supply.noRequests_ok

/-- A soft reset empties the link; the blocks' responses then add no more than notices. -/
theorem kept_softReset (s : State) : ∃ t, s.softReset = t.kick ∧ Kept False (s.setLi Link.softReset) t :=
  ⟨_, rfl, kept_settle (kept_ptReset (kept_jogReset (kept_supplyReset (kept_csReset (kept_gaugeReset
    (kept_runnerReset (Kept.refl False _)))))))⟩

end Sys2Proof.Machine
end

section
/-! SUPPORT. What the fields of a status record read back (R15, Table 13). -/

namespace Sys2Proof.Machine

/-! Every code of the status record fits its byte. -/

theorem RunState.code_lt (x : RunState) : x.code < 256 := by cases x <;> decide
theorem HoldReason.code_lt (x : HoldReason) : x.code < 256 := by cases x <;> decide
theorem RunMode.code_lt (x : RunMode) : x.code < 256 := by cases x <;> decide
theorem GaugeState.code_lt (x : GaugeState) : x.code < 256 := by cases x <;> decide
theorem CutState.code_lt (x : CutState) : x.code < 256 := by cases x <;> decide
theorem PumpState.code_lt (x : PumpState) : x.code < 256 := by cases x <;> decide
theorem LiftState.code_lt (x : LiftState) : x.code < 256 := by cases x <;> decide
theorem SlotState.code_lt (x : SlotState) : x.code < 256 := by cases x <;> decide
theorem TurnerState.code_lt (x : TurnerState) : x.code < 256 := by cases x <;> decide
theorem holderCode_lt (x : Option Consumer) : holderCode x < 256 := by
  cases x with
  | none => decide
  | some c => cases c <;> decide

theorem fieldAt_byte {r : List Byte} {off : Nat} {b : Byte} (h : (r.drop off).take 1 = [b]) :
    fieldAt r off 1 = b.toNat := by
  unfold fieldAt
  rw [h]
  simp [leNat]

/-- A one-byte field of a number below 256 reads back as it. -/
theorem fieldAt_code {r : List Byte} {off v : Nat} (h : (r.drop off).take 1 = [byteOf v]) (small : v < 256) :
    fieldAt r off 1 = v := by
  rw [fieldAt_byte h, byteOf_toNat, Nat.mod_eq_of_lt small]

/-- A one-byte field of any number reads back modulo 256. -/
theorem fieldAt_byteOf {r : List Byte} {off v : Nat} (h : (r.drop off).take 1 = [byteOf v]) :
    fieldAt r off 1 = v % 256 := by
  rw [fieldAt_byte h, byteOf_toNat]

/-- A field of `n` bytes reads back modulo its range. -/
theorem fieldAt_leBytes {r : List Byte} {off n v : Nat} (h : (r.drop off).take n = leBytes n v) :
    fieldAt r off n = v % 256 ^ n := by
  unfold fieldAt
  rw [h, leNat_leBytes]

theorem fieldAt_leInt {r : List Byte} {off n : Nat} {v : Int} (h : (r.drop off).take n = leInt n v) :
    (fieldAt r off n : Int) = v % 256 ^ n := by
  unfold fieldAt
  rw [h, leNat_leInt]

/-- A flag of a one-byte field. -/
theorem fieldAt_flag {r : List Byte} {off : Nat} {bits : List Bool} (h : (r.drop off).take 1 = [flagByte bits])
    (fits : bits.length ≤ 8) (i : Nat) : (fieldAt r off 1).testBit i = bits.getD i false := by
  rw [fieldAt_byte h, flagByte_testBit fits]

/-- The Runner in the status record (Table 13, offsets 0 to 10 but for the flags of offset 6). -/
theorem State.status_runner (s : State) :
    let r := s.statusRecord
    fieldAt r 0 1 = s.pr.state.code ∧ fieldAt r 1 1 = (if s.pr.state = .held then s.pr.hold.code else 0) ∧
      fieldAt r 2 1 = s.pr.program % 256 ∧ fieldAt r 3 1 = s.pr.step % 256 ∧ fieldAt r 4 1 = s.pr.iter % 256 ∧
      fieldAt r 5 1 = s.pr.mode.code ∧ fieldAt r 7 2 = s.pr.done % 65536 ∧ fieldAt r 9 2 = s.pr.limit % 65536 := by
  have hold : (if s.pr.state = .held then s.pr.hold.code else 0) < 256 := by
    split
    · exact s.pr.hold.code_lt
    · decide
  exact ⟨fieldAt_code rfl s.pr.state.code_lt, fieldAt_code rfl hold, fieldAt_byteOf rfl, fieldAt_byteOf rfl,
    fieldAt_byteOf rfl, fieldAt_code rfl s.pr.mode.code_lt, fieldAt_leBytes rfl, fieldAt_leBytes rfl⟩

/-- The line and load flags in the status record (Table 13, offset 6). -/
theorem State.status_lineLoad (s : State) (i : Nat) :
    (fieldAt s.statusRecord 6 1).testBit i =
      [s.pr.lineHalt, s.pr.fault.isSome, s.pr.second, s.ps.window.isSome, s.gt.openLoad.isSome, s.cs.warn,
        s.bg.referenced, s.bg.inPos].getD i false := fieldAt_flag rfl (by simp) i

/-- The gauge in the status record (Table 13, offsets 11 to 20). -/
theorem State.status_gauge (s : State) :
    let r := s.statusRecord
    fieldAt r 11 1 = s.bg.state.code ∧ (fieldAt r 12 4 : Int) = s.bg.actual % 2 ^ 32 ∧
      (fieldAt r 16 4 : Int) = s.bg.target % 2 ^ 32 ∧
      (fieldAt r 20 1).testBit 0 = decide (s.bg.dir = .backward) ∧ (fieldAt r 20 1).testBit 1 = s.bg.slot.isSome :=
  ⟨fieldAt_code rfl s.bg.state.code_lt, fieldAt_leInt (n := 4) rfl, fieldAt_leInt (n := 4) rfl,
    fieldAt_flag (bits := [_, _]) rfl (by simp) 0, fieldAt_flag (bits := [_, _]) rfl (by simp) 1⟩

/-- The cut station in the status record (Table 13, offsets 21 to 25). -/
theorem State.status_cutStation (s : State) :
    fieldAt s.statusRecord 21 1 = s.cs.state.code ∧ fieldAt s.statusRecord 22 4 = s.cs.counter % 2 ^ 32 :=
  ⟨fieldAt_code rfl s.cs.state.code_lt, fieldAt_leBytes (n := 4) rfl⟩

/-- The supply in the status record (Table 13, offsets 26 to 28). -/
theorem State.status_supply (s : State) :
    let r := s.statusRecord
    fieldAt r 26 1 = s.hs.pump.code ∧ (fieldAt r 27 1).testBit 0 = s.hs.enable ∧
      (fieldAt r 27 1).testBit 1 = s.hs.reqCut ∧ (fieldAt r 27 1).testBit 2 = s.hs.reqLift ∧
      (fieldAt r 27 1).testBit 3 = s.hs.reqTurn ∧ fieldAt r 28 1 = holderCode s.hs.holder := by
  have flags := fieldAt_flag (r := s.statusRecord) (off := 27)
    (bits := [s.hs.enable, s.hs.reqCut, s.hs.reqLift, s.hs.reqTurn]) rfl (by simp)
  exact ⟨fieldAt_code rfl s.hs.pump.code_lt, flags 0, flags 1, flags 2, flags 3,
    fieldAt_code rfl (holderCode_lt s.hs.holder)⟩

/-- The lift and the jogger in the status record (Table 13, offsets 29 to 36). -/
theorem State.status_infeed (s : State) :
    let r := s.statusRecord
    fieldAt r 29 1 = s.pl.state.code ∧ fieldAt r 30 2 = s.pl.platform % 65536 ∧
      fieldAt r 32 2 = ((s.pl.pile.map Pile.hc).getD 0) % 65536 ∧ fieldAt r 34 1 = s.jg.state.code ∧
      fieldAt r 35 2 = s.jg.heightOnLink % 65536 := by
  have height : s.pl.shownPile.hc = (s.pl.pile.map Pile.hc).getD 0 := by
    unfold Lift.shownPile
    cases s.pl.pile <;> rfl
  exact ⟨fieldAt_code rfl s.pl.state.code_lt, fieldAt_leBytes rfl, height ▸ fieldAt_leBytes rfl,
    fieldAt_code rfl s.jg.state.code_lt, fieldAt_leBytes rfl⟩

/-- The turner in the status record (Table 13, offsets 37 to 39). -/
theorem State.status_turner (s : State) :
    let r := s.statusRecord
    fieldAt r 37 1 = s.pt.state.code ∧ fieldAt r 38 1 = ((s.pt.record.map TurnRec.commanded).getD 0) % 256 ∧
      fieldAt r 39 1 = ((s.pt.record.map TurnRec.completed).getD 0) % 256 :=
  ⟨fieldAt_code rfl s.pt.state.code_lt, fieldAt_byteOf rfl, fieldAt_byteOf rfl⟩

/-- The discrepancy latches by their codes (Table 59). -/
def Monitor.latchBits (m : Monitor) : List Bool :=
  [m.twoHandLeft.latch, m.twoHandRight.latch, m.lightCurtain.latch, m.emergencyStop.latch, m.rearGuard.latch,
    m.bladeKey.latch]

/-- The last safety flag says that some discrepancy latch is set. -/
theorem Monitor.flags_eq (m : Monitor) :
    m.flags = flagByte
      [m.estopLatch, m.permission, !m.lightCurtain.atUnsafe, !m.rearGuard.atUnsafe, m.bladeKey.atUnsafe,
        m.latchBits.any id] := by
  simp [Monitor.flags, Monitor.latchBits, Bool.or_assoc]

/-- The discrepancy latches in the status record (Table 13, offset 41). -/
theorem State.status_latches (s : State) (i : Nat) :
    (fieldAt s.statusRecord 41 1).testBit i = s.sm.latchBits.getD i false :=
  fieldAt_flag rfl (by simp [Monitor.latchBits]) i

/-- The safety flags in the status record (Table 13, offset 40). -/
theorem State.status_safety (s : State) (i : Nat) :
    (fieldAt s.statusRecord 40 1).testBit i =
      [s.sm.estopLatch, s.sm.permission, !s.sm.lightCurtain.atUnsafe, !s.guardOpen, s.keyOn,
        s.sm.latchBits.any id].getD i false := by
  have flags : (s.statusRecord.drop 40).take 1 = [s.sm.flags] := rfl
  rw [Monitor.flags_eq] at flags
  exact fieldAt_flag flags (by simp) i

/-- The last safety flag is set when a discrepancy latch is shown (Table 13, offsets 40 and 41). -/
theorem State.status_latchSet (s : State) :
    (fieldAt s.statusRecord 40 1).testBit 5 = decide (fieldAt s.statusRecord 41 1 ≠ 0) := by
  rw [s.status_safety, fieldAt_byte (b := flagByte s.sm.latchBits) rfl, Bool.eq_iff_iff, decide_eq_true_iff]
  exact (flagByte_ne_zero (by simp [Monitor.latchBits])).symm

/-- The load and the link in the status record (Table 13, offsets 42 to 50). -/
theorem State.status_link (s : State) :
    let r := s.statusRecord
    fieldAt r 42 2 = s.loadId % 65536 ∧ fieldAt r 44 1 = s.gt.aside.length % 256 ∧
      fieldAt r 45 2 = s.li.mask.toNat ∧ fieldAt r 47 1 = s.li.queue.length % 256 ∧
      fieldAt r 48 2 = s.li.lost % 65536 ∧ fieldAt r 50 1 = s.li.notices.length % 256 := by
  have mask : fieldAt s.statusRecord 45 2 = s.li.mask.toNat :=
    (fieldAt_leBytes rfl).trans (Nat.mod_eq_of_lt s.li.mask.isLt)
  exact ⟨fieldAt_leBytes rfl, fieldAt_byteOf rfl, mask, fieldAt_byteOf rfl, fieldAt_leBytes rfl, fieldAt_byteOf rfl⟩

end Sys2Proof.Machine
end

section
/-! PROOFS. The link and its messages: discarded frames, the receive queue, unknown kinds, window and length, the notice
mask, IDENT and STATUS. -/

namespace Sys2Proof.Machine

/-! ### O5: discarded frames (R3) -/

/-- Settles O5: R3's rows are the branches of the receiver. -/
theorem damagedFramesAreDiscarded : Obligations.DamagedFramesAreDiscarded := by
  intro s m b gap bad
  refine ⟨fun hunting gap' => ?_, fun got collected => ⟨fun late => ?_, fun inTime isBad => ?_,
    fun inTime good kind tag len bytes tooLong => ?_,
    fun inTime good kind tag len body lo hi bytes fits whole mismatch => ?_⟩⟩
  · rw [exec_receiveByte_none (hunting ▸ receive_hunting b gap bad),
      exec_receiveByte_none (hunting ▸ receive_hunting b gap' bad)]
  · rw [exec_receiveByte_none (collected ▸ receive_late late),
      exec_receiveByte_none (s := s.setLi { s.li with receiver := .hunting }) (receive_hunting b gap bad)]
    rfl
  · exact exec_receiveByte_none (by rw [collected, isBad, receive_framingError inTime])
  · exact exec_receiveByte_none (by rw [collected, good, receive_inTime inTime, bytes, assemble_tooLong tooLong])
  · exact exec_receiveByte_none (by
      rw [collected, good, receive_inTime inTime, bytes, assemble_whole fits whole, if_neg mismatch])

/-! ### O6: the receive queue (R4) -/

/-- A frame decided at once is the whole queue, with its reply. -/
theorem decided_queue (f : Frame) (s : State) (h : s.li.queue = [⟨f, none⟩]) :
    ((decideFrame f s).1.replied f (decideFrame f s).2).settle.li.queue =
      [⟨f, some (replyFrame f (decideFrame f s).2)⟩] := by
  rw [(linkKept_settle _).queue]
  unfold State.replied Link.setReply
  rw [(linkKept_decideFrame f s).queue, h]
  rfl

theorem State.hearing_queue {c : Instr} {f : Frame} (s : State) (hf : c.frame = some f) :
    (s.hearing c).li.queue = [⟨f, none⟩] := by
  unfold State.hearing
  rw [hf]
  rfl

/-- Settles O6: the three branches of `acceptFrame`, and the blocks' power-on values. -/
theorem receiveQueueTakesOrDrops : Obligations.ReceiveQueueTakesOrDrops := by
  refine ⟨fun c f s hf => ⟨fun empty => ?_, fun waiting room => exec_queued hf waiting room,
    fun full busyRoom => ?_, fun full busyFull => ?_⟩, fun m pedal x s => ?_⟩
  · refine ⟨_, replyFrame f (decideFrame f (s.hearing c)).2, exec_request hf empty, ?_, rfl, rfl⟩
    rw [State.kick_queue, decided_queue f _ (s.hearing_queue hf)]
  · rw [exec_dropped hf full, Link.dropBusy_room f busyRoom]
  · rw [exec_dropped hf full, Link.dropBusy_full f busyFull]
    rfl
  · obtain ⟨t, e, kept⟩ := kept_powerOn s m pedal x
    refine ⟨t.kick, congrArg Host.Outcome.next e, ?_, ?_⟩
    · rw [State.kick_queue, kept.queue]
      rfl
    · rw [State.kick_busy, kept.busy]
      rfl

/-! ### O8: unknown kinds (R6) -/

theorem decideFrame_unknown {kind : Byte} (h : Request.ofKind kind = none) (tag : Byte) (body : List Byte)
    (s : State) : decideFrame ⟨kind, tag, body⟩ s = (s, [0x0E, kind]) := by
  unfold decideFrame
  simp only [h]
  rfl

theorem Request.kind_lt (r : Request) : r.kind.toNat < 0x40 := by cases r <;> decide

theorem Request.ofKind_none_of_le {kind : Byte} (h : 0x40 ≤ kind.toNat) : Request.ofKind kind = none := by
  refine List.find?_eq_none.mpr fun r _ e => ?_
  have := r.kind_lt
  rw [of_decide_eq_true e] at this
  omega

theorem requestKinds_count :
    ((List.range 256).countP fun n => (Request.ofKind (BitVec.ofNat 8 n)).isSome) = 36 := by decide +kernel

/-- Settles O8: such a frame has one branch of `decideFrame` to itself. -/
theorem unknownKindsAreRefused : Obligations.UnknownKindsAreRefused :=
  ⟨fun _ tag body h => ⟨decideFrame_unknown h tag body, fun _ _ empty =>
      decides_of rfl empty (decideFrame_unknown h tag body _)⟩,
    fun _ => Request.ofKind_none_of_le, requestKinds_count⟩

/-! ### O9: window, then length, then owner (R12, R13) -/

theorem State.closeFor_closed {r : Request} (h : r.keepsWindow = false) (s : State) :
    s.closeFor r = s.setPs { s.ps with window := none } := by
  unfold State.closeFor
  rw [h]
  rfl

theorem State.closeFor_kept {r : Request} (h : r.keepsWindow = true) (s : State) : s.closeFor r = s := if_pos h

theorem State.closeFor_twice (s : State) (r : Request) : (s.closeFor r).closeFor r = s.closeFor r := by
  unfold State.closeFor
  split <;> rfl

/-- A request's decision looks at the state only with the window closed for it. -/
theorem decideFrame_closeFor (r : Request) (tag : Byte) (body : List Byte) (s : State) :
    decideFrame ⟨r.kind, tag, body⟩ s = decideFrame ⟨r.kind, tag, body⟩ (s.closeFor r) := by
  by_cases h : body.length = r.bodyLength
  · rw [decideFrame_owner r tag body s h, decideFrame_owner r tag body _ h, State.closeFor_twice]
  · rw [decideFrame_length r tag body s h, decideFrame_length r tag body _ h, State.closeFor_twice]

/-- A request row of the wrong length is refused BAD_FIELDS once the window is closed for it. -/
theorem decides_badFields {c : Instr} {r : Request} {tag : Byte} {body : List Byte} {s : State}
    (hf : c.frame = some ⟨r.kind, tag, body⟩) (hq : s.li.queue = []) (hb : body.length ≠ r.bodyLength) :
    Decides c s ((s.hearing c).closeFor r) [0x05] :=
  decides_of hf hq (decideFrame_length r tag body _ hb)

@[simp] theorem State.hearing_ps (s : State) (c : Instr) : (s.hearing c).ps = s.ps := by
  unfold State.hearing
  split <;> rfl

/-- Settles O9: `closeFor` comes first in `decideFrame`, and the length decides between refusal and owner. -/
theorem windowClosesThenLengthIsChecked : Obligations.WindowClosesThenLengthIsChecked := by
  refine ⟨fun r => by cases r <;> decide, by decide, by decide, fun r tag body => ⟨fun closes s => ?_,
    fun right s => decideFrame_owner r tag body s right, fun wrong c s hf empty => ?_⟩⟩
  · rw [decideFrame_closeFor, State.closeFor_closed closes]
  · have refused := decides_badFields hf empty wrong
    split
    · rwa [State.closeFor_kept ‹_›] at refused
    · rwa [State.closeFor_closed (Bool.eq_false_iff.mpr ‹_›), State.hearing_ps] at refused

/-! ### O10: the notice mask (R9, R11) -/

/-- A mask of the nine kinds is stored and replied. -/
theorem decideNoticeSelect_stored {lo hi : Byte} (h : hi.toNat < 2) (s : State) :
    decideNoticeSelect [lo, hi] s = (s.setLi { s.li with mask := hi ++ lo }, [0x00, lo, hi]) := by
  have := lo.isLt
  have small : leNat [lo, hi] < 2 ^ 9 := by
    simp only [leNat]
    omega
  have word : BitVec.ofNat 16 (leNat [lo, hi]) = hi ++ lo := by rw [leNat_pair, BitVec.ofNat_toNat, BitVec.setWidth_eq]
  change (if leNat [lo, hi] < 2 ^ 9 then _ else _) = _
  rw [if_pos small]
  change take (s.setLi { s.li with mask := BitVec.ofNat 16 (leNat [lo, hi]) }) (leBytes 2 (leNat [lo, hi])) = _
  rw [word, leBytes_pair]
  rfl

/-- A mask with a bit past the nine kinds is refused. -/
theorem decideNoticeSelect_refused {lo hi : Byte} (h : 2 ≤ hi.toNat) (s : State) :
    decideNoticeSelect [lo, hi] s = (s, [0x05]) := by
  refine if_neg ?_
  change ¬leNat [lo, hi] < 2 ^ 9
  simp only [leNat]
  omega

theorem Link.raise_masked {l : Link} {k : NoticeKind} (h : l.mask.getLsbD k.position = false) (body : List Byte) :
    l.raise k body = l := if_pos h

theorem Link.raise_room {l : Link} {k : NoticeKind} (h : l.mask.getLsbD k.position = true)
    (room : l.notices.length < 16) (body : List Byte) :
    l.raise k body = { l with notices := l.notices ++ [noticeFrame k body] } := by
  unfold Link.raise
  rw [h, if_neg (by decide), if_pos room]

theorem Link.raise_full {l : Link} {k : NoticeKind} (h : l.mask.getLsbD k.position = true)
    (full : 16 ≤ l.notices.length) (body : List Byte) :
    l.raise k body = { l with lost := min 65535 (l.lost + 1) } := by
  unfold Link.raise
  rw [h, if_neg (by decide), if_neg (Nat.not_lt.mpr full)]

/-- Settles O10: the owner's two branches, the three of raising, and `Kept` for the two resets. -/
theorem noticeSelectStoresTheMask : Obligations.NoticeSelectStoresTheMask := by
  refine ⟨fun s m tag lo hi empty => ⟨fun low => ?_, fun high => ?_⟩, fun s m tag body empty wrong => ?_,
    fun l k body => ⟨fun off => Link.raise_masked off body, fun on room => Link.raise_room on room body,
      fun on full => Link.raise_full on full body⟩, fun s m pedal x => ⟨?_, ?_⟩⟩
  · exact decides_owner (r := .noticeSelect) rfl empty rfl (decideNoticeSelect_stored low _)
  · exact decides_owner (r := .noticeSelect) rfl empty rfl (decideNoticeSelect_refused high _)
  · exact decides_badFields (r := .noticeSelect) rfl empty wrong
  · obtain ⟨t, e, kept⟩ := kept_powerOn s m pedal x
    refine ⟨t.kick, congrArg Host.Outcome.next e, ?_⟩
    rw [State.kick_mask, kept.mask]
    rfl
  · obtain ⟨t, e, kept⟩ := kept_softReset (s.sample m)
    refine ⟨t.kick, congrArg Host.Outcome.next e, ?_⟩
    rw [State.kick_mask, kept.mask]
    rfl

/-! ### O11: IDENT and STATUS (R14, R15) -/

/-- A request that keeps the window is refused a wrong length with no change at all. -/
theorem decides_badFields_kept {c : Instr} {r : Request} {tag : Byte} {body : List Byte} {s : State}
    (keeps : r.keepsWindow = true) (hf : c.frame = some ⟨r.kind, tag, body⟩) (hq : s.li.queue = [])
    (hb : body.length ≠ r.bodyLength) : Decides c s (s.hearing c) [0x05] := by
  have refused := decides_badFields hf hq hb
  rwa [State.closeFor_kept keeps] at refused

/-- STATUS in an empty queue reports the state that hears it, and clears the lost count (R15). -/
theorem decides_status {s : State} (m : Lines) (tag : Byte) (hq : s.li.queue = []) :
    Decides (.status m tag []) s
      ((s.hearing (.status m tag [])).setLi { (s.hearing (.status m tag [])).li with lost := 0 })
      (0x00 :: (s.hearing (.status m tag [])).statusRecord) :=
  decides_owner (r := .status) rfl hq rfl rfl

/-- Settles O11: the identification record is the model's own, and the status record is read part by part. -/
theorem identAndStatusReportTheirRecords : Obligations.IdentAndStatusReportTheirRecords := by
  refine ⟨⟨identRecord, by decide, by decide, fun s m tag empty => ?_, fun s tag => rfl,
    fun s m tag body empty wrong => ?_⟩, fun s m tag empty => ?_, fun s m tag body empty wrong => ?_⟩
  · exact decides_owner (r := .ident) rfl empty rfl rfl
  · exact decides_badFields_kept (r := .ident) rfl rfl empty (mt List.eq_nil_of_length_eq_zero wrong)
  · intro h
    have flags := h.status_lineLoad
    have safety := h.status_safety
    have latch := h.status_latches
    exact ⟨h.statusRecord, decides_status m tag empty, rfl, h.status_runner,
      ⟨flags 0, flags 1, flags 2, flags 3, flags 4, flags 5, flags 6, flags 7⟩, h.status_gauge, h.status_cutStation,
      h.status_supply, h.status_infeed, h.status_turner,
      ⟨safety 0, safety 1, safety 2, safety 3, safety 4, latch 0, latch 1, latch 2, latch 3, latch 4, latch 5,
        h.status_latchSet⟩, h.status_link⟩
  · exact decides_badFields_kept (r := .status) rfl rfl empty (mt List.eq_nil_of_length_eq_zero wrong)

end Sys2Proof.Machine
end

section
/-! PROOFS. The compensation of a gauge target: rounding to the nearest integer and saturation (R60, R61). -/

namespace Sys2Proof.Machine

/-! ### Rounding (R60) -/

theorem roundThousandth_of_nonneg {p : Int} (h : 0 ≤ p) :
    roundThousandth p = ((p.natAbs + 500) / 1000 : Nat) := if_neg (Int.not_lt.mpr h)

theorem roundThousandth_of_neg {p : Int} (h : p < 0) :
    roundThousandth p = -((p.natAbs + 500) / 1000 : Nat) := if_pos h

/-- Rounding takes its magnitude from the magnitude of the product alone. -/
theorem roundThousandth_natAbs (p : Int) : (roundThousandth p).natAbs = (p.natAbs + 500) / 1000 := by
  rcases Int.lt_or_le p 0 with neg | nonneg
  · rw [roundThousandth_of_neg neg, Int.natAbs_neg, Int.natAbs_natCast]
  · rw [roundThousandth_of_nonneg nonneg, Int.natAbs_natCast]

theorem roundThousandth_nonneg {p : Int} (h : 0 ≤ p) : 0 ≤ roundThousandth p := by
  rw [roundThousandth_of_nonneg h]
  exact Int.natCast_nonneg _

theorem roundThousandth_nonpos {p : Int} (h : p < 0) : roundThousandth p ≤ 0 := by
  rw [roundThousandth_of_neg h]
  exact Int.neg_nonpos_of_nonneg (Int.natCast_nonneg _)

/-- No integer is nearer to `p / 1000` than the rounded one. -/
theorem roundThousandth_nearest (p : Int) : 2 * (1000 * roundThousandth p - p).natAbs ≤ 1000 := by
  rcases Int.lt_or_le p 0 with neg | nonneg
  · rw [roundThousandth_of_neg neg]
    omega
  · rw [roundThousandth_of_nonneg nonneg]
    omega

/-- An exact half goes away from zero. -/
theorem roundThousandth_half {p : Int} (h : p.natAbs % 1000 = 500) :
    1000 * (roundThousandth p).natAbs = p.natAbs + 500 := by
  rw [roundThousandth_natAbs]
  omega

/-! ### Saturation (R60) -/

/-- Saturation with the limit's value written out. -/
theorem saturate_eq (c : Int) : saturate c = max (-50) (min 50 c) := rfl

theorem saturate_of_lt {c : Int} (h : c < -50) : saturate c = -50 :=
  max_eq_left (min_le_of_right_le h.le)

theorem saturate_of_gt {c : Int} (h : 50 < c) : saturate c = 50 := by
  rw [saturate_eq, min_eq_left h.le, max_eq_right (by decide)]

theorem saturate_of_within {c : Int} (low : -50 ≤ c) (high : c ≤ 50) : saturate c = c := by
  rw [saturate_eq, min_eq_right high, max_eq_right low]

theorem saturate_within (c : Int) : -50 ≤ saturate c ∧ saturate c ≤ 50 :=
  ⟨le_max_left _ _, max_le (by decide) (min_le_left _ _)⟩

/-! ### The draw coefficient (R60) -/

theorem State.drawCoeff_none {s : State} (h : s.currentProgram = none) : s.drawCoeff = s.ps.settings.drawCoeff := by
  unfold State.drawCoeff
  rw [h]

theorem State.drawCoeff_some {s : State} {q : Program} (h : s.currentProgram = some q) :
    s.drawCoeff = q.header.draw.getD s.ps.settings.drawCoeff := by
  unfold State.drawCoeff
  rw [h]

/-! ### O28: the compensation of a target (R60, R61) -/

/-- Settles O28: the laws of the coefficient, of rounding and of saturation, read off the figures of `targetFor`. -/
theorem compensationOfATarget : Obligations.CompensationOfATarget := fun _ _ _ =>
  ⟨State.drawCoeff_none, fun _ => State.drawCoeff_some, roundThousandth_natAbs _, roundThousandth_nonneg,
    roundThousandth_nonpos, roundThousandth_nearest _, roundThousandth_half, saturate_of_lt, saturate_of_gt,
    saturate_of_within, saturate_within _, rfl, rfl, rfl⟩

end Sys2Proof.Machine
end

section
/-! PROOFS. Running a program: HOLD, LINE_HALT, the hold taken in a wait phase, and CLEAR_FAULT (R83, R84, R92, R93). -/

namespace Sys2Proof.Machine

/-! ### HOLD (R84) -/

theorem decideHold_refused {s : State} (h : (s.pr.state ≠ .running ∧ s.pr.state ≠ .held) ∨ s.pr.abortPending = true) :
    decideHold s = (s, [0x04]) := by
  unfold decideHold
  split
  · rfl
  · obtain ⟨notRunning, notHeld⟩ := h.resolve_right ‹_›
    split
    · exact absurd ‹_› notRunning
    · exact absurd ‹_› notHeld
    · rfl

theorem decideHold_running {s : State} (h : s.pr.abortPending = false) (running : s.pr.state = .running) :
    decideHold s = (s.setPr { s.pr with holdReq := true }, [0x00]) := by
  unfold decideHold
  rw [h, running]
  rfl

theorem decideHold_held {s : State} (h : s.pr.abortPending = false) (held : s.pr.state = .held) :
    decideHold s = (s, [0x00]) := by
  unfold decideHold
  rw [h, held]
  rfl

/-! ### LINE_HALT (R93) -/

theorem decideLineHalt_refused {v : Byte} (h0 : v ≠ 0) (h1 : v ≠ 1) (s : State) :
    decideLineHalt [v] s = (s, [0x05]) := by
  unfold decideLineHalt
  rw [fieldAt_byte (b := v) rfl]
  split
  · exact absurd (BitVec.eq_of_toNat_eq (y := (0 : Byte)) ‹_›) h0
  · exact absurd (BitVec.eq_of_toNat_eq (y := (1 : Byte)) ‹_›) h1
  · rfl

/-! ### The hold taken in a wait phase (R83) -/

/-- The Runner waits for the slot, for paper to be placed, or for paper to be removed. -/
abbrev Phase.isWait (p : Phase) : Prop := p = .infeedWait ∨ p = .placeWait ∨ p = .removeWait

theorem State.atHoldPoint_of_wait {s : State} (running : s.pr.state = .running) (wait : s.pr.phase.isWait) :
    s.atHoldPoint = true := by
  unfold State.atHoldPoint
  obtain h | h | h := wait <;> rw [running, h] <;> rfl

theorem State.withdrawRunner_of_noCycle {s : State} (h : s.cs.cycle = none) : s.withdrawRunner = s := by
  unfold State.withdrawRunner
  rw [h, Option.any_none, Bool.and_false]
  rfl

/-- In a wait phase the first standing reason is taken, and no cycle is there to withdraw. -/
theorem State.takeHold_of_wait {s : State} (running : s.pr.state = .running) (noCycle : s.cs.cycle = none)
    (wait : s.pr.phase.isWait) : s.takeHold = s.standingReason.elim s s.toHeld := by
  unfold State.takeHold
  rw [State.atHoldPoint_of_wait running wait, State.withdrawRunner_of_noCycle noCycle]
  cases s.standingReason <;> rfl

/-! ### O35: HOLD, LINE_HALT and the hold they cause (R84, R93, R83) -/

/-- Settles O35: the owners' branches, and R83's order of the standing reasons. -/
theorem holdAndLineHaltSetTheirFlags : Obligations.HoldAndLineHaltSetTheirFlags := by
  refine ⟨fun s m tag empty => ⟨fun barred => ?_, fun free running => ?_, fun free held => ?_⟩,
    fun s m tag body empty wrong => ?_, fun s m tag v empty => ⟨fun clear => ?_, fun set => ?_, fun h0 h1 => ?_⟩,
    fun s running noCycle _ wait => ?_⟩
  · exact decides_owner (r := .hold) rfl empty rfl (decideHold_refused barred)
  · exact decides_owner (r := .hold) rfl empty rfl (decideHold_running free running)
  · exact decides_owner (r := .hold) rfl empty rfl (decideHold_held free held)
  · exact decides_badFields (r := .hold) rfl empty (mt List.eq_nil_of_length_eq_zero wrong)
  · subst clear
    exact decides_owner (r := .lineHalt) rfl empty rfl rfl
  · subst set
    exact decides_owner (r := .lineHalt) rfl empty rfl rfl
  · exact decides_owner (r := .lineHalt) rfl empty rfl (decideLineHalt_refused h0 h1 _)
  · intro holds
    rw [State.takeHold_of_wait running noCycle wait]
    unfold State.standingReason
    split_ifs <;> rfl

/-! ### What CLEAR_FAULT does to each block (R92, R126) -/

theorem State.runnerCleared_eq (s : State) :
    let r : Runner := { s.pr with fault := none, second := false }
    s.runnerCleared =
      s.setPr
        (if s.pr.state = .faulted then
          { r with state := .held, hold := .cleared, holdReq := false, waits := .nothing, noticeDue := true }
        else r) := by
  unfold State.runnerCleared
  split <;> rfl

theorem State.gaugeCleared_eq (s : State) :
    s.gaugeCleared = s.setBg (if s.bg.state = .fault then { s.bg with state := .unreferenced } else s.bg) := by
  unfold State.gaugeCleared
  split <;> rfl

/-- With the latch clear a station entering RECOVER asks for the grant at once. -/
theorem State.enterRecover_latchClear {s : State} (h : s.sm.estopLatch = false) :
    s.enterRecover = (s.setCs (s.cs.rest .recover)).request .cut := if_pos ⟨rfl, h⟩

theorem State.csClearFault_latchClear {s : State} (h : s.sm.estopLatch = false) :
    s.csClearFault =
      if s.cs.state = .fault then
        if s.lines.clampUp = true ∧ s.lines.knifeTop = true then s.setCs (s.cs.rest s.readyState)
        else (s.setCs (s.cs.rest .recover)).request .cut
      else s := by
  unfold State.csClearFault State.homeOrRecover State.cutterHome
  rw [State.enterRecover_latchClear h]
  simp only [Bool.and_eq_true]

@[simp] theorem State.slotCleared_bg (s : State) : s.slotCleared.bg = s.bg := by
  unfold State.slotCleared
  split <;> rfl

@[simp] theorem State.slotCleared_cs (s : State) : s.slotCleared.cs = s.cs := by
  unfold State.slotCleared
  split <;> rfl

@[simp] theorem State.slotCleared_sm (s : State) : s.slotCleared.sm = s.sm := by
  unfold State.slotCleared
  split <;> rfl

@[simp] theorem State.slotCleared_lines (s : State) : s.slotCleared.lines = s.lines := by
  unfold State.slotCleared
  split <;> rfl

/-- With the latch clear the blocks are cleared one after another, and the record is replied as it stood. -/
theorem decideClearFault_latchClear {s : State} (h : s.sm.estopLatch = false) :
    decideClearFault s =
      take ((s.runnerCleared.setHs s.runnerCleared.hs.clearFault).slotCleared.gaugeCleared).csClearFault
        (s.pr.faultBytes ++ [boolByte s.pr.second]) := if_neg (Bool.eq_false_iff.mp h)

/-! ### O39: CLEAR_FAULT (R92) -/

/-- Settles O39: the owner's blocks one after another, each as its equation says. -/
theorem clearFaultClearsEveryBlock : Obligations.ClearFaultClearsEveryBlock := by
  intro s m tag empty c closed
  refine ⟨fun latched => decides_owner (r := .clearFault) rfl empty rfl (if_pos latched), fun clear => ?_⟩
  intro r t1 t2 t3 t4 atRest t5
  have runner : closed.runnerCleared = t1 := closed.runnerCleared_eq
  have supply : t1.setHs t1.hs.clearFault = t2 := rfl
  have slot : t2.slotCleared = t3 := rfl
  have gauge : t3.gaugeCleared = t4 := by
    have same : t3.bg.state = s.bg.state := (congrArg Gauge.state t2.slotCleared_bg :)
    rw [State.gaugeCleared_eq, same]
  have cut : t4.csClearFault = t5 := by
    have safety : t4.sm = s.sm := t2.slotCleared_sm
    have lines : t4.lines = m := t2.slotCleared_lines
    have station : t4.cs.state = s.cs.state := (congrArg CutStation.state t2.slotCleared_cs :)
    have ready : t4.readyState = if s.keyOn then .bladeChange else .ready := by
      unfold State.readyState State.keyOn
      rw [safety]
    rw [State.csClearFault_latchClear (safety ▸ clear), lines, station, ready]
    rfl
  refine decides_owner (r := .clearFault) rfl empty rfl ((decideClearFault_latchClear (s := closed) clear).trans ?_)
  rw [runner, supply, slot, gauge, cut]
  rfl

end Sys2Proof.Machine
end

section
/-! PROOFS. CUT_NOW: its refusals in the order of R124, its figures, and its approach complete at once (R124, R125). -/

namespace Sys2Proof.Machine

/-! ### Refusals in order -/

theorem firstRefusal_met {c : Bool} (h : c = true) (st : Status) (rest : List (Bool × Status)) :
    firstRefusal ((c, st) :: rest) = some st := if_pos h

theorem firstRefusal_unmet {c : Bool} (h : ¬c = true) (st : Status) (rest : List (Bool × Status)) :
    firstRefusal ((c, st) :: rest) = firstRefusal rest := if_neg h

/-! ### The body of CUT_NOW (R124) -/

/-- The disposition of a body whose last byte is at most 2. -/
theorem Disposition.ofCode_byte {d : Byte} (h : d.toNat ≤ 2) :
    Disposition.ofCode d.toNat = some (if d = 0 then .waste else if d = 1 then .aside else .finished) := by
  obtain e | e | e : d.toNat = 0 ∨ d.toNat = 1 ∨ d.toNat = 2 := by omega
  · rw [BitVec.eq_of_toNat_eq (x := d) (y := 0) e]
    rfl
  · rw [BitVec.eq_of_toNat_eq (x := d) (y := 1) e]
    rfl
  · rw [BitVec.eq_of_toNat_eq (x := d) (y := 2) e]
    rfl

theorem Disposition.ofCode_past {n : Nat} (h : 2 < n) : Disposition.ofCode n = none := by
  unfold Disposition.ofCode
  split
  · omega
  · omega
  · omega
  · rfl

theorem fieldAt_last {b : List Byte} {n : Nat} (h : b.length = n) (d : Byte) : fieldAt (b ++ [d]) n 1 = d.toNat :=
  fieldAt_byte (by rw [List.drop_left' h]; rfl)

theorem fieldAt_front {b : List Byte} {n : Nat} (h : b.length = n) (rest : List Byte) :
    fieldAt (b ++ rest) 0 n = leNat b := by
  unfold fieldAt
  rw [List.drop_zero, List.take_left' h]

/-! ### The figures (R124, R61) -/

theorem outOfTravel_iff (t : Int) : outOfTravel t = true ↔ t < 1800 ∨ 124000 < t := decide_eq_true_iff

theorem failsLoad_iff (x : Except (FaultKind × Int) Target) :
    failsLoad x = true ↔ ∃ k e, x = .error (k, e) ∧ (k = .noLoad ∨ k = .asideFull) := by
  constructor
  · intro h
    unfold failsLoad at h
    split at h
    · exact ⟨_, _, rfl, .inl rfl⟩
    · exact ⟨_, _, rfl, .inr rfl⟩
    · cases h
  · rintro ⟨k, e, rfl, rfl | rfl⟩ <;> rfl

theorem fails_iff (x : Except (FaultKind × Int) Target) : fails x = true ↔ ∃ e, x = .error e := by
  cases x <;> simp [fails]

theorem State.cutNowTarget_tracked {s : State} (h : s.gt.openLoad.isSome = true) (d : Disposition) (g : Int) :
    s.cutNowTarget d g = s.checkCut d g := if_pos h

theorem State.cutNowTarget_outside {s : State} (h : s.gt.openLoad.isSome = false) {g : Int}
    (outside : g < 1800 ∨ 124000 < g) (d : Disposition) : s.cutNowTarget d g = .error (.outOfTravel, g) := by
  unfold State.cutNowTarget
  rw [h, if_neg (by decide), if_pos ((outOfTravel_iff g).mpr outside)]

theorem State.cutNowTarget_inside {s : State} (h : s.gt.openLoad.isSome = false) {g : Int}
    (inside : ¬(g < 1800 ∨ 124000 < g)) (d : Disposition) : s.cutNowTarget d g = .ok ⟨g, 0, 0, g, 0, none⟩ := by
  unfold State.cutNowTarget
  rw [h, if_neg (by decide), if_neg (mt (outOfTravel_iff g).mp inside)]

/-- NO_LOAD and ASIDE_FULL fail tracked cuts only. -/
theorem State.failsLoad_cutNowTarget (s : State) (d : Disposition) (g : Int) :
    failsLoad (s.cutNowTarget d g) = true ↔
      s.gt.openLoad.isSome = true ∧ ∃ k e, s.checkCut d g = .error (k, e) ∧ (k = .noLoad ∨ k = .asideFull) := by
  cases tracked : s.gt.openLoad.isSome with
  | true => rw [State.cutNowTarget_tracked tracked, failsLoad_iff, eq_self, true_and]
  | false =>
    by_cases outside : g < 1800 ∨ 124000 < g
    · simp [State.cutNowTarget_outside tracked outside, failsLoad]
    · simp [State.cutNowTarget_inside tracked outside, failsLoad]

/-- A tracked cut fails a check of the tracker, an untracked one the travel. -/
theorem State.fails_cutNowTarget (s : State) (d : Disposition) (g : Int) :
    fails (s.cutNowTarget d g) = true ↔
      if s.gt.openLoad.isSome then ∃ e, s.checkCut d g = .error e else g < 1800 ∨ 124000 < g := by
  cases tracked : s.gt.openLoad.isSome with
  | true => rw [State.cutNowTarget_tracked tracked, fails_iff, if_pos rfl]
  | false =>
    by_cases outside : g < 1800 ∨ 124000 < g
    · simp [State.cutNowTarget_outside tracked outside, fails, outside]
    · simp [State.cutNowTarget_inside tracked outside, fails, outside]

/-! ### The refusals of CUT_NOW (R124) -/

/-- The state forbids a CUT_NOW with these figures: R124's BAD_STATE. -/
def State.cutNowBarred (s : State) (x : Except (FaultKind × Int) Target) : Bool :=
  s.pr.lineHalt || (s.gt.openLoad.isNone && decide (s.knifeLimit ≤ s.cs.counter)) || failsLoad x

/-- A unit a CUT_NOW needs is in use: R124's BUSY. -/
def State.cutNowBusy (s : State) : Bool :=
  decide (s.cs.state ≠ .ready) || s.manualInFlight || s.gaugeBusy || s.bg.slot.isSome || decide (s.pt.state ≠ .parked)

theorem State.cutNowRefusal_eq (s : State) (ok : Bool) (x : Except (FaultKind × Int) Target) :
    s.cutNowRefusal ok x =
      firstRefusal
        [(!ok, .badFields), (s.runOpen, .owned), (s.cutNowBarred x, .badState), (s.cutNowBusy, .busy),
          (!s.bg.referenced, .notReferenced), (s.sm.estopLatch || s.guardOpen, .safetyBlocked),
          (fails x, .badFields)] := rfl

theorem State.cutNowBarred_iff (s : State) (d : Disposition) (g : Int) :
    s.cutNowBarred (s.cutNowTarget d g) = true ↔
      s.pr.lineHalt = true ∨
        (s.gt.openLoad.isSome = false ∧ s.ps.settings.knifeWarn + s.ps.settings.knifeGrace ≤ s.cs.counter) ∨
          (s.gt.openLoad.isSome = true ∧
            ∃ k e, s.checkCut d g = .error (k, e) ∧ (k = .noLoad ∨ k = .asideFull)) := by
  unfold State.cutNowBarred State.knifeLimit
  rw [Bool.or_eq_true, Bool.or_eq_true, Bool.and_eq_true, State.failsLoad_cutNowTarget, decide_eq_true_iff,
    ← Option.not_isSome, Bool.not_eq_true', or_assoc]

theorem State.cutNowBusy_iff (s : State) :
    s.cutNowBusy = true ↔
      s.cs.state ≠ .ready ∨ s.manualInFlight = true ∨ s.gaugeBusy = true ∨ s.bg.slot ≠ none ∨
        s.pt.state ≠ .parked := by
  simp only [State.cutNowBusy, Bool.or_eq_true, decide_eq_true_iff, Option.isSome_iff_ne_none, or_assoc]

theorem decideCutNow_refused {s : State} {body : List Byte} {st : Status}
    (h : let d := Disposition.ofCode (fieldAt body 4 1)
      s.cutNowRefusal d.isSome (s.cutNowTarget (d.getD .waste) (signedAt body 0 4)) = some st) :
    decideCutNow body s = (s, [st.code]) := by
  unfold decideCutNow
  dsimp only at h ⊢
  rw [h]
  rfl

theorem decideCutNow_taken {s : State} {body : List Byte} {d : Disposition} {y : Target}
    (hd : Disposition.ofCode (fieldAt body 4 1) = some d) (hy : s.cutNowTarget d (signedAt body 0 4) = .ok y)
    (h : s.cutNowRefusal true (.ok y) = none) :
    decideCutNow body s = (s.cutNowTaken d y, 0x00 :: (leInt 4 y.target ++ leInt 2 y.comp)) := by
  unfold decideCutNow
  simp only [hd, Option.getD_some, Option.isSome_some, hy, h]
  rfl

/-! ### Warnings leave the blocks as they are (R45) -/

@[simp] theorem OpenLoad.addWarning_id (o : OpenLoad) (e : WarnEntry) : (o.addWarning e).id = o.id := by
  unfold OpenLoad.addWarning
  split <;> rfl

/-- A load warning changes the tracker's lists and the link alone. -/
theorem State.loadWarning_eq (s : State) (k : WarningKind) (detail : Int) :
    ∃ t l, s.loadWarning k detail = (s.setGt t).setLi l ∧ (s.setGt t).loadId = s.loadId := by
  unfold State.loadWarning State.loadId
  cases e : s.gt.openLoad with
  | none => exact ⟨s.gt, _, rfl, by rw [State.gt_setGt, e]⟩
  | some o => exact ⟨{ s.gt with openLoad := some (o.addWarning ⟨k.code, s.warnStep, s.warnIter⟩) }, _, rfl,
      o.addWarning_id _⟩

theorem State.warnBackward_eq (s : State) (backward tracked : Bool) (t : Int) :
    ∃ x l, s.warnBackward backward tracked t = (s.setGt x).setLi l ∧ (s.setGt x).loadId = s.loadId := by
  cases backward with
  | false => exact ⟨s.gt, s.li, rfl, rfl⟩
  | true =>
    cases tracked with
    | false => exact ⟨s.gt, _, rfl, rfl⟩
    | true => exact s.loadWarning_eq .backwardApproach t

theorem State.warnSaturated_eq (s : State) (y : Target) :
    ∃ x l, s.warnSaturated y = (s.setGt x).setLi l ∧ (s.setGt x).loadId = s.loadId := by
  unfold State.warnSaturated
  split
  · exact ⟨s.gt, s.li, rfl, rfl⟩
  · exact s.loadWarning_eq .compSaturated y.raw

/-! ### The approach complete at once (R125) -/

/-- With nothing against it, the READY station takes the cycle of a manual cut whose approach is complete. -/
theorem State.manualCutApproached_taken {s : State} {x : ManualCut} (waiting : s.cs.manual = some x)
    (ready : s.cs.state = .ready) (noHalt : s.pr.lineHalt = false) (keyOff : s.keyOn = false) (backward : Bool) :
    s.manualCutApproached backward =
      (s.warnBackward backward x.cycle.tracked x.cycle.target).setCs
        { s.cs with manual := none, state := .armed, cycle := some x.cycle, pedalCounts := !s.cs.pedal } := by
  obtain ⟨t, l, told, -⟩ := s.warnBackward_eq backward x.cycle.tracked x.cycle.target
  have goesOn : ∀ c, (((s.setGt t).setLi l).setCs c).manualStop = none := fun c => by
    change (if s.pr.lineHalt then some 2 else if s.keyOn then some 3 else none) = none
    rw [noHalt, keyOff]
    rfl
  unfold State.manualCutApproached
  simp only [waiting, told]
  unfold State.manualCutNext
  simp only [State.cs_setCs, if_true, goesOn, ready]
  rfl

/-- With the blade key on, a manual cut whose approach is complete ends, cause blade key. -/
theorem State.manualCutApproached_keyOn {s : State} {x : ManualCut} (waiting : s.cs.manual = some x)
    (noHalt : s.pr.lineHalt = false) (keyOn : s.keyOn = true) (backward : Bool) :
    s.manualCutApproached backward =
      ((s.warnBackward backward x.cycle.tracked x.cycle.target).setCs { s.cs with manual := none }).plainWarning
        .cutNowEnded s.loadId 3 := by
  obtain ⟨t, l, told, sameLoad⟩ := s.warnBackward_eq backward x.cycle.tracked x.cycle.target
  have stops : ∀ c, (((s.setGt t).setLi l).setCs c).manualStop = some 3 := fun c => by
    change (if s.pr.lineHalt then some 2 else if s.keyOn then some 3 else none) = some 3
    rw [noHalt, keyOn]
    rfl
  unfold State.manualCutApproached
  simp only [waiting, told]
  unfold State.manualCutNext
  simp only [State.cs_setCs, if_true, stops]
  exact congrArg (fun id => State.plainWarning _ .cutNowEnded id 3) sameLoad

/-! ### What a CUT_NOW that is taken leads to (R124, R125) -/

/-- `s` with a CUT_NOW taken, its approach yet to be handed: what `State.cutNowTaken` hands it from. -/
def State.cutNowWaiting (s : State) (d : Disposition) (y : Target) : State :=
  (s.warnSaturated y).setCs { s.cs with manual := some ⟨s.manualCycle d y, false⟩ }

theorem State.cutNowTaken_moving {s v : State} {d : Disposition} {y : Target}
    (h : (s.cutNowWaiting d y).approach .manualCut false .approach y.target = .moving v) : s.cutNowTaken d y = v := by
  unfold State.cutNowWaiting at h
  unfold State.cutNowTaken
  simp only [h]

theorem State.cutNowTaken_completed {s v : State} {d : Disposition} {y : Target} {backward : Bool}
    (h : (s.cutNowWaiting d y).approach .manualCut false .approach y.target = .completed v backward) :
    s.cutNowTaken d y = v.manualCutApproached backward := by
  unfold State.cutNowWaiting at h
  unfold State.cutNowTaken
  simp only [h]

/-- An approach complete at once replaces the gauge's state alone. -/
theorem State.approach_completed {s v : State} {i : MoveIssuer} {fromSlot backward : Bool} {k : MoveKind} {t : Int}
    (h : s.approach i fromSlot k t = .completed v backward) : ∃ g, v = s.setBg g := by
  unfold State.approach at h
  split at h
  · cases h
    exact ⟨_, rfl⟩
  · cases h

/-- The station, the Runner, the Safety Monitor and the load id are as they were when the approach is complete. -/
theorem State.cutNowWaiting_approached {s v : State} {d : Disposition} {y : Target} {backward : Bool}
    (h : (s.cutNowWaiting d y).approach .manualCut false .approach y.target = .completed v backward) :
    v.cs = { s.cs with manual := some ⟨s.manualCycle d y, false⟩ } ∧ v.pr = s.pr ∧ v.sm = s.sm ∧
      v.loadId = s.loadId := by
  obtain ⟨g, rfl⟩ := State.approach_completed h
  obtain ⟨t, l, e, sameLoad⟩ := s.warnSaturated_eq y
  unfold State.cutNowWaiting
  rw [e]
  exact ⟨rfl, rfl, rfl, sameLoad⟩

/-- The approach complete at once, the READY station takes the cycle (R125 point 1, R112). -/
theorem State.cutNowTaken_keyOff {s v : State} {d : Disposition} {y : Target} {backward : Bool}
    (completed : (s.cutNowWaiting d y).approach .manualCut false .approach y.target = .completed v backward)
    (ready : s.cs.state = .ready) (noHalt : s.pr.lineHalt = false) (keyOff : s.keyOn = false) :
    s.cutNowTaken d y =
      (v.warnBackward backward s.gt.openLoad.isSome y.target).setCs
        { v.cs with
          manual := none, state := .armed, cycle := some (s.manualCycle d y), pedalCounts := !s.cs.pedal } := by
  obtain ⟨station, runner, safety, -⟩ := State.cutNowWaiting_approached completed
  have key : v.keyOn = s.keyOn := congrArg (fun x : Monitor => x.bladeKey.atUnsafe) safety
  rw [State.cutNowTaken_completed completed, State.manualCutApproached_taken (congrArg CutStation.manual station)
    (station ▸ ready) (runner ▸ noHalt) (key.trans keyOff), station]
  rfl

/-- The approach complete at once with the blade key on, the manual cut ends (R125 point 1). -/
theorem State.cutNowTaken_keyOn {s v : State} {d : Disposition} {y : Target} {backward : Bool}
    (completed : (s.cutNowWaiting d y).approach .manualCut false .approach y.target = .completed v backward)
    (noHalt : s.pr.lineHalt = false) (keyOn : s.keyOn = true) :
    s.cutNowTaken d y =
      ((v.warnBackward backward s.gt.openLoad.isSome y.target).setCs { v.cs with manual := none }).plainWarning
        .cutNowEnded s.loadId 3 := by
  obtain ⟨station, runner, safety, sameLoad⟩ := State.cutNowWaiting_approached completed
  have key : v.keyOn = s.keyOn := congrArg (fun x : Monitor => x.bladeKey.atUnsafe) safety
  rw [State.cutNowTaken_completed completed, State.manualCutApproached_keyOn (congrArg CutStation.manual station)
    (runner ▸ noHalt) (key.trans keyOn), sameLoad]
  rfl

/-! ### O48: CUT_NOW (R124) -/

/-- A CUT_NOW of the right length follows its owner's decision, with the window closed. -/
theorem decides_cutNow {s t : State} {m : Lines} {tag d : Byte} {b body : List Byte} (four : b.length = 4)
    (empty : s.li.queue = [])
    (e : decideCutNow (b ++ [d])
      ((s.hearing (.cutNow m tag (b ++ [d]))).setPs { s.ps with window := none }) = (t, body)) :
    Decides (.cutNow m tag (b ++ [d])) s t body :=
  decides_owner (r := .cutNow) rfl empty (by rw [List.length_append, four]; rfl) e

/-- Settles O48: R124's refusals one after another, and a CUT_NOW taken with its approach as R125 goes on. -/
theorem cutNowIsHandedOrRefused : Obligations.CutNowIsHandedOrRefused := by
  intro s m tag d b four empty c closed g disposition tracked x noLoad barred busy danger outside failed free cycle
  have last : fieldAt (b ++ [d]) 4 1 = d.toNat := fieldAt_last four d
  have front : signedAt (b ++ [d]) 0 4 = g := congrArg (signedOf 4) (fieldAt_front four [d])
  have valid (low : d.toNat ≤ 2) : Disposition.ofCode (fieldAt (b ++ [d]) 4 1) = some disposition :=
    last ▸ Disposition.ofCode_byte low
  -- R124's conditions are asked of the state as the request found it.
  have barredIff : closed.cutNowBarred (closed.cutNowTarget disposition g) = true ↔ barred :=
    closed.cutNowBarred_iff disposition g
  have busyIff : closed.cutNowBusy = true ↔ busy := closed.cutNowBusy_iff
  have dangerIff : (closed.sm.estopLatch || closed.guardOpen) = true ↔ danger := Bool.or_eq_true _ _ ▸ Iff.rfl
  have failedIff : fails (closed.cutNowTarget disposition g) = true ↔ failed := closed.fails_cutNowTarget disposition g
  have refuses (low : d.toNat ≤ 2) (st : Status)
      (h : closed.cutNowRefusal true (closed.cutNowTarget disposition g) = some st) : Decides c s closed [st.code] :=
    decides_cutNow four empty (decideCutNow_refused (by simp only [valid low, front]; exact h))
  -- What is left of the list once each condition, in R124's order, is known not to hold.
  have order := closed.cutNowRefusal_eq true (closed.cutNowTarget disposition g)
  have valued := order.trans (firstRefusal_unmet (by decide) _ _)
  have unowned (idle : s.runOpen = false) := valued.trans (firstRefusal_unmet (Bool.eq_false_iff.mp idle) _ _)
  have unbarred (idle) (h : ¬barred) := (unowned idle).trans (firstRefusal_unmet (mt barredIff.mp h) _ _)
  have unbusy (idle able) (h : ¬busy) := (unbarred idle able).trans (firstRefusal_unmet (mt busyIff.mp h) _ _)
  have known (idle able calm) (h : s.bg.referenced = true) :=
    (unbusy idle able calm).trans (firstRefusal_unmet (Bool.eq_false_iff.mp (congrArg not h)) _ _)
  have safe (idle able calm found) (h : ¬danger) :=
    (known idle able calm found).trans (firstRefusal_unmet (mt dangerIff.mp h) _ _)
  refine ⟨fun high => ?_, fun low => ⟨?_, ?_, ?_, ?_, ?_⟩, ?_, ?_⟩
  · refine decides_cutNow four empty (decideCutNow_refused (st := .badFields) ?_)
    rw [last, Disposition.ofCode_past high]
    exact firstRefusal_met rfl _ _
  · exact fun run => refuses low .owned (valued.trans (firstRefusal_met run _ _))
  · exact fun idle h => refuses low .badState ((unowned idle).trans (firstRefusal_met (barredIff.mpr h) _ _))
  · exact fun idle able h => refuses low .busy ((unbarred idle able).trans (firstRefusal_met (busyIff.mpr h) _ _))
  · exact fun idle able calm h =>
      refuses low .notReferenced ((unbusy idle able calm).trans (firstRefusal_met (congrArg not h) _ _))
  · exact fun idle able calm found h =>
      refuses low .safetyBlocked ((known idle able calm found).trans (firstRefusal_met (dangerIff.mpr h) _ _))
  · exact fun ⟨low, idle, able, calm, found, harmless⟩ h =>
      refuses low .badFields ((safe idle able calm found harmless).trans (firstRefusal_met (failedIff.mpr h) _ _))
  · rintro ⟨low, idle, able, calm, found, harmless⟩ y figures w
    have target : closed.cutNowTarget disposition g = .ok y := by
      obtain ⟨isTracked, ok⟩ | ⟨untracked, inside, rfl⟩ := figures
      · exact (State.cutNowTarget_tracked isTracked _ _).trans ok
      · exact State.cutNowTarget_inside untracked inside _
    have admitted : closed.cutNowRefusal true (.ok y) = none := by
      rw [← target, safe idle able calm found harmless, target]
      rfl
    have taken {t : State} (e : closed.cutNowTaken disposition y = t) :
        Decides c s t (0x00 :: (leInt 4 y.target ++ leInt 2 y.comp)) :=
      e ▸ decides_cutNow four empty (decideCutNow_taken (valid low) (front ▸ target) admitted)
    have ready : s.cs.state = .ready := not_not.mp fun h => calm (.inl h)
    have noHalt : s.pr.lineHalt = false := Bool.eq_false_iff.mpr fun h => able (.inl h)
    refine ⟨fun v moving => taken (State.cutNowTaken_moving moving), fun v backward completed => ?_⟩
    intro told
    have warned : v.warnBackward backward tracked y.target = told := by cases backward <;> rfl
    refine ⟨fun keyOff => taken ?_, fun keyOn => taken ?_⟩
    · exact warned ▸ State.cutNowTaken_keyOff completed ready noHalt keyOff
    · exact warned ▸ State.cutNowTaken_keyOn completed noHalt keyOn

end Sys2Proof.Machine
end

section
/-! PROOFS. The hydraulic supply: whom a decision grants, what the grant starts, requests and releases (R131 to R133),
with the raise that ends as it is granted (R141, R143, R144). -/

namespace Sys2Proof.Machine

/-! ### Whom a decision grants (R132) -/

theorem mem_cycleAfter (l : Option Consumer) (c : Consumer) : c ∈ cycleAfter l := by
  obtain _ | _ | _ | _ := l <;> cases c <;> decide

/-- The first element of a list with a property is the one of those with it that stands foremost. -/
theorem find?_eq_some_iff_foremost {α : Type} [DecidableEq α] (p : α → Bool) (l : List α) (c : α) :
    l.find? p = some c ↔ c ∈ l ∧ p c = true ∧ ∀ d ∈ l, p d = true → l.idxOf c ≤ l.idxOf d := by
  induction l with
  | nil => simp
  | cons a l ih =>
    by_cases found : p a = true
    · rw [List.find?_cons_of_pos found, Option.some_inj]
      constructor
      · rintro rfl
        simp [found]
      · rintro ⟨-, -, foremost⟩
        have front : (a :: l).idxOf c = 0 := by simpa using foremost a List.mem_cons_self found
        by_contra other
        rw [List.idxOf_cons_ne l other] at front
        omega
    · have rest {d : α} (h : p d = true) : a ≠ d := fun e => found (e ▸ h)
      rw [List.find?_cons_of_neg found, ih]
      constructor
      · rintro ⟨mem, holds, foremost⟩
        refine ⟨List.mem_cons_of_mem a mem, holds, fun d hd h => ?_⟩
        rw [List.idxOf_cons_ne l (rest holds), List.idxOf_cons_ne l (rest h)]
        exact Nat.succ_le_succ (foremost d (List.mem_of_ne_of_mem (rest h).symm hd) h)
      · rintro ⟨mem, holds, foremost⟩
        refine ⟨List.mem_of_ne_of_mem (rest holds).symm mem, holds, fun d hd h => ?_⟩
        have := foremost d (List.mem_cons_of_mem a hd) h
        rw [List.idxOf_cons_ne l (rest holds), List.idxOf_cons_ne l (rest h)] at this
        exact Nat.le_of_succ_le_succ this

/-- ROUND_ROBIN chooses the waiting consumer that comes first in the cycle after the last holder. -/
theorem Supply.roundChoice_eq_some_iff (h : Supply) (c : Consumer) :
    h.roundChoice = some c ↔
      h.requested c = true ∧
        ∀ d, h.requested d = true → (cycleAfter h.last).idxOf c ≤ (cycleAfter h.last).idxOf d := by
  simp [Supply.roundChoice, find?_eq_some_iff_foremost, mem_cycleAfter]

/-- FIXED takes the highest priority of those that wait. -/
theorem Supply.fixedChoice_eq_argmax (h : Supply) (x : Settings) :
    h.fixedChoice x = ([Consumer.cut, .lift, .turn].filter h.requested).argmax x.priority := by
  unfold Supply.fixedChoice List.argmax
  rw [List.foldl_filter]
  congr 1
  funext best c
  cases best <;> rfl

theorem Supply.mem_waiting (h : Supply) (c : Consumer) :
    c ∈ [Consumer.cut, .lift, .turn].filter h.requested ↔ h.requested c = true := by
  cases c <;> simp

theorem priority_injective {x : Settings}
    (differ : permutation x.priorityCut x.priorityLift x.priorityTurn = true) : Function.Injective x.priority := by
  obtain ⟨-, -, -, cutLift, liftTurn, cutTurn⟩ := of_decide_eq_true differ
  intro c d same
  cases c <;> cases d <;> simp_all [Settings.priority]

/-- With three different priorities, FIXED chooses the waiting consumer none that waits is above. -/
theorem Supply.fixedChoice_eq_some_iff (h : Supply) {x : Settings} (c : Consumer)
    (differ : permutation x.priorityCut x.priorityLift x.priorityTurn = true) :
    h.fixedChoice x = some c ↔
      h.requested c = true ∧ ∀ d, h.requested d = true → x.priority d ≤ x.priority c := by
  rw [h.fixedChoice_eq_argmax, List.argmax_eq_some_iff]
  simp only [h.mem_waiting]
  refine ⟨fun ⟨waits, highest, _⟩ => ⟨waits, highest⟩, fun ⟨waits, highest⟩ => ⟨waits, highest, fun d hd above => ?_⟩⟩
  rw [priority_injective differ (above.antisymm (highest d hd))]

theorem Supply.choice_free {h : Supply} {x : Settings} (free : h.pump = .ready ∧ h.enable = true ∧ h.holder = none) :
    h.choice x = if x.roundRobin = true then h.roundChoice else h.fixedChoice x := if_pos free

theorem Supply.choice_notFree {h : Supply} {x : Settings}
    (barred : ¬(h.pump = .ready ∧ h.enable = true ∧ h.holder = none)) : h.choice x = none := if_neg barred

theorem Supply.requested_of_anyRequest {h : Supply} (quiet : h.anyRequest = false) (c : Consumer) :
    h.requested c = false := by
  simp only [Supply.anyRequest, Bool.or_eq_false_iff] at quiet
  obtain ⟨⟨cut, lift⟩, turn⟩ := quiet
  cases c
  · exact cut
  · exact lift
  · exact turn

/-- Only a consumer that waits is chosen. -/
theorem Supply.choice_requested {h : Supply} {x : Settings} {c : Consumer} (chosen : h.choice x = some c) :
    h.requested c = true := by
  rw [Supply.choice_free (Supply.choice_some chosen)] at chosen
  split at chosen
  · exact List.find?_some chosen
  · rw [h.fixedChoice_eq_argmax] at chosen
    exact (h.mem_waiting c).mp (List.argmax_mem chosen)

theorem Supply.choice_quiet {h : Supply} (quiet : h.anyRequest = false) (x : Settings) : h.choice x = none := by
  rw [Option.eq_none_iff_forall_ne_some]
  intro c chosen
  exact Bool.false_ne_true ((Supply.requested_of_anyRequest quiet c).symm.trans (Supply.choice_requested chosen))

/-! ### The holder gives the grant back (R133) -/

section
variable {s : State} (next : State → State)

theorem State.releasedBy_stop (stop : s.hs.stopPending = true) :
    s.releasedBy next = s.setHs ({ s.hs with holder := none } : Supply).stop := if_pos stop

theorem State.releasedBy_waiting (goesOn : s.hs.stopPending = false) (waits : s.hs.anyRequest = true) :
    s.releasedBy next = next (s.setHs { s.hs with holder := none }) :=
  (if_neg (Bool.eq_false_iff.mp goesOn)).trans (if_pos waits)

theorem State.releasedBy_quiet (goesOn : s.hs.stopPending = false) (quiet : s.hs.anyRequest = false) :
    s.releasedBy next =
      s.setHs { s.hs with holder := none, idleTimer := some (s.ps.settings.pumpIdleOff * 1000) } :=
  (if_neg (Bool.eq_false_iff.mp goesOn)).trans (if_neg (Bool.eq_false_iff.mp quiet))

end

theorem State.release_holder {s : State} {c : Consumer} (holds : s.hs.holder = some c) :
    s.release c = s.releasedBy State.decideGrant := if_pos holds

/-! ### A raise that ends with its measurement (R143, R144) -/

@[simp] theorem State.raiseMeasured_ps (s : State) (m : Nat) : (s.raiseMeasured m).ps = s.ps := by
  unfold State.raiseMeasured State.takeOffMeasured State.initialMeasured State.slotNotice
  dsimp only
  split
  · split <;> rfl
  · rfl
  · rfl

/-- The lift once a raise has ended with measurement `m`, its pile record `p`. -/
def Lift.raised (l : Lift) (m : Nat) (p : Pile) : Lift :=
  { l with
    raising := none
    raiseTimer := none
    raiseValve := false
    state := if m = 0 then .exhausted else .atTransfer
    pile := some p }

section
variable {s : State} {p : Pile} (m : Nat)

theorem State.raiseMeasured_initial (pile : s.pl.pile = some p) (initial : s.pl.raising = some .initial) :
    s.raiseMeasured m = (s.setPl (s.pl.raised m { p with h0 := m, hc := m })).infeedNotice .pileMeasured 0 := by
  unfold State.raiseMeasured State.initialMeasured Lift.raised
  simp only [initial, State.pl_setPl, State.setPl_twice, pile, Option.map_some]

theorem State.raiseMeasured_takeOff (pile : s.pl.pile = some p) (takeOff : s.pl.raising = some .takeOff) :
    s.raiseMeasured m =
      (((s.setPl (s.pl.raised m (p.takeOff m))).setJg (s.jg.withHeight (p.takeOffHeight m))).infeedNotice .takeOff
        ((p.hc : Int) - m)).slotNotice (decide (s.jg.state = .waitHeight)) .slotReady := by
  unfold State.raiseMeasured State.takeOffMeasured Lift.raised Lift.shownPile
  simp only [takeOff, State.pl_setPl, State.setPl_twice, State.jg_setPl, pile, Option.map_some, Option.getD_some]

end

theorem Jogger.withHeight_waitHeight {j : Jogger} (h : SlotHeight) (waits : j.state = .waitHeight) :
    j.withHeight h = { j with state := .ready, height := h } := by
  unfold Jogger.withHeight
  rw [waits]

theorem Jogger.withHeight_takes {j : Jogger} (h : SlotHeight)
    (takes : j.state = .jogging ∨ j.state = .stopped ∨ j.state = .failed) :
    j.withHeight h = { j with height := h } := by
  unfold Jogger.withHeight
  obtain e | e | e := takes <;> rw [e]

theorem Jogger.withHeight_keeps {j : Jogger} (h : SlotHeight) (keeps : j.state = .empty ∨ j.state = .ready) :
    j.withHeight h = j := by
  unfold Jogger.withHeight
  obtain e | e := keeps <;> rw [e]

theorem State.slotNotice_changed (s : State) (e : InfeedEvent) {q : Prop} [Decidable q] (changed : q) :
    s.slotNotice (decide q) e = s.infeedNotice e 0 := if_pos (decide_eq_true changed)

theorem State.slotNotice_unchanged (s : State) (e : InfeedEvent) {q : Prop} [Decidable q] (same : ¬q) :
    s.slotNotice (decide q) e = s := if_neg (mt of_decide_eq_true same)

/-! ### The decision (R132) -/

/-- The chosen consumer holds the grant, and its flag and the idle timer are cleared. -/
theorem Supply.grantTo_eq (h : Supply) (c : Consumer) :
    h.grantTo c =
      { h with
        reqCut := h.reqCut && decide (c ≠ .cut)
        reqLift := h.reqLift && decide (c ≠ .lift)
        reqTurn := h.reqTurn && decide (c ≠ .turn)
        holder := some c
        last := some c
        idleTimer := none } := by
  cases c <;> simp [Supply.grantTo, Supply.setRequest]

section
variable {s : State}

theorem State.decideGrant_none (unchosen : s.hs.choice s.ps.settings = none) : s.decideGrant = s ∧ s.grantOther = s := by
  unfold State.decideGrant State.grantOther
  rw [unchosen]
  exact ⟨rfl, rfl⟩

theorem State.grantOther_lift (chosen : s.hs.choice s.ps.settings = some .lift) : s.grantOther = s := by
  unfold State.grantOther
  rw [chosen]

theorem State.grantOther_eq_decideGrant (notLift : s.hs.choice s.ps.settings ≠ some .lift) :
    s.grantOther = s.decideGrant := by
  unfold State.decideGrant
  split
  · exact absurd ‹_› notLift
  · rfl

theorem State.decideGrant_cut (chosen : s.hs.choice s.ps.settings = some .cut) :
    s.decideGrant = (s.setHs (s.hs.grantTo .cut)).csGranted := by
  unfold State.decideGrant State.grantOther
  rw [chosen]

theorem State.decideGrant_turn (chosen : s.hs.choice s.ps.settings = some .turn) :
    s.decideGrant = (s.setHs (s.hs.grantTo .turn)).ptGranted := by
  unfold State.decideGrant State.grantOther
  rw [chosen]

/-- A lift short of its top-of-pile sensor starts to rise. -/
theorem State.decideGrant_lift_rises (chosen : s.hs.choice s.ps.settings = some .lift)
    (raising : s.pl.state = .raising) (below : s.lines.topOfPile = false) :
    s.decideGrant =
      (s.setHs (s.hs.grantTo .lift)).setPl { s.pl with raiseTimer := some 20000, raiseValve := true } := by
  unfold State.decideGrant
  simp only [chosen, below, Bool.false_eq_true, false_and, if_false]
  exact if_pos raising

/-- A lift already at its top-of-pile sensor is measured and gives the grant back. -/
theorem State.decideGrant_lift_measured (chosen : s.hs.choice s.ps.settings = some .lift)
    (raising : s.pl.state = .raising) (made : s.lines.topOfPile = true) :
    s.decideGrant =
      ((s.setHs (s.hs.grantTo .lift)).raiseMeasured (13000 - s.pl.platform)).releasedBy State.grantOther := by
  unfold State.decideGrant
  rw [chosen]
  exact if_pos ⟨made, raising⟩

end

/-! ### Requests (R131) -/

theorem Supply.setRequest_true_any (h : Supply) (c : Consumer) : (h.setRequest c true).anyRequest = true := by
  cases c <;> simp [Supply.setRequest, Supply.anyRequest]

/-- A supply that is asked starts when it is OFF, enabled and unlatched. -/
theorem Supply.tryStart_asked (h : Supply) (c : Consumer) (latched : Bool) :
    (h.setRequest c true).tryStart latched =
      if h.pump = .off ∧ h.enable = true ∧ latched = false then
        { h.setRequest c true with pump := .runUp, contactor := true, runUpTimer := some 2000 }
      else h.setRequest c true := by
  have asked := h.setRequest_true_any c
  obtain ⟨x, y, z, e⟩ := h.setRequest_eq c true
  rw [e] at asked ⊢
  simp only [Supply.tryStart, asked, and_true]

section
variable {s : State} {c : Consumer}

theorem State.request_known (known : s.hs.requested c = true ∨ s.hs.holder = some c) : s.request c = s := if_pos known

theorem State.request_off (unasked : s.hs.requested c = false) (free : s.hs.holder ≠ some c) (off : s.hs.pump = .off) :
    s.request c = s.setHs ((s.hs.setRequest c true).tryStart s.sm.estopLatch) := by
  unfold State.request
  rw [if_neg (not_or.mpr ⟨Bool.eq_false_iff.mp unasked, free⟩), off]
  exact State.setHs_twice s _ _

theorem State.request_ready (unasked : s.hs.requested c = false) (free : s.hs.holder ≠ some c)
    (ready : s.hs.pump = .ready) :
    s.request c = (s.setHs { s.hs.setRequest c true with idleTimer := none }).decideGrant := by
  unfold State.request
  rw [if_neg (not_or.mpr ⟨Bool.eq_false_iff.mp unasked, free⟩), ready]
  rfl

theorem State.request_waits (unasked : s.hs.requested c = false) (free : s.hs.holder ≠ some c)
    (notOff : s.hs.pump ≠ .off) (notReady : s.hs.pump ≠ .ready) : s.request c = s.setHs (s.hs.setRequest c true) := by
  unfold State.request
  rw [if_neg (not_or.mpr ⟨Bool.eq_false_iff.mp unasked, free⟩)]
  dsimp only
  split
  · exact absurd ‹_› notOff
  · exact absurd ‹_› notReady
  · rfl

end

/-! ### O53: the arbitration of the grant (R132) -/

/-- Settles O53: the choice, the decision, the measurement of a raise that ends with it, requests and releases, each
by its equations above. -/
theorem theGrantIsArbitrated : Obligations.TheGrantIsArbitrated := by
  refine ⟨fun h x c => ?_, fun s c chosen => ?_, fun s unchosen => State.decideGrant_none unchosen, fun s p n pile => ?_,
    fun s c => ?_⟩
  · intro free index rank
    have rankIsPlace : rank = fun d => (cycleAfter h.last).idxOf d := by
      funext d
      unfold rank index
      generalize h.last = l
      obtain _ | _ | _ | _ := l <;> cases d <;> rfl
    refine ⟨Supply.choice_notFree, fun isFree round => ?_, fun isFree fixed differ => ?_,
      fun _ quiet => Supply.choice_quiet quiet x⟩
    · rw [Supply.choice_free isFree, if_pos round, rankIsPlace]
      exact h.roundChoice_eq_some_iff c
    · rw [Supply.choice_free isFree, if_neg (Bool.eq_false_iff.mp fixed)]
      exact h.fixedChoice_eq_some_iff c differ
  · intro g
    have granted : s.hs.grantTo c = g := s.hs.grantTo_eq c
    refine ⟨?_, ?_, ?_, ?_, fun notLift => ?_, ?_⟩
    · rintro rfl
      rw [State.decideGrant_cut chosen, granted]
    · rintro rfl
      rw [State.decideGrant_turn chosen, granted]
    · rintro rfl raising below
      rw [State.decideGrant_lift_rises chosen raising below, granted]
    · rintro rfl raising made t freed
      have supply : t.hs = g := State.raiseMeasured_hs _ _
      have store : t.ps = s.ps := State.raiseMeasured_ps _ _
      have measured : s.decideGrant = t.releasedBy State.grantOther := by
        rw [State.decideGrant_lift_measured chosen raising made, granted]
      have stopIs : t.hs.stopPending = s.hs.stopPending := (congrArg Supply.stopPending supply :)
      have waitIs : t.hs.anyRequest = g.anyRequest := congrArg Supply.anyRequest supply
      rw [measured]
      refine ⟨fun stop => ?_, fun goesOn waits => ?_, fun goesOn quiet => ?_⟩
      · rw [State.releasedBy_stop _ (stopIs.trans stop), supply]
        rfl
      · rw [State.releasedBy_waiting _ (stopIs.trans goesOn) (waitIs.trans waits), supply]
      · rw [State.releasedBy_quiet _ (stopIs.trans goesOn) (waitIs.trans quiet), supply, store]
    · exact State.grantOther_eq_decideGrant (by rw [chosen]; exact fun e => notLift (Option.some_inj.mp e))
    · rintro rfl
      exact State.grantOther_lift chosen
  · intro raised known height taken noticed
    refine ⟨fun initial => State.raiseMeasured_initial n pile initial, fun takeOff => ?_⟩
    have record : p.takeOff n = taken := rfl
    have load : p.takeOffHeight n = height := rfl
    rw [State.raiseMeasured_takeOff n pile takeOff, record, load]
    refine ⟨fun waits => ?_, fun takes => ?_, fun keeps => ?_⟩
    · rw [Jogger.withHeight_waitHeight _ waits, State.slotNotice_changed _ _ waits]
      rfl
    · rw [Jogger.withHeight_takes _ takes, State.slotNotice_unchanged]
      · rfl
      · obtain e | e | e := takes <;> rw [e] <;> decide
    · rw [Jogger.withHeight_keeps _ keeps, State.slotNotice_unchanged]
      · rfl
      · obtain e | e := keeps <;> rw [e] <;> decide
  · intro asked free
    refine ⟨State.request_known, fun unasked unheld => ⟨fun off enabled unlatched => ?_, fun off barred => ?_,
      State.request_ready unasked unheld, State.request_waits unasked unheld⟩, (if_neg ·), fun holds => ?_⟩
    · rw [State.request_off unasked unheld off, Supply.tryStart_asked, if_pos ⟨off, enabled, unlatched⟩]
    · rw [State.request_off unasked unheld off, Supply.tryStart_asked, if_neg]
      rintro ⟨-, enabled, unlatched⟩
      simp [enabled, unlatched] at barred
    · rw [State.release_holder holds]
      exact ⟨State.releasedBy_stop _, State.releasedBy_waiting _, State.releasedBy_quiet _⟩

end Sys2Proof.Machine
end

section
/-! PROOFS. The settings by code: what is read, what a written value is brought to and stores, and the two requests
(11, Table 63; R178 to R180). -/

namespace Sys2Proof.Machine

/-! ### Bytes of the requests' bodies -/

theorem byteOf_of_toNat (b : Byte) : byteOf b.toNat = b := by
  rw [byteOf, BitVec.ofNat_toNat, BitVec.setWidth_eq]

theorem leBytes_byte (b : Byte) : leBytes 1 b.toNat = [b] := congrArg ([·]) (byteOf_of_toNat b)

/-- The first byte of a body is its field at offset 0. -/
theorem fieldAt_head (b : Byte) (d : List Byte) : fieldAt (b :: d) 0 1 = b.toNat := fieldAt_byte rfl

/-- The four bytes behind the code are the value written. -/
theorem signedAt_behind_code {d : List Byte} (four : d.length = 4) (code : Byte) :
    signedAt (code :: d) 1 4 = signedOf 4 (leNat d) := by
  unfold signedAt fieldAt
  rw [List.drop_one, List.tail_cons, List.take_of_length_le four.le]

theorem toNat_eq_priorityCode (code : Byte) : code.toNat = priorityCode ↔ code = 10 := BitVec.toNat_inj (y := 10)

/-! ### Table 63 -/

theorem settingRange_code {code : Nat} (known : settingRange code ≠ none) : 1 ≤ code ∧ code ≤ 14 := by
  unfold settingRange at known
  split at known
  case h_14 => exact absurd rfl known
  all_goals decide

theorem settingRange_ordered {code : Nat} {r : SettingRange} (known : settingRange code = some r) :
    r.least ≤ r.greatest := by
  unfold settingRange at known
  split at known <;> cases known <;> decide

/-- The priority group has no range. -/
theorem ne_priorityCode_of_range {code : Nat} {r : SettingRange} (known : settingRange code = some r) :
    code ≠ priorityCode := by
  rintro rfl
  cases known

/-! ### The value stored for a value written (R179) -/

section
variable {r : SettingRange} (ordered : r.least ≤ r.greatest) (v : Int)
include ordered

theorem SettingRange.clamp_eq :
    r.clamp v = if v < r.least then r.least else if r.greatest < v then r.greatest else v := by
  unfold SettingRange.clamp
  split_ifs <;> omega

theorem SettingRange.clamp_within : r.least ≤ r.clamp v ∧ r.clamp v ≤ r.greatest :=
  ⟨le_max_left _ _, max_le ordered (min_le_left _ _)⟩

/-- Exactly the values of the range are stored as they were written. -/
theorem SettingRange.clamp_eq_self_iff : r.clamp v = v ↔ r.least ≤ v ∧ v ≤ r.greatest := by
  constructor
  · intro same
    exact same ▸ SettingRange.clamp_within ordered v
  · rintro ⟨low, high⟩
    rw [SettingRange.clamp, min_eq_right high, max_eq_right low]

end

/-! ### Reading after storing -/

/-- A value of its range reads back under its code: it is not negative where the store keeps a number, and 0 or 1 where
the store keeps a flag. -/
theorem Settings.get_put_same (x : Settings) {code : Nat} {r : SettingRange} {v : Int}
    (known : settingRange code = some r) (low : r.least ≤ v) (high : v ≤ r.greatest) :
    (x.put code v).get code = v := by
  have flag (zero : 0 ≤ v) (one : v ≤ 1) : (if decide (v = 1) = true then (1 : Int) else 0) = v := by
    simp only [decide_eq_true_iff]
    split <;> omega
  unfold settingRange at known
  split at known <;> cases known
  case h_3 => rfl
  case h_9 => exact flag low high
  case h_10 => exact flag low high
  all_goals exact Int.toNat_of_nonneg (le_trans (by decide) low)

/-- Each code stores in a field of its own, so a field read is the one stored in only if the codes are the same. -/
theorem Settings.get_put_other (x : Settings) {code k : Nat} (v : Int) (other : k ≠ code) :
    (x.put code v).get k = x.get k := by
  unfold Settings.put
  split
  case h_14 => rfl
  all_goals
    unfold Settings.get
    split
    all_goals trivial

theorem Settings.priority_put (x : Settings) (code : Nat) (v : Int) : (x.put code v).priority = x.priority := by
  unfold Settings.put
  split <;> rfl

/-! ### SETTING_READ (R178) -/

theorem decideSettingRead_range {code : Byte} {r : SettingRange} (known : settingRange code.toNat = some r)
    (s : State) :
    decideSettingRead [code] s =
      (s, 0x00 :: code ::
        (leInt 4 (s.ps.settings.get code.toNat) ++ leInt 4 r.least ++ leInt 4 r.greatest ++ leInt 4 r.default)) := by
  unfold decideSettingRead
  rw [fieldAt_head]
  dsimp only
  rw [if_neg (ne_priorityCode_of_range known), known, leBytes_byte]
  rfl

theorem decideSettingRead_priorities (s : State) :
    decideSettingRead [10] s =
      (s, [0x00, 0x0A] ++ leBytes 1 s.ps.settings.priorityCut ++ leBytes 1 s.ps.settings.priorityLift ++
        leBytes 1 s.ps.settings.priorityTurn ++ [0, 0, 0, 0, 0, 2, 2, 2, 0, 2, 0, 1, 0]) := rfl

theorem decideSettingRead_unknown {code : Byte} (notGroup : code ≠ 10) (unknown : settingRange code.toNat = none)
    (s : State) : decideSettingRead [code] s = (s, [0x05]) := by
  unfold decideSettingRead
  rw [fieldAt_head]
  dsimp only
  rw [if_neg (mt (toNat_eq_priorityCode code).mp notGroup), unknown]
  rfl

/-! ### O22: SETTING_READ -/

/-- Settles O22: Table 63 is the model's own, and each kind of code has its branch of the owner. -/
theorem settingReadReportsTheSetting : Obligations.SettingReadReportsTheSetting := by
  refine ⟨rfl, fun x => ⟨rfl, rfl⟩, fun _ => settingRange_code, fun s m tag code empty =>
    ⟨fun r known => ?_, fun group => ?_, fun notGroup unknown => ?_⟩⟩
  · exact decides_owner (r := .settingRead) rfl empty rfl (decideSettingRead_range known _)
  · subst group
    exact decides_owner (r := .settingRead) rfl empty rfl (decideSettingRead_priorities _)
  · exact decides_owner (r := .settingRead) rfl empty rfl (decideSettingRead_unknown notGroup unknown _)

/-! ### SETTING_WRITE (R179, R180) -/

theorem decideSettingWrite_range {code : Byte} {d : List Byte} {r : SettingRange} (four : d.length = 4)
    (known : settingRange code.toNat = some r) (s : State) :
    let v := signedOf 4 (leNat d)
    decideSettingWrite (code :: d) s =
      (s.setSettings (s.ps.settings.put code.toNat (r.clamp v)),
        (if r.least ≤ v ∧ v ≤ r.greatest then 0x00 else 0x01) :: code :: leInt 4 (r.clamp v)) := by
  unfold decideSettingWrite
  rw [fieldAt_head, signedAt_behind_code four]
  dsimp only
  rw [if_neg (ne_priorityCode_of_range known), known, leBytes_byte]
  simp only [SettingRange.clamp_eq_self_iff (settingRange_ordered known)]
  rfl

theorem decideSettingWrite_unknown {code : Byte} (notGroup : code ≠ 10) (unknown : settingRange code.toNat = none)
    (d : List Byte) (s : State) : decideSettingWrite (code :: d) s = (s, [0x05]) := by
  unfold decideSettingWrite
  rw [fieldAt_head]
  dsimp only
  rw [if_neg (mt (toNat_eq_priorityCode code).mp notGroup), unknown]
  rfl

/-- Three bytes are a permutation of 0, 1 and 2 when they are below 3 and differ. -/
theorem permutation_bytes (a b e : Byte) :
    permutation a.toNat b.toNat e.toNat = true ↔
      a.toNat < 3 ∧ b.toNat < 3 ∧ e.toNat < 3 ∧ a ≠ b ∧ b ≠ e ∧ a ≠ e := by
  simp only [permutation, decide_eq_true_iff, ne_eq, BitVec.toNat_inj]

/-- The priority group's condition and effect, on the bytes themselves. -/
theorem decideSettingWrite_group (a b e z : Byte) (s : State) :
    decideSettingWrite [10, a, b, e, z] s =
      if (a.toNat < 3 ∧ b.toNat < 3 ∧ e.toNat < 3 ∧ a ≠ b ∧ b ≠ e ∧ a ≠ e) ∧ z = 0 then
        (s.setSettings
          { s.ps.settings with priorityCut := a.toNat, priorityLift := b.toNat, priorityTurn := e.toNat },
          [0x00, 0x0A, a, b, e, 0])
      else (s, [0x05]) := by
  change writePriorities [10, a, b, e, z] s = _
  unfold writePriorities
  rw [fieldAt_byte (b := a) rfl, fieldAt_byte (b := b) rfl, fieldAt_byte (b := e) rfl, fieldAt_byte (b := z) rfl]
  have last : z.toNat = 0 ↔ z = 0 := BitVec.toNat_inj (y := 0)
  simp only [permutation_bytes, last]
  congr 1
  simp only [State.setSettings, State.ps_setPs, Settings.priorities, byteOf_of_toNat]
  rfl

/-! ### O23: SETTING_WRITE -/

/-- Settles O23: the value stored lies within its range, so it reads back, and it leaves the other codes; the priority
group has its two branches. -/
theorem settingWriteStoresOrClamps : Obligations.SettingWriteStoresOrClamps := by
  refine ⟨fun s m tag code d four empty => ⟨fun notGroup unknown => ?_, fun r known => ?_⟩,
    fun s m tag a b e z empty => ⟨fun whole => ?_, fun broken => ?_⟩⟩
  · exact decides_owner (r := .settingWrite) rfl empty (congrArg Nat.succ four)
      (decideSettingWrite_unknown notGroup unknown d _)
  · intro stored
    have ordered := settingRange_ordered known
    have nearest : r.clamp (signedOf 4 (leNat d)) = stored := SettingRange.clamp_eq ordered _
    have written (t : State) := decideSettingWrite_range four known t
    obtain ⟨low, high⟩ := SettingRange.clamp_within ordered (signedOf 4 (leNat d))
    rw [nearest] at low high
    simp only [nearest] at written
    exact ⟨s.ps.settings.put code.toNat stored,
      decides_owner (r := .settingWrite) rfl empty (congrArg Nat.succ four) (written _),
      s.ps.settings.get_put_same known low high, fun k => s.ps.settings.get_put_other stored,
      s.ps.settings.priority_put code.toNat stored⟩
  · obtain ⟨differ, rfl⟩ := whole
    exact decides_owner (r := .settingWrite) rfl empty rfl
      ((decideSettingWrite_group ..).trans (if_pos ⟨differ, rfl⟩))
  · exact decides_owner (r := .settingWrite) rfl empty rfl ((decideSettingWrite_group ..).trans (if_neg broken))

end Sys2Proof.Machine
end

section
/-! SUPPORT. What a step can do, said once: every command is a frame of the host link, a byte, a sent frame, a soft
reset, a power-on, or an event of the machine side; and what a law has to keep for every step to keep it. -/

namespace Sys2Proof.Machine

/-! ### The events of the machine side -/

/-- The effect of a machine-side row, and the lines it samples; none for the other rows. -/
def eventOf : Instr → Option ((State → State) × Lines)
  | .confirmButton m => some (fun x => x.confirmed.getD x, m)
  | .jogStartButton m => some (State.jogButton, m)
  | .pedalPressed m => some (State.pedalDown, m)
  | .pedalReleased m => some (State.pedalUp, m)
  | .pedalDwellExpiry m => some (State.pedalDwellExpired, m)
  | .reversalDwellExpiry m => some (State.dwellEnded, m)
  | .segmentEnd m => some (State.gaugeSegmentEnd, m)
  | .referenceSwitchMade m => some (State.switchFound, { m with refSwitch := true })
  | .referenceSwitchesReleased m =>
    some (State.switchesReleased, { m with refSwitch := false, rearOvertravel := false })
  | .followingError m lag =>
    some
      (fun x => if x.servoed = true ∧ Config.followLimit < lag.natAbs then x.gaugeFault .followingError lag else x,
        m)
  | .overtravel m => some (fun x => if x.bg.state = .fault then x else x.gaugeFault .overtravel x.bg.actual, m)
  | .inPositionLost m => some (State.positionLost, m)
  | .clampFullPressure m => some (State.fullPressure, m)
  | .clampTimeout m => some (State.clampTimedOut, m)
  | .knifeBdc m => some (State.bottomReached, m)
  | .knifeTimeout m => some (State.knifeTimedOut, m)
  | .returnEnd m => some (State.returnEnded, { m with knifeTop := true, clampUp := true })
  | .recoverEnd m => some (State.recoverEnded, { m with knifeTop := true, clampUp := true })
  | .pumpRunUpExpiry m => some (State.runUpExpired, m)
  | .pumpLockoutExpiry m => some (State.lockoutExpired, m)
  | .pumpIdleExpiry m => some (State.idleExpired, m)
  | .pressureLost m faultFirst => some (fun x => x.pressureFails faultFirst, { m with pressureOk := false })
  | .floorStopMade m => some (State.floorMade, { m with floorStop := true })
  | .topOfPileTrip m => some (fun x => x.raiseEnded (measuredHeight x.lines.platform), { m with topOfPile := true })
  | .platformAtTp m => some (fun x => x.raiseEnded 0, { m with platform := Config.transferPlane })
  | .raiseTimeout m => some (State.raiseExpired, m)
  | .jogCycleExpiry m => some (State.jogExpired, m)
  | .gripClosed m => some (State.gripClosedMade, { m with gripClosed := true })
  | .quarterMark m => some (State.quarterMade, m)
  | .parkSensorMade m => some (State.parkMade, { m with park := true })
  | .parkSensorLost m => some (State.parkLost, { m with park := false })
  | .safetyChannelChange m input channel reading now order =>
    some (fun x => x.channelReads input channel reading now order, m)
  | .discrepancyTimeout m input => some (fun x => x.discrepancyExpires input, m)
  | _ => none

theorem exec_event {c : Instr} {effect : State → State} {m : Lines} (h : eventOf c = some (effect, m)) (s : State) :
    exec c s = .next (onEvent effect m s) := by
  cases c <;> cases h <;> rfl

/-- A row that says itself what a line reads leaves the encoder's sample. -/
theorem eventOf_encoder {c : Instr} {effect : State → State} {m : Lines} (h : eventOf c = some (effect, m)) :
    m.encoder = c.lines.encoder := by
  cases c <;> cases h <;> rfl

/-- The rows that are neither frames of requests nor machine-side events. -/
theorem command_cases (c : Instr) :
    (∃ f, c.frame = some f) ∨ (∃ effect m, eventOf c = some (effect, m)) ∨
      (∃ m pedal x, c = .powerOn m pedal x) ∨ (∃ m b gap bad, c = .receiveByte m b gap bad) ∨
      (∃ m, c = .transmitEnd m) ∨ ∃ m, c = .softReset m := by
  cases c
  case powerOn m pedal x => exact .inr (.inr (.inl ⟨m, pedal, x, rfl⟩))
  case receiveByte m b gap bad => exact .inr (.inr (.inr (.inl ⟨m, b, gap, bad, rfl⟩)))
  case transmitEnd m => exact .inr (.inr (.inr (.inr (.inl ⟨m, rfl⟩))))
  case softReset m => exact .inr (.inr (.inr (.inr (.inr ⟨m, rfl⟩))))
  all_goals first
    | exact .inl ⟨_, rfl⟩
    | exact .inr (.inl ⟨_, _, rfl⟩)

theorem step_eq {s : State} {c : Instr} {rest : List Instr} (h : s.pending = c :: rest) :
    step s = exec c (s.setPending rest) := by
  unfold step
  rw [h]

/-! ### Laws that have nothing to do with the link -/

/-- The blocks' responses to a soft reset, before they settle (R16). -/
def State.resetBlocks (s : State) : State :=
  ((((((s.setLi Link.softReset).runnerReset).gaugeReset).csReset).supplyReset).jogReset).ptReset

/-- The blocks at power-on with the reports they make, before they settle (R164, R155). -/
def State.powerOnReports (s : State) (m : Lines) (pedal : Bool) (x : AllReadings) : State :=
  let s1 := (s.powerOnBlocks m pedal x).safetyNotice .powerOn
  if m.park then s1 else s1.reportFault .notParked 0

/-- What a law asks of the parts of a step: `P` holds once the lines are sampled, `Q` at the end. Neither looks at the
link. -/
structure StepLaw (P Q : State → Prop) : Prop where
  weaken : ∀ {s}, P s → Q s
  linkP : ∀ {s} x, P s → P (s.setLi x)
  linkQ : ∀ {s} x, Q s → Q (s.setLi x)
  close : ∀ r {s}, P s → P (s.closeFor r)
  owner : ∀ r body {s}, P s → Q (decideOwner r body (s.closeFor r)).1
  settle : ∀ {s}, Q s → Q s.settle
  reset : ∀ {s}, P s → Q s.resetBlocks

variable {P Q : State → Prop}

theorem StepLaw.kick (law : StepLaw P Q) {s : State} (h : Q s) : Q s.kick := law.linkQ _ h

theorem StepLaw.decideFrame (law : StepLaw P Q) (f : Frame) {s : State} (h : P s) : Q (decideFrame f s).1 := by
  unfold Machine.decideFrame
  split
  · exact law.weaken h
  · split
    · exact law.owner _ _ h
    · exact law.weaken (law.close _ h)

theorem StepLaw.decideHead (law : StepLaw P Q) {s : State} (h : P s) : Q s.decideHead := by
  unfold State.decideHead
  split
  · exact law.settle (law.linkQ _ (law.decideFrame _ h))
  · exact law.weaken h

theorem StepLaw.acceptFrame (law : StepLaw P Q) (f : Frame) {s : State} (h : P s) : Q (s.acceptFrame f) := by
  unfold State.acceptFrame
  split
  · split
    · exact law.kick (law.decideHead (law.linkP _ h))
    · exact law.kick (law.weaken (law.linkP _ h))
  · exact law.kick (law.weaken (law.linkP _ h))

theorem StepLaw.byteArrives (law : StepLaw P Q) (b : Byte) (gap : Nat) (bad : Bool) {s : State} (h : P s) :
    Q (s.byteArrives b gap bad) := by
  unfold State.byteArrives
  split
  · exact law.weaken (law.linkP _ h)
  · exact law.acceptFrame _ (law.linkP _ h)

theorem StepLaw.softReset (law : StepLaw P Q) {s : State} (h : P s) : Q s.softReset :=
  law.kick (law.settle (law.reset h))

theorem StepLaw.frameSent (law : StepLaw P Q) {s : State} (h : P s) : Q s.frameSent := by
  unfold State.frameSent
  split
  · exact law.weaken h
  · exact law.weaken (law.linkP _ h)
  · exact law.weaken (law.linkP _ h)
  · split
    · exact law.softReset h
    · exact law.linkQ _ (law.decideHead (law.linkP _ h))

/-- A law is kept by a command when power-on makes it, its parts keep it, and the event that the command is keeps
it. -/
theorem StepLaw.exec (law : StepLaw P Q) {c : Instr} {s : State}
    (sampled : ∀ m : Lines, m.encoder = c.lines.encoder → P (s.sample m))
    (powered : ∀ m pedal x, Q (s.powerOnReports m pedal x))
    (event : ∀ effect m, eventOf c = some (effect, m) → P (s.sample m) → Q (effect (s.sample m))) :
    ∃ t, exec c s = .next t ∧ Q t := by
  obtain ⟨f, hf⟩ | ⟨e, m, he⟩ | ⟨m, pedal, x, rfl⟩ | ⟨m, b, gap, bad, rfl⟩ | ⟨m, rfl⟩ | ⟨m, rfl⟩ := command_cases c
  · exact ⟨_, exec_frame s hf, law.acceptFrame f (sampled _ rfl)⟩
  · exact ⟨_, exec_event he s, law.kick (law.settle (event e m he (sampled m (eventOf_encoder he))))⟩
  · exact ⟨_, rfl, law.kick (law.settle (powered m pedal x))⟩
  · exact ⟨_, rfl, law.byteArrives b gap bad (sampled m rfl)⟩
  · exact ⟨_, rfl, law.frameSent (sampled m rfl)⟩
  · exact ⟨_, rfl, law.softReset (sampled m rfl)⟩

/-- So it is by a step, which takes the command away from those that wait. -/
theorem StepLaw.step (law : StepLaw P Q) {s t : State} (idle : s.pending = [] → Q s)
    (sampled : ∀ c rest, s.pending = c :: rest → ∀ m : Lines, m.encoder = c.lines.encoder →
      P ((s.setPending rest).sample m))
    (powered : ∀ rest m pedal x, Q ((s.setPending rest).powerOnReports m pedal x))
    (event : ∀ c rest effect m, s.pending = c :: rest → eventOf c = some (effect, m) →
      P ((s.setPending rest).sample m) → Q (effect ((s.setPending rest).sample m)))
    (h : step s = .next t) : Q t := by
  cases hp : s.pending with
  | nil =>
    have stays : Machine.step s = .next s := by
      unfold Machine.step
      rw [hp]
    rw [stays] at h
    cases h
    exact idle hp
  | cons c rest =>
    rw [step_eq hp] at h
    obtain ⟨x, ex, hx⟩ := law.exec (sampled c rest hp) (powered rest) fun e m he => event c rest e m hp he
    rw [ex] at h
    cases h
    exact hx

end Sys2Proof.Machine
end

section
/-! SUPPORT. What every event, decision and soft reset leaves alone (`Kept`), for all of them at once. -/

namespace Sys2Proof.Machine

theorem Kept.sameSm {s t : State} (h : Kept False s t) : ∃ x, Kept False (s.setSm x) t :=
  ⟨s.sm, h⟩

/-- An event of the machine side leaves alone what `Kept` says, the Safety Monitor apart. -/
theorem kept_event {c : Instr} {effect : State → State} {m : Lines} (h : eventOf c = some (effect, m)) (s : State) :
    ∃ x, Kept False (s.setSm x) (effect s) := by
  have same := Kept.refl False s
  cases c <;> cases h
  case confirmButton =>
    refine Kept.sameSm ?_
    dsimp only
    cases e : s.confirmed with
    | none => exact same
    | some t => exact kept_confirmed same t e
  case jogStartButton => exact (kept_jogButton same).sameSm
  case pedalPressed => exact (kept_pedalDown same).sameSm
  case pedalReleased => exact (kept_pedalUp same).sameSm
  case pedalDwellExpiry => exact (kept_pedalDwellExpired same).sameSm
  case reversalDwellExpiry => exact (kept_dwellEnded same).sameSm
  case segmentEnd => exact (kept_gaugeSegmentEnd same).sameSm
  case referenceSwitchMade => exact (kept_switchFound same).sameSm
  case referenceSwitchesReleased => exact (kept_switchesReleased same).sameSm
  case followingError =>
    dsimp only
    split
    · exact (kept_gaugeFault _ _ same).sameSm
    · exact same.sameSm
  case overtravel =>
    dsimp only
    split
    · exact same.sameSm
    · exact (kept_gaugeFault _ _ same).sameSm
  case inPositionLost => exact (kept_positionLost same).sameSm
  case clampFullPressure => exact (kept_fullPressure same).sameSm
  case clampTimeout => exact (kept_clampTimedOut same).sameSm
  case knifeBdc => exact (kept_bottomReached same).sameSm
  case knifeTimeout => exact (kept_knifeTimedOut same).sameSm
  case returnEnd => exact (kept_returnEnded same).sameSm
  case recoverEnd => exact (kept_recoverEnded same).sameSm
  case pumpRunUpExpiry => exact (kept_runUpExpired same).sameSm
  case pumpLockoutExpiry => exact (kept_lockoutExpired same).sameSm
  case pumpIdleExpiry => exact (kept_idleExpired same).sameSm
  case pressureLost => exact (kept_pressureFails _ same).sameSm
  case floorStopMade => exact (kept_floorMade same).sameSm
  case topOfPileTrip => exact (kept_raiseEnded _ same).sameSm
  case platformAtTp => exact (kept_raiseEnded _ same).sameSm
  case raiseTimeout => exact (kept_raiseExpired same).sameSm
  case jogCycleExpiry => exact (kept_jogExpired same).sameSm
  case gripClosed => exact (kept_gripClosedMade same).sameSm
  case quarterMark => exact (kept_quarterMade same).sameSm
  case parkSensorMade => exact (kept_parkMade same).sameSm
  case parkSensorLost => exact (kept_parkLost same).sameSm
  case safetyChannelChange => exact kept_channelReads _ _ _ _ _ same
  case discrepancyTimeout => exact kept_discrepancyExpires _ same

theorem kept_resetBlocks (s : State) : Kept False (s.setLi Link.softReset) s.resetBlocks :=
  kept_ptReset (kept_jogReset (kept_supplyReset (kept_csReset (kept_gaugeReset
      (kept_runnerReset (Kept.refl False _))))))

theorem kept_powerOnReports (s : State) (m : Lines) (pedal : Bool) (x : AllReadings) :
    Kept False (s.powerOnBlocks m pedal x) (s.powerOnReports m pedal x) := by
  have notice := kept_safetyNotice .powerOn (Kept.refl False (s.powerOnBlocks m pedal x))
  unfold State.powerOnReports
  dsimp only
  split
  · exact notice
  · exact kept_reportFault _ _ notice

/-- The requests whose decision is not of the machine side: those of the store and the settings, and NOTICE_SELECT and
STATUS, which set a field of the link. -/
def Request.ofStore : Request → Bool
  | .storeOpen | .step | .replaceStep | .deleteProgram | .settingWrite | .noticeSelect | .status => true
  | _ => false

theorem decideReadProgram_state (body : List Byte) (s : State) : (decideReadProgram body s).1 = s := by
  unfold decideReadProgram
  dsimp only
  split
  · rfl
  · split
    · rfl
    · split <;> rfl

theorem decideListPrograms_state (body : List Byte) (s : State) : (decideListPrograms body s).1 = s := by
  unfold decideListPrograms
  dsimp only
  split <;> rfl

theorem decideSettingRead_state (body : List Byte) (s : State) : (decideSettingRead body s).1 = s := by
  unfold decideSettingRead
  dsimp only
  split
  · rfl
  · split <;> rfl

/-- The decision of any other request leaves alone what `Kept` says, the Safety Monitor apart. -/
theorem kept_decideOwner {r : Request} (h : r.ofStore = false) (body : List Byte) (s : State) :
    ∃ x, Kept False (s.setSm x) (decideOwner r body s).1 := by
  have same := Kept.refl False s
  cases r <;> try cases h
  case readProgram => exact (show Kept False s _ from (decideReadProgram_state body s).symm ▸ same).sameSm
  case listPrograms => exact (show Kept False s _ from (decideListPrograms_state body s).symm ▸ same).sameSm
  case settingRead => exact (show Kept False s _ from (decideSettingRead_state body s).symm ▸ same).sameSm
  case select => exact (kept_decideSelect body same).sameSm
  case run => exact (kept_decideRun body same).sameSm
  case hold => exact (kept_decideHold same).sameSm
  case skip => exact (kept_decideSkip same).sameSm
  case abort => exact (kept_decideAbort same).sameSm
  case locate => exact (kept_decideLocate body same).sameSm
  case clearFault => exact (kept_decideClearFault same).sameSm
  case lineHalt => exact (kept_decideLineHalt body same).sameSm
  case confirm => exact (kept_decideConfirm same).sameSm
  case gaugeMove => exact (kept_decideGaugeMove body same).sameSm
  case gaugeReference => exact (kept_decideGaugeReference same).sameSm
  case cutNow => exact (kept_decideCutNow body same).sameSm
  case turnNow => exact (kept_decideTurnNow body same).sameSm
  case turnerPark => exact (kept_decideTurnerPark same).sameSm
  case newPile => exact (kept_decideNewPile body same).sameSm
  case liftLower => exact (kept_decideLiftLower same).sameSm
  case jogStart => exact (kept_decideJog body same).sameSm
  case pumpOn => exact (kept_decidePumpOn same).sameSm
  case pumpOff => exact (kept_decidePumpOff same).sameSm
  case trackQuery => exact (kept_decideTrackQuery body same).sameSm
  case trackDeclare => exact (kept_decideTrackDeclare body same).sameSm
  case trackClear => exact (kept_decideTrackClear same).sameSm
  case estopAck => exact kept_decideEstopAck same
  case bladeReset => exact (kept_decideBladeReset same).sameSm
  case ident => exact same.sameSm
  case reset => exact same.sameSm

/-- Those of the store and the settings change no more than the store and the link. -/
theorem decideOwner_ofStore {r : Request} (h : r.ofStore = true) (body : List Byte) (s : State) :
    ∃ x y, (decideOwner r body s).1 = (s.setPs x).setLi y := by
  have same : ∃ x y, s = (s.setPs x).setLi y := ⟨s.ps, s.li, rfl⟩
  cases r <;> try cases h
  case storeOpen =>
    change ∃ x y, (decideStoreOpen body s).1 = (s.setPs x).setLi y
    unfold decideStoreOpen
    dsimp only
    split
    · exact same
    · split
      · exact same
      · split
        · exact same
        · exact ⟨_, s.li, rfl⟩
  case step =>
    change ∃ x y, (decideStep body s).1 = (s.setPs x).setLi y
    unfold decideStep
    split
    · exact same
    · split
      · exact same
      · split
        · exact same
        · split <;> exact ⟨_, s.li, rfl⟩
  case replaceStep =>
    change ∃ x y, (decideReplaceStep body s).1 = (s.setPs x).setLi y
    unfold decideReplaceStep
    dsimp only
    split
    · split
      · exact same
      · split
        · exact same
        · split
          · exact same
          · split
            · exact same
            · exact ⟨_, s.li, rfl⟩
    · exact same
  case deleteProgram =>
    change ∃ x y, (decideDeleteProgram body s).1 = (s.setPs x).setLi y
    unfold decideDeleteProgram
    dsimp only
    split
    · exact same
    · split
      · exact same
      · split
        · exact same
        · exact ⟨_, s.li, rfl⟩
  case settingWrite =>
    change ∃ x y, (decideSettingWrite body s).1 = (s.setPs x).setLi y
    unfold decideSettingWrite writePriorities
    dsimp only
    split
    · split
      · exact ⟨_, s.li, rfl⟩
      · exact same
    · split
      · exact same
      · exact ⟨_, s.li, rfl⟩
  case noticeSelect =>
    change ∃ x y, (decideNoticeSelect body s).1 = (s.setPs x).setLi y
    unfold decideNoticeSelect
    dsimp only
    split
    · exact ⟨s.ps, _, rfl⟩
    · exact same
  case status => exact ⟨s.ps, _, rfl⟩

/-! ### Laws every part of a step keeps -/

/-- A law that `Kept` keeps, and that looks neither at the link nor at the Safety Monitor nor at the window, is kept by
every part of a step that the store and the settings do not decide. -/
theorem stepLaw_of_kept {Q : State → Prop} (kept : ∀ {s t : State}, Kept False s t → Q s → Q t)
    (link : ∀ {s : State} x, Q s → Q (s.setLi x)) (monitor : ∀ {s : State} x, Q s → Q (s.setSm x))
    (close : ∀ {s : State}, Q s → Q s.closeWindow)
    (stored : ∀ r : Request, r.ofStore = true → ∀ body {s : State}, Q s → Q (decideOwner r body (s.closeFor r)).1) :
    StepLaw Q Q := by
  have closes : ∀ r {s : State}, Q s → Q (s.closeFor r) := fun r {s} h => by
    unfold State.closeFor
    split
    · exact h
    · exact close h
  refine ⟨id, link, link, closes, fun r body {s} h => ?_, fun {s} h => kept (kept_settle (Kept.refl False s)) h,
    fun {s} h => kept (kept_resetBlocks s) (link _ h)⟩
  cases hr : r.ofStore with
  | true => exact stored r hr body h
  | false =>
    obtain ⟨x, k⟩ := kept_decideOwner hr body (s.closeFor r)
    exact kept k (monitor x (closes r h))

end Sys2Proof.Machine
end

section
/-! SUPPORT. The program list (R17, R18): what is read after a program is stored or removed, the order of the numbers,
and the units of the pool. -/

namespace Sys2Proof.Machine

/-- Program numbers strictly rising (R17). -/
abbrev Rising (l : List (Nat × Program)) : Prop := l.Pairwise fun a b => a.1 < b.1

/-! ### Looking up -/

theorem progLookup_mem {l : List (Nat × Program)} {n : Nat} {p : Program} (h : progLookup l n = some p) :
    (n, p) ∈ l := by
  induction l with
  | nil => cases h
  | cons e rest ih =>
    obtain ⟨k, q⟩ := e
    unfold progLookup at h
    split at h
    · subst k
      cases h
      exact List.mem_cons_self
    · exact List.mem_cons_of_mem _ (ih h)

/-- A number that no entry has is not found. -/
theorem progLookup_none {l : List (Nat × Program)} {n : Nat} (h : ∀ e ∈ l, e.1 ≠ n) : progLookup l n = none := by
  cases e : progLookup l n with
  | none => rfl
  | some p => exact absurd rfl (h _ (progLookup_mem e))

/-- Below the first of the rising numbers nothing is found. -/
theorem progLookup_below {l : List (Nat × Program)} {n k : Nat} {p : Program} (rising : Rising ((k, p) :: l))
    (h : n ≤ k) : progLookup l n = none :=
  progLookup_none fun e he => by
    have := List.rel_of_pairwise_cons rising he
    omega

/-! ### Storing -/

/-- What is stored under a number is read back, and every other number reads as before. -/
theorem progLookup_progInsert (l : List (Nat × Program)) (n k : Nat) (p : Program) :
    progLookup (progInsert l n p) k = if k = n then some p else progLookup l k := by
  induction l with
  | nil => simp [progInsert, progLookup, eq_comm]
  | cons e rest ih =>
    obtain ⟨j, q⟩ := e
    unfold progInsert
    split
    · rw [progLookup]
      simp only [eq_comm]
    · split
      · subst j
        simp only [progLookup, eq_comm (a := n)]
        split <;> rfl
      · simp only [progLookup, ih]
        split
        · subst j
          rw [if_neg (by omega)]
        · rfl

theorem mem_progInsert {l : List (Nat × Program)} {n : Nat} {p : Program} {e : Nat × Program}
    (h : e ∈ progInsert l n p) : e = (n, p) ∨ e ∈ l := by
  induction l with
  | nil => exact .inl (List.mem_singleton.mp h)
  | cons a rest ih =>
    obtain ⟨k, q⟩ := a
    unfold progInsert at h
    split at h
    · exact List.mem_cons.mp h
    · split at h
      · exact (List.mem_cons.mp h).imp id (List.mem_cons_of_mem _)
      · obtain rfl | h := List.mem_cons.mp h
        · exact .inr List.mem_cons_self
        · exact (ih h).imp id (List.mem_cons_of_mem _)

theorem rising_progInsert {l : List (Nat × Program)} (n : Nat) (p : Program) (h : Rising l) :
    Rising (progInsert l n p) := by
  induction l with
  | nil => exact List.pairwise_singleton _ _
  | cons a rest ih =>
    obtain ⟨k, q⟩ := a
    obtain ⟨above, tail⟩ := List.pairwise_cons.mp h
    unfold progInsert
    split
    · refine List.pairwise_cons.mpr ⟨fun e he => ?_, h⟩
      obtain rfl | he := List.mem_cons.mp he
      · assumption
      · exact lt_trans ‹n < k› (above e he)
    · split
      · subst k
        exact List.pairwise_cons.mpr ⟨above, tail⟩
      · refine List.pairwise_cons.mpr ⟨fun e he => ?_, ih tail⟩
        obtain rfl | he := mem_progInsert he
        · show k < n
          omega
        · exact above e he

/-- The units in use are those of before, with the program's units in place of those it had. -/
theorem usedUnits_progInsert {l : List (Nat × Program)} (n : Nat) (p : Program) (h : Rising l) :
    usedUnits (progInsert l n p) + ((progLookup l n).map Program.units).getD 0 = usedUnits l + p.units := by
  induction l with
  | nil => simp [progInsert, progLookup, usedUnits]
  | cons a rest ih =>
    obtain ⟨k, q⟩ := a
    have tail := (List.pairwise_cons.mp h).2
    unfold progInsert
    split
    · rw [progLookup, if_neg (by omega), progLookup_below h (by omega)]
      simp [usedUnits]
      omega
    · split
      · subst k
        simp [progLookup, usedUnits]
        omega
      · have := ih tail
        rw [progLookup, if_neg (by omega)]
        simp only [usedUnits, List.map_cons, List.sum_cons] at this ⊢
        omega

/-! ### Removing -/

theorem mem_progErase {l : List (Nat × Program)} {n : Nat} {e : Nat × Program} (h : e ∈ progErase l n) : e ∈ l := by
  induction l with
  | nil => exact h
  | cons a rest ih =>
    obtain ⟨k, q⟩ := a
    unfold progErase at h
    split at h
    · exact List.mem_cons_of_mem _ h
    · obtain rfl | h := List.mem_cons.mp h
      · exact List.mem_cons_self
      · exact List.mem_cons_of_mem _ (ih h)

theorem rising_progErase {l : List (Nat × Program)} (n : Nat) (h : Rising l) : Rising (progErase l n) := by
  induction l with
  | nil => exact h
  | cons a rest ih =>
    obtain ⟨k, q⟩ := a
    obtain ⟨above, tail⟩ := List.pairwise_cons.mp h
    unfold progErase
    split
    · exact tail
    · exact List.pairwise_cons.mpr ⟨fun e he => above e (mem_progErase he), ih tail⟩

/-- A removed number is free, and every other number reads as before. -/
theorem progLookup_progErase {l : List (Nat × Program)} (n k : Nat) (h : Rising l) :
    progLookup (progErase l n) k = if k = n then none else progLookup l k := by
  induction l with
  | nil => simp [progErase, progLookup]
  | cons a rest ih =>
    obtain ⟨j, q⟩ := a
    have tail := (List.pairwise_cons.mp h).2
    unfold progErase
    split
    · subst j
      split
      · subst k
        exact progLookup_below h le_rfl
      · rw [progLookup, if_neg (by omega)]
    · simp only [progLookup, ih tail]
      split
      · subst j
        rw [if_neg (by omega)]
      · rfl

theorem usedUnits_progErase_le (l : List (Nat × Program)) (n : Nat) : usedUnits (progErase l n) ≤ usedUnits l := by
  induction l with
  | nil => exact le_rfl
  | cons a rest ih =>
    obtain ⟨k, q⟩ := a
    unfold progErase
    simp only [usedUnits] at ih ⊢
    split <;> simp only [List.map_cons, List.sum_cons] <;> omega

/-! ### Units of steps (R18) -/

theorem stepUnits_append (l r : List StepRec) : stepUnits (l ++ r) = stepUnits l + stepUnits r := by
  simp [stepUnits]

theorem stepUnits_take_le (l : List StepRec) (n : Nat) : stepUnits (l.take n) ≤ stepUnits l := by
  conv_rhs => rw [← List.take_append_drop n l, stepUnits_append]
  omega

/-- A replaced step takes its units in place of the old one's. -/
theorem stepUnits_set {l : List StepRec} {i : Nat} {old : StepRec} (h : l[i]? = some old) (r : StepRec) :
    stepUnits (l.set i r) + old.units = stepUnits l + r.units := by
  induction l generalizing i with
  | nil => cases h
  | cons a rest ih =>
    cases i with
    | zero =>
      obtain rfl : a = old := by simpa using h
      simp [stepUnits]
      omega
    | succ i =>
      have := ih (i := i) (by simpa using h)
      simp only [stepUnits, List.set_cons_succ, List.map_cons, List.sum_cons] at this ⊢
      omega

end Sys2Proof.Machine
end

section
/-! SUPPORT. What a decision of the store can do to its programs and its settings (R24, R26, R31, R32, R179, R180). -/

namespace Sys2Proof.Machine

variable {body : List Byte} {s : State}

/-! ### What each request can store -/

theorem decideStoreOpen_cases (body : List Byte) (s : State) :
    (decideStoreOpen body s).1 = s ∨
      ∃ number h f n, decodeHeader (body.take 37) = some (number, h) ∧ f ≤ (s.programOr number h).steps.length ∧
        1 ≤ n ∧ n ≤ Config.maxSteps - f ∧ s.inUse number = false ∧
        (decideStoreOpen body s).1 =
          s.setPs
            { s.ps with
              programs := progInsert s.ps.programs number ⟨h, (s.programOr number h).steps.take f, false⟩
              window := some ⟨number, f, f + n⟩ } := by
  unfold decideStoreOpen
  dsimp only
  split
  · exact .inl rfl
  · rename_i number h eh
    split
    · exact .inl rfl
    · rename_i ranges
      split
      · exact .inl rfl
      · rename_i free
        push Not at ranges
        exact .inr ⟨number, h, fieldAt body 37 1, fieldAt body 38 1, eh, by omega, by omega, by omega,
            by simpa using free,
          rfl⟩

theorem decideStep_cases (body : List Byte) (s : State) :
    (decideStep body s).1 = s ∨ (decideStep body s).1 = s.closeWindow ∨
      ∃ r w p, decodeStep body = some r ∧ s.ps.window = some w ∧ s.program w.program = some p ∧
        r.units ≤ freeUnits s.ps.programs ∧
        (decideStep body s).1 =
          s.setPs
            { s.ps with
              programs :=
                progInsert s.ps.programs w.program
                  ⟨p.header, p.steps ++ [r], decide (w.pointer + 1 = w.endIndex)⟩
              window := if w.pointer + 1 = w.endIndex then none else some { w with pointer := w.pointer + 1 } } := by
  unfold decideStep
  split
  · exact .inl rfl
  · rename_i r er
    split
    · exact .inl rfl
    · rename_i w ew
      split
      · exact .inl rfl
      · rename_i p ep
        split
        · exact .inr (.inl rfl)
        · exact .inr (.inr ⟨r, w, p, er, ew, ep, by omega, by simp [take]⟩)

theorem decideReplaceStep_cases (body : List Byte) (s : State) :
    (decideReplaceStep body s).1 = s ∨
      ∃ n i r p old, 1 ≤ n ∧ n ≤ Config.maxProgram ∧ decodeStep (body.drop 2) = some r ∧ s.program n = some p ∧
        p.steps[i]? = some old ∧ r.units ≤ old.units + freeUnits s.ps.programs ∧
        (decideReplaceStep body s).1 =
          s.setPrograms (progInsert s.ps.programs n { p with steps := p.steps.set i r }) := by
  unfold decideReplaceStep
  dsimp only
  split
  · rename_i r en er
    obtain ⟨low, high⟩ := of_decide_eq_true en
    split
    · exact .inl rfl
    · rename_i p ep
      split
      · exact .inl rfl
      · rename_i old eo
        split
        · exact .inl rfl
        · split
          · exact .inl rfl
          · exact .inr ⟨_, _, r, p, old, low, high, er, ep, eo, by omega, rfl⟩
  · exact .inl rfl

theorem decideDeleteProgram_cases (body : List Byte) (s : State) :
    (decideDeleteProgram body s).1 = s ∨
      ∃ n, s.inUse n = false ∧ (decideDeleteProgram body s).1 = s.setPrograms (progErase s.ps.programs n) := by
  unfold decideDeleteProgram
  dsimp only
  split
  · exact .inl rfl
  · split
    · exact .inl rfl
    · split
      · exact .inl rfl
      · rename_i free
        exact .inr ⟨_, by simpa using free, rfl⟩

theorem decideSettingWrite_cases (body : List Byte) (s : State) :
    (decideSettingWrite body s).1 = s ∨
      (∃ a b c, permutation a b c = true ∧ (decideSettingWrite body s).1 =
        s.setSettings { s.ps.settings with priorityCut := a, priorityLift := b, priorityTurn := c }) ∨
      ∃ code r v, settingRange code = some r ∧
        (decideSettingWrite body s).1 = s.setSettings (s.ps.settings.put code (r.clamp v)) := by
  unfold decideSettingWrite writePriorities
  dsimp only
  split
  · split
    · rename_i ok
      exact .inr (.inl ⟨_, _, _, ok.1, rfl⟩)
    · exact .inl rfl
  · split
    · exact .inl rfl
    · exact .inr (.inr ⟨_, _, _, ‹_›, rfl⟩)

/-! ### What a record accepted carries -/

theorem decodeStep_accepted {b : List Byte} {r : StepRec} (h : decodeStep b = some r) : r.accepted = true := by
  unfold decodeStep at h
  split at h
  · dsimp only at h
    split at h
    · cases h
      assumption
    · cases h
  · cases h

theorem decodeHeader_accepted {b : List Byte} {n : Nat} {h : Header} (e : decodeHeader b = some (n, h)) :
    1 ≤ n ∧ n ≤ Config.maxProgram ∧ h.accepted = true := by
  unfold decodeHeader at e
  simp only [Option.ite_none_right_eq_some, Option.some.injEq, Prod.mk.injEq] at e
  obtain ⟨⟨low, high, -, -, ok⟩, rfl, rfl⟩ := e
  exact ⟨low, high, ok⟩

/-! ### The law of the store (R17 to R22, R176) -/

theorem StoreOk.noWindow {x : Store} (h : StoreOk x) : StoreOk { x with window := none } :=
  ⟨h.rising, h.numbers, h.programs, h.pool, nofun, h.settings⟩

theorem StoreOk.program {x : Store} (h : StoreOk x) {n : Nat} {p : Program} (e : progLookup x.programs n = some p) :
    1 ≤ n ∧ n ≤ Config.maxProgram ∧ ProgramOk p :=
  have inside := progLookup_mem e
  ⟨(h.numbers _ inside).1, (h.numbers _ inside).2, h.programs _ inside⟩

/-- No program has number 0 (R17). -/
theorem StoreOk.zero {x : Store} (h : StoreOk x) : progLookup x.programs 0 = none :=
  progLookup_none fun e he => by
    have := (h.numbers e he).1
    omega

/-- A program that the store accepts, stored where the pool can hold it, keeps the law. -/
theorem StoreOk.insert {x : Store} (h : StoreOk x) {n : Nat} {p : Program} {w : Option Window} (low : 1 ≤ n)
    (high : n ≤ Config.maxProgram) (ok : ProgramOk p)
    (pool : p.units ≤ ((progLookup x.programs n).map Program.units).getD 0 + freeUnits x.programs)
    (window : ∀ y, w = some y → WindowOk (progInsert x.programs n p) y) :
    StoreOk { x with programs := progInsert x.programs n p, window := w } where
  rising := rising_progInsert n p h.rising
  numbers := fun e he => by
    obtain rfl | he := mem_progInsert he
    · exact ⟨low, high⟩
    · exact h.numbers e he
  programs := fun e he => by
    obtain rfl | he := mem_progInsert he
    · exact ok
    · exact h.programs e he
  pool := by
    have := usedUnits_progInsert n p h.rising
    have := h.pool
    simp only [freeUnits] at pool
    show usedUnits (progInsert x.programs n p) ≤ Config.poolUnits
    omega
  window := window
  settings := h.settings

theorem StoreOk.erase {x : Store} (h : StoreOk x) (n : Nat) :
    StoreOk { x with programs := progErase x.programs n, window := none } :=
  ⟨rising_progErase n h.rising, fun e he => h.numbers e (mem_progErase he), fun e he => h.programs e (mem_progErase he),
    (usedUnits_progErase_le _ n).trans h.pool, nofun, h.settings⟩

theorem StoreOk.withSettings {x : Store} (h : StoreOk x) {y : Settings} (ok : SettingsOk y) :
    StoreOk { x with settings := y } :=
  ⟨h.rising, h.numbers, h.programs, h.pool, h.window, ok⟩

theorem storeOk_decideStoreOpen (body : List Byte) {s : State} (h : StoreOk s.ps) :
    StoreOk (decideStoreOpen body s).1.ps := by
  obtain e | ⟨number, hd, f, n, eh, hf, n1, n2, -, e⟩ := decideStoreOpen_cases body s <;> rw [e]
  · exact h
  · obtain ⟨low, high, accepted⟩ := decodeHeader_accepted eh
    have old : (s.programOr number hd).steps.length ≤ Config.maxSteps ∧
        (∀ r ∈ (s.programOr number hd).steps, r.accepted = true) ∧
        stepUnits (s.programOr number hd).steps ≤ ((s.program number).map Program.units).getD 0 := by
      unfold State.programOr
      cases ep : s.program number with
      | none => exact ⟨Nat.zero_le _, nofun, le_rfl⟩
      | some p =>
        obtain ⟨-, -, -, short, ok⟩ := h.program ep
        exact ⟨short, ok, le_rfl⟩
    obtain ⟨short, ok, units⟩ := old
    simp only [Config.maxSteps] at short n2 ⊢
    refine h.insert low high ⟨accepted, ?_, fun r hr => ok r (List.mem_of_mem_take hr)⟩ ?_ ?_
    · simp only [List.length_take, Config.maxSteps]
      omega
    · exact ((stepUnits_take_le _ f).trans units).trans (Nat.le_add_right _ _)
    · rintro w ⟨⟩
      refine ⟨_, by rw [progLookup_progInsert, if_pos rfl], rfl, ?_, ?_, ?_⟩
      · simpa using hf
      · show f < f + n
        omega
      · show f + n ≤ Config.maxSteps
        simp only [Config.maxSteps]
        omega

theorem storeOk_decideStep (body : List Byte) {s : State} (h : StoreOk s.ps) : StoreOk (decideStep body s).1.ps := by
  obtain e | e | ⟨r, w, p, er, ew, ep, room, e⟩ := decideStep_cases body s <;> rw [e]
  · exact h
  · exact h.noWindow
  · obtain ⟨low, high, header, short, ok⟩ := h.program ep
    obtain ⟨p', ep', -, pointer, inside, last⟩ := h.window w ew
    obtain rfl : p = p' := Option.some.inj (ep.symm.trans ep')
    refine h.insert low high ⟨header, ?_, fun x hx => ?_⟩ ?_ fun y hy => ?_
    · simp only [List.length_append, List.length_singleton]
      omega
    · obtain hx | hx := List.mem_append.mp hx
      · exact ok x hx
      · exact List.mem_singleton.mp hx ▸ decodeStep_accepted er
    · rw [ep', Option.map_some, Option.getD_some]
      show stepUnits (p.steps ++ [r]) ≤ stepUnits p.steps + _
      rw [stepUnits_append, show stepUnits [r] = r.units by simp [stepUnits]]
      omega
    · split at hy
      · cases hy
      · rename_i open_
        cases hy
        refine ⟨_, by rw [progLookup_progInsert, if_pos rfl], decide_eq_false open_, by simp [pointer], ?_, last⟩
        show w.pointer + 1 < w.endIndex
        omega

theorem storeOk_decideReplaceStep (body : List Byte) {s : State} (h : StoreOk s.ps) (closed : s.ps.window = none) :
    StoreOk (decideReplaceStep body s).1.ps := by
  obtain e | ⟨n, i, r, p, old, low, high, er, ep, eo, room, e⟩ := decideReplaceStep_cases body s <;> rw [e]
  · exact h
  · obtain ⟨-, -, header, short, ok⟩ := h.program ep
    refine h.insert low high ⟨header, by simpa using short, fun x hx => ?_⟩ ?_ (by rw [closed]; nofun)
    · obtain hx | rfl := List.mem_or_eq_of_mem_set hx
      · exact ok x hx
      · exact decodeStep_accepted er
    · have units := stepUnits_set eo r
      rw [show progLookup s.ps.programs n = some p from ep, Option.map_some, Option.getD_some]
      simp only [Program.units]
      omega

theorem storeOk_decideDeleteProgram (body : List Byte) {s : State} (h : StoreOk s.ps) (closed : s.ps.window = none) :
    StoreOk (decideDeleteProgram body s).1.ps := by
  obtain e | ⟨n, -, e⟩ := decideDeleteProgram_cases body s <;> rw [e]
  · exact h
  · have := h.erase n
    rw [← closed] at this
    exact this

/-- A value brought to its range, or a permutation of the priorities, keeps the settings' law (R176). -/
theorem storeOk_decideSettingWrite (body : List Byte) {s : State} (h : StoreOk s.ps) :
    StoreOk (decideSettingWrite body s).1.ps := by
  obtain ⟨ranges, priorities⟩ := h.settings
  obtain e | ⟨a, b, c, perm, e⟩ | ⟨code, r, v, known, e⟩ := decideSettingWrite_cases body s <;> rw [e]
  · exact h
  · exact h.withSettings ⟨fun k r' hk => by
      have same : Settings.get
          { s.ps.settings with priorityCut := a, priorityLift := b, priorityTurn := c } k = s.ps.settings.get k := by
        unfold Settings.get
        split <;> rfl
      rw [same]
      exact ranges k r' hk, perm⟩
  · obtain ⟨low, high⟩ := SettingRange.clamp_within (settingRange_ordered known) v
    refine h.withSettings ⟨fun k r' hk => ?_, ?_⟩
    · by_cases same : k = code
      · subst k
        obtain rfl : r = r' := Option.some.inj (known.symm.trans hk)
        rw [Settings.get_put_same _ known low high]
        exact ⟨low, high⟩
      · rw [Settings.get_put_other _ _ same]
        exact ranges k r' hk
    · have same := s.ps.settings.priority_put code (r.clamp v)
      have cut := congrFun same .cut
      have lift := congrFun same .lift
      have turn := congrFun same .turn
      simp only [Settings.priority] at cut lift turn
      rw [cut, lift, turn]
      exact priorities

/-- A request that does not keep the window finds it closed (R12). -/
theorem State.closeFor_window {r : Request} (h : r.keepsWindow = false) (s : State) :
    (s.closeFor r).ps.window = none := by
  unfold State.closeFor
  rw [h]
  rfl

/-- The law of the store is one that every part of a step keeps. -/
theorem storeLaw : StepLaw (fun s => StoreOk s.ps) fun s => StoreOk s.ps := by
  have closes : ∀ r {s : State}, StoreOk s.ps → StoreOk (s.closeFor r).ps := fun r {s} h => by
    unfold State.closeFor
    split
    · exact h
    · exact h.noWindow
  refine stepLaw_of_kept (fun k h => k.ps ▸ h) (fun _ h => h) (fun _ h => h) StoreOk.noWindow
    fun r hr body {s} h => ?_
  replace h := closes r h
  cases r <;> try cases hr
  case storeOpen => exact storeOk_decideStoreOpen body h
  case step => exact storeOk_decideStep body h
  case replaceStep => exact storeOk_decideReplaceStep body h (State.closeFor_window rfl s)
  case deleteProgram => exact storeOk_decideDeleteProgram body h (State.closeFor_window rfl s)
  case settingWrite => exact storeOk_decideSettingWrite body h
  case noticeSelect =>
    change StoreOk (decideNoticeSelect body _).1.ps
    unfold decideNoticeSelect
    dsimp only
    split <;> exact h
  case status => exact h

/-! ### The law of the Runner's program (R66) -/

/-- A program that is neither in use nor the window's is not the Runner's, or there is none. -/
theorem RunnerOk.unused {r : Runner} {l l' : List (Nat × Program)} (h : RunnerOk r l)
    (same : r.program ≠ 0 → progLookup l' r.program = progLookup l r.program) : RunnerOk r l' :=
  ⟨h.1, fun e => by rw [same e]; exact h.2 e⟩

theorem RunnerOk.ne_of_free {s : State} (h : RunnerOk s.pr s.ps.programs) {n : Nat} (free : s.inUse n = false)
    (e : s.pr.program ≠ 0) : s.pr.program ≠ n := by
  intro same
  have busy : s.pr.state ≠ .idle := mt h.1.mp e
  simp [State.inUse, busy, same] at free

theorem runnerOk_ofStore {r : Request} (hr : r.ofStore = true) (body : List Byte) {s : State} (store : StoreOk s.ps)
    (h : RunnerOk s.pr s.ps.programs) :
    RunnerOk (decideOwner r body s).1.pr (decideOwner r body s).1.ps.programs := by
  cases r <;> try cases hr
  case storeOpen =>
    show RunnerOk (decideStoreOpen body s).1.pr _
    obtain e | ⟨number, hd, f, n, -, -, -, -, free, e⟩ := decideStoreOpen_cases body s <;>
      simp only [decideOwner, e]
    · exact h
    · exact h.unused fun live => by
        rw [State.ps_setPs, progLookup_progInsert, if_neg (h.ne_of_free free live)]
  case step =>
    show RunnerOk (decideStep body s).1.pr _
    obtain e | e | ⟨r, w, p, -, ew, ep, -, e⟩ := decideStep_cases body s <;> simp only [decideOwner, e]
    · exact h
    · exact h
    · refine h.unused fun live => ?_
      rw [State.ps_setPs, progLookup_progInsert, if_neg]
      intro same
      obtain ⟨p1, e1, incomplete, -⟩ := store.window w ew
      obtain ⟨p2, e2, complete⟩ := h.2 live
      rw [same] at e2
      cases e1.symm.trans e2
      rw [complete] at incomplete
      cases incomplete
  case replaceStep =>
    show RunnerOk (decideReplaceStep body s).1.pr _
    obtain e | ⟨n, i, r, p, old, -, -, -, ep, -, -, e⟩ := decideReplaceStep_cases body s <;>
      simp only [decideOwner, e]
    · exact h
    · refine ⟨h.1, fun live => ?_⟩
      obtain ⟨p2, e2, complete⟩ := h.2 live
      simp only [State.setPrograms, State.pr_setPs, State.ps_setPs, progLookup_progInsert]
      split
      · rename_i same
        rw [same] at e2
        cases (show progLookup s.ps.programs n = some p from ep).symm.trans e2
        exact ⟨_, rfl, complete⟩
      · exact ⟨p2, e2, complete⟩
  case deleteProgram =>
    show RunnerOk (decideDeleteProgram body s).1.pr _
    obtain e | ⟨n, free, e⟩ := decideDeleteProgram_cases body s <;> simp only [decideOwner, e]
    · exact h
    · exact h.unused fun live => by
        simp only [State.setPrograms, State.ps_setPs]
        rw [progLookup_progErase _ _ store.rising, if_neg (h.ne_of_free free live)]
  case settingWrite =>
    show RunnerOk (decideSettingWrite body s).1.pr _
    obtain e | ⟨a, b, c, -, e⟩ | ⟨code, r, v, -, e⟩ := decideSettingWrite_cases body s <;>
      simp only [decideOwner, e] <;> exact h
  case noticeSelect =>
    change RunnerOk (decideNoticeSelect body s).1.pr (decideNoticeSelect body s).1.ps.programs
    unfold decideNoticeSelect
    dsimp only
    split <;> exact h
  case status => exact h

/-- The law of the store and that of the Runner's program together. -/
structure ProgramLaw (s : State) : Prop where
  store : StoreOk s.ps
  runner : RunnerOk s.pr s.ps.programs

theorem programLaw : StepLaw ProgramLaw ProgramLaw := by
  refine stepLaw_of_kept (fun k h => ⟨k.ps ▸ h.store, k.runner h.store.zero h.runner⟩) (fun _ h => ⟨h.1, h.2⟩)
    (fun _ h => ⟨h.1, h.2⟩) (fun h => ⟨h.store.noWindow, h.runner⟩) fun r hr body {s} h => ?_
  have closed : ProgramLaw (s.closeFor r) := by
    unfold State.closeFor
    split
    · exact h
    · exact ⟨h.store.noWindow, h.runner⟩
  exact ⟨storeLaw.owner r body h.store, runnerOk_ofStore hr body closed.store closed.runner⟩

end Sys2Proof.Machine
end

section
/-! PROOFS. The laws of the link, of the store and of the Runner's program, kept by every step. -/

namespace Sys2Proof.Machine

/-! ### O20: the store (R17 to R22, R176) -/

/-- Settles O20: the five requests that write the store keep its law, and nothing else writes it. -/
theorem storeLawIsKept : Obligations.StoreLawIsKept := fun s _ ok h =>
  storeLaw.step (fun _ => ok) (fun _ _ _ _ _ => ok)
    (fun rest m pedal x => (kept_powerOnReports (s.setPending rest) m pedal x).ps ▸ ok.noWindow)
    (fun _ _ _ _ _ he ok => by
      obtain ⟨x, k⟩ := kept_event he _
      exact Eq.mpr (congrArg StoreOk k.ps) ok) h

/-! ### O21: the Runner's program (R66) -/

/-- Settles O21: a program in use is neither truncated nor removed, and that of the window is none that runs. -/
theorem runnerProgramLawIsKept : Obligations.RunnerProgramLawIsKept := fun s t store runner h =>
  (programLaw.step (t := t) (fun _ => ⟨store, runner⟩) (fun _ _ _ _ _ => ⟨store, runner⟩)
    (fun rest m pedal x => by
      have k := kept_powerOnReports (s.setPending rest) m pedal x
      exact ⟨k.ps ▸ store.noWindow, k.runner store.zero ⟨⟨fun _ => rfl, fun _ => rfl⟩, fun e => absurd rfl e⟩⟩)
    (fun _ _ _ _ _ he ok => by
      obtain ⟨x, k⟩ := kept_event he _
      exact ⟨Eq.mpr (congrArg StoreOk k.ps) ok.store, k.runner ok.store.zero ok.runner⟩) h).runner

end Sys2Proof.Machine
end

section
/-! SUPPORT. The law of the link (R4, R5, R9, R10, R11): what a started line carries, and what a decision leaves. -/

namespace Sys2Proof.Machine

/-- The law of the link, the frame on the line apart. -/
structure LinkRest (l : Link) : Prop where
  queue : l.queue.length ≤ Config.queueFrames
  busy : l.busy.length ≤ Config.queueFrames
  notices : l.notices.length ≤ Config.noticePlaces
  lost : l.lost ≤ 65535
  mask : l.mask.toNat < 2 ^ 9
  head : l.headDecided

theorem LinkOk.rest {l : Link} (h : LinkOk l) : LinkRest l := ⟨h.queue, h.busy, h.notices, h.lost, h.mask, h.head⟩

theorem LinkRest.ok {l : Link} (h : LinkRest l) (line : l.lineFront) : LinkOk l :=
  ⟨h.queue, h.busy, h.notices, h.lost, h.mask, h.head, line⟩

/-! ### Starting the next frame (R10) -/

/-- The frame started is the front one of its source, or nothing waits. -/
theorem Link.startNext_front {l : Link} (h : l.headDecided) (noticeFirst : Bool) :
    (l.startNext noticeFirst).lineFront := by
  obtain ⟨receiver, queue, busy, notices, lost, mask, line⟩ := l
  cases busy with
  | cons f _ => rfl
  | nil =>
    cases queue with
    | nil => cases notices <;> cases noticeFirst <;> simp [Link.startNext, Link.nextFrame, Link.lineFront,
        Link.readyReply]
    | cons q rest =>
      obtain ⟨r, hr⟩ := Option.isSome_iff_exists.mp h.1
      cases notices <;> cases noticeFirst <;>
        simp [Link.startNext, Link.nextFrame, Link.lineFront, Link.readyReply, hr]

theorem LinkRest.startNext {l : Link} (h : LinkRest l) (noticeFirst : Bool) : LinkOk (l.startNext noticeFirst) :=
  LinkRest.ok ⟨h.queue, h.busy, h.notices, h.lost, h.mask, h.head⟩ (Link.startNext_front h.head noticeFirst)

theorem State.kick_li (s : State) : s.kick.li = s.li.kick := rfl

theorem Link.kick_free {l : Link} (h : l.line = none) : l.kick = l.startNext false := by
  unfold Link.kick
  rw [h]
  rfl

theorem Link.kick_sending {l : Link} {x : Sending} (h : l.line = some x) : l.kick = l := by
  unfold Link.kick
  rw [h]

theorem LinkRest.kick {l : Link} (h : LinkRest l) (line : l.line ≠ none → l.lineFront) : LinkOk l.kick := by
  cases e : l.line with
  | none =>
    rw [Link.kick_free e]
    exact h.startNext false
  | some x =>
    rw [Link.kick_sending e]
    exact h.ok (line (by rw [e]; nofun))

/-! ### What the blocks leave of the link -/

theorem LinkKept.trans {l m n : Link} (h : LinkKept l m) (k : LinkKept m n) : LinkKept l n where
  receiver := k.receiver.trans h.receiver
  queue := k.queue.trans h.queue
  busy := k.busy.trans h.busy
  line := k.line.trans h.line
  notices := by
    obtain ⟨a, ha⟩ := h.notices
    obtain ⟨b, hb⟩ := k.notices
    exact ⟨a ++ b, by rw [hb, ha, List.append_assoc]⟩
  room := k.room ∘ h.room
  lost := k.lost ∘ h.lost
  mask := k.mask ∘ h.mask

theorem LinkRest.kept {l m : Link} (h : LinkRest l) (k : LinkKept l m) : LinkRest m :=
  ⟨k.queue ▸ h.queue, k.busy ▸ h.busy, k.room h.notices, k.lost h.lost, k.mask h.mask, by
    have head := h.head
    unfold Link.headDecided at head ⊢
    rwa [k.queue]⟩

/-- New notices go behind those that wait, so the frame on a busy line stays the front one of its source. -/
theorem LinkKept.front {l m : Link} (k : LinkKept l m) (h : l.lineFront) (line : m.line ≠ none) : m.lineFront := by
  obtain ⟨more, added⟩ := k.notices
  unfold Link.lineFront Link.readyReply at h ⊢
  rw [k.line, k.queue, k.busy, added]
  rw [k.line] at line
  revert h line
  cases l.line with
  | none => exact fun _ line => absurd rfl line
  | some x =>
    obtain ⟨source, f⟩ := x
    cases source with
    | linkBusy => exact fun h _ => h
    | reply => exact fun h _ => h
    | notice =>
      intro h _
      simp only at h ⊢
      rw [List.head?_append, h]
      rfl

theorem LinkOk.kick_kept {l m : Link} (h : LinkOk l) (k : LinkKept l m) : LinkOk m.kick :=
  (h.rest.kept k).kick (k.front h.line)

/-! ### Deciding the head of the queue (R5) -/

/-- The frame at the head gets its reply, and the rest of the link is as `LinkKept` says. -/
theorem linkKept_decideHead {s : State} {f : Frame} {rest : List Queued} (h : s.li.queue = ⟨f, none⟩ :: rest) :
    ∃ r, LinkKept { s.li with queue := ⟨f, some r⟩ :: rest } s.decideHead.li := by
  refine ⟨replyFrame f (decideFrame f s).2, ?_⟩
  have decided := linkKept_decideFrame f s
  have replied : LinkKept { s.li with queue := ⟨f, some (replyFrame f (decideFrame f s).2)⟩ :: rest }
      ((decideFrame f s).1.li.setReply (replyFrame f (decideFrame f s).2)) := by
    unfold Link.setReply
    rw [decided.queue, h]
    exact ⟨decided.receiver, rfl, decided.busy, decided.line, decided.notices, decided.room, decided.lost,
      decided.mask⟩
  have e : s.decideHead = ((decideFrame f s).1.replied f (decideFrame f s).2).settle := by
    unfold State.decideHead
    rw [h]
    rfl
  rw [e]
  exact replied.trans (linkKept_settle ((decideFrame f s).1.replied f (decideFrame f s).2))

/-- A queue whose head awaits no decision is left as it is. -/
theorem decideHead_decided {s : State} (h : ∀ q, s.li.queue.head? = some q → q.reply.isSome = true) :
    s.decideHead = s := by
  unfold State.decideHead
  split
  · rename_i e
    cases h _ (by rw [e]; rfl)
  · rfl

/-! ### The link after each kind of row -/

theorem linkOk_setReceiver {l : Link} (h : LinkOk l) (x : Receiver) : LinkOk { l with receiver := x } :=
  ⟨h.queue, h.busy, h.notices, h.lost, h.mask, h.head, h.line⟩

/-- With an empty queue the line carries no reply. -/
theorem LinkOk.front_of_empty {l : Link} (h : LinkOk l) (empty : l.queue = []) (line : l.line ≠ none) (r : Frame)
    (f : Frame) : ({ l with queue := [⟨f, some r⟩] } : Link).lineFront := by
  have front := h.line
  unfold Link.lineFront Link.readyReply at front ⊢
  rw [empty] at front
  dsimp only at front ⊢
  revert front line
  cases l.line with
  | none => exact fun line => absurd rfl line
  | some x =>
    obtain ⟨source, g⟩ := x
    cases source with
    | linkBusy => exact fun _ front => front
    | notice => exact fun _ front => front
    | reply => exact fun _ front => nomatch front

/-- A frame taken behind others leaves the line as it is; with nothing on the line none would wait. -/
theorem linkOk_enqueue {l : Link} (h : LinkOk l) (waiting : l.queue ≠ []) (room : l.queue.length < Config.queueFrames)
    (f : Frame) : LinkOk (l.enqueue f).kick := by
  obtain ⟨q, rest, e⟩ := List.exists_cons_of_ne_nil waiting
  have front : (l.enqueue f).lineFront := by
    have front := h.line
    unfold Link.lineFront Link.readyReply at front ⊢
    unfold Link.enqueue
    rw [e] at front ⊢
    revert front
    dsimp only
    cases l.line with
    | none => exact fun front => nomatch front.1
    | some x => obtain ⟨source, g⟩ := x; cases source <;> exact id
  refine LinkRest.kick ⟨?_, h.busy, h.notices, h.lost, h.mask, ?_⟩ fun _ => front
  · simp only [Link.enqueue, List.length_append, List.length_singleton]
    omega
  · have head := h.head
    unfold Link.headDecided at head ⊢
    unfold Link.enqueue
    rw [e] at head ⊢
    refine ⟨head.1, fun x hx => ?_⟩
    obtain hx | hx := List.mem_append.mp hx
    · exact head.2 x hx
    · rw [List.mem_singleton.mp hx]

/-- A LINK_BUSY reply goes behind those that wait. -/
theorem linkOk_dropBusy {l : Link} (h : LinkOk l) (full : Config.queueFrames ≤ l.queue.length) (f : Frame) :
    LinkOk (l.dropBusy f).kick := by
  unfold Link.dropBusy
  split
  · rename_i room
    refine LinkRest.kick ⟨h.queue, ?_, h.notices, h.lost, h.mask, h.head⟩ fun _ => ?_
    · simp only [List.length_append, List.length_singleton]
      omega
    · have front := h.line
      unfold Link.lineFront at front ⊢
      revert front
      dsimp only
      cases l.line with
      | none =>
        rintro ⟨empty, -⟩
        rw [empty] at full
        cases full
      | some x =>
        obtain ⟨source, g⟩ := x
        cases source with
        | linkBusy =>
          intro front
          dsimp only at front ⊢
          rw [List.head?_append, front]
          rfl
        | notice => exact id
        | reply => exact id
  · exact h.rest.kick fun _ => h.line

theorem linkOk_acceptFrame {s : State} (h : LinkOk s.li) (f : Frame) : LinkOk (s.acceptFrame f).li := by
  unfold State.acceptFrame
  split
  · rename_i room
    split
    · rename_i empty
      have alone : (s.setLi (s.li.enqueue f)).li.queue = [⟨f, none⟩] := by simp [Link.enqueue, empty]
      obtain ⟨r, k⟩ := linkKept_decideHead alone
      have rest : LinkRest { s.li with queue := [⟨f, some r⟩] } :=
        ⟨Nat.succ_le_succ (Nat.zero_le _), h.busy, h.notices, h.lost, h.mask, rfl, nofun⟩
      refine (rest.kept k).kick fun line => k.front (h.front_of_empty empty ?_ r f) line
      exact k.line ▸ line
    · exact linkOk_enqueue h ‹_› room f
  · exact linkOk_dropBusy h (by omega) f

theorem linkRest_softReset : LinkRest Link.softReset :=
  ⟨Nat.zero_le _, Nat.zero_le _, Nat.zero_le _, Nat.zero_le _, by decide, trivial⟩

/-- What begins from an emptied link keeps its law. -/
theorem linkOk_afterReset {m : Link} (k : LinkKept Link.softReset m) : LinkOk m.kick :=
  (linkRest_softReset.kept k).kick fun line => absurd k.line line

theorem LinkRest.tail {l : Link} (h : LinkRest l) {busy : List Frame} {notices : List Frame}
    (b : busy.length ≤ l.busy.length) (n : notices.length ≤ l.notices.length) :
    LinkRest { l with busy := busy, notices := notices } :=
  ⟨h.queue, b.trans h.busy, n.trans h.notices, h.lost, h.mask, h.head⟩

theorem linkOk_replySent {s : State} (h : LinkOk s.li) : LinkOk s.replySent.li := by
  have short : s.li.queue.tail.length ≤ Config.queueFrames := by
    have := h.queue
    rw [List.length_tail]
    omega
  suffices rest : LinkRest (s.setLi { s.li with queue := s.li.queue.tail }).decideHead.li from rest.startNext _
  have undecided : ∀ x ∈ s.li.queue.tail, x.reply = none := by
    have head := h.head
    unfold Link.headDecided at head
    revert head
    cases s.li.queue with
    | nil => exact fun _ => nofun
    | cons q rest => exact fun head => head.2
  cases e : s.li.queue.tail with
  | nil =>
    rw [decideHead_decided (by simp)]
    exact ⟨Nat.zero_le _, h.busy, h.notices, h.lost, h.mask, trivial⟩
  | cons q rest =>
    obtain ⟨f, reply⟩ := q
    rw [e] at undecided short
    obtain rfl : reply = none := undecided _ List.mem_cons_self
    obtain ⟨r, k⟩ := linkKept_decideHead (s := s.setLi { s.li with queue := ⟨f, none⟩ :: rest }) rfl
    have decided : LinkRest { s.li with queue := ⟨f, some r⟩ :: rest } :=
      ⟨short, h.busy, h.notices, h.lost, h.mask, rfl, fun x hx => undecided x (List.mem_cons_of_mem _ hx)⟩
    exact decided.kept k

theorem linkOk_softReset (s : State) : LinkOk s.softReset.li := by
  obtain ⟨t, e, k⟩ := kept_softReset s
  rw [e, State.kick_li]
  exact linkOk_afterReset k.link

theorem linkOk_frameSent {s : State} (h : LinkOk s.li) : LinkOk s.frameSent.li := by
  have shorter (l : List Frame) : l.tail.length ≤ l.length := by simp
  unfold State.frameSent
  split
  · exact h
  · exact (h.rest.tail (shorter _) le_rfl).startNext false
  · exact (h.rest.tail le_rfl (shorter _)).startNext false
  · split
    · exact linkOk_softReset s
    · exact linkOk_replySent h

theorem linkOk_onEvent {c : Instr} {effect : State → State} {m : Lines} (he : eventOf c = some (effect, m)) {s : State}
    (h : LinkOk s.li) : LinkOk (onEvent effect m s).li := by
  obtain ⟨x, k⟩ := kept_event he (s.sample m)
  have kept : LinkKept s.li (effect (s.sample m)).settle.li := k.link.trans (linkKept_settle _)
  unfold onEvent
  rw [State.kick_li]
  exact h.kick_kept kept

theorem linkOk_byteArrives {s : State} (h : LinkOk s.li) (b : Byte) (gap : Nat) (bad : Bool) :
    LinkOk (s.byteArrives b gap bad).li := by
  unfold State.byteArrives
  split
  · exact linkOk_setReceiver h _
  · exact linkOk_acceptFrame (s := s.setLi { s.li with receiver := _ }) (linkOk_setReceiver h _) _

/-- Every command keeps the law of the link. -/
theorem linkOk_exec (c : Instr) {s : State} (h : LinkOk s.li) : ∃ t, exec c s = .next t ∧ LinkOk t.li := by
  obtain ⟨f, hf⟩ | ⟨e, m, he⟩ | ⟨m, pedal, x, rfl⟩ | ⟨m, b, gap, bad, rfl⟩ | ⟨m, rfl⟩ | ⟨m, rfl⟩ := command_cases c
  · exact ⟨_, exec_frame s hf, linkOk_acceptFrame (s := s.sample c.lines) h f⟩
  · exact ⟨_, exec_event he s, linkOk_onEvent he h⟩
  · obtain ⟨t, e, k⟩ := kept_powerOn s m pedal x
    refine ⟨_, congrArg Host.Outcome.next e, ?_⟩
    rw [State.kick_li]
    exact linkOk_afterReset k.link
  · exact ⟨_, rfl, linkOk_byteArrives (s := s.sample m) h b gap bad⟩
  · exact ⟨_, rfl, linkOk_frameSent (s := s.sample m) h⟩
  · exact ⟨_, rfl, linkOk_softReset _⟩

/-! ### The waiting commands, the gauge, the supply and the pile -/

/-- No part of a step looks at the commands that wait. -/
theorem pendingLaw (waiting : List Instr) :
    StepLaw (fun s => s.pending = waiting) fun s => s.pending = waiting := by
  refine stepLaw_of_kept (fun k h => k.pending.trans h) (fun _ h => h) (fun _ h => h) id fun r hr body {s} h => ?_
  obtain ⟨x, y, e⟩ := decideOwner_ofStore hr body (s.closeFor r)
  rw [e]
  refine Eq.trans ?_ h
  unfold State.closeFor
  split <;> rfl

/-- A law of one block that `Kept` keeps, and that is none of the store's, is kept by every part of a step. -/
theorem blockLaw {α : Type} {block : State → α} {ok : α → Prop}
    (kept : ∀ {s t : State}, Kept False s t → ok (block s) → ok (block t))
    (link : ∀ s x, block (s.setLi x) = block s) (monitor : ∀ s x, block (s.setSm x) = block s)
    (store : ∀ s x, block (s.setPs x) = block s) : StepLaw (fun s => ok (block s)) fun s => ok (block s) := by
  refine stepLaw_of_kept (fun k h => kept k h) (fun x h => (link _ x).symm ▸ h) (fun x h => (monitor _ x).symm ▸ h)
    (fun h => (store _ _).symm ▸ h) fun r hr body {s} h => ?_
  obtain ⟨x, y, e⟩ := decideOwner_ofStore hr body (s.closeFor r)
  rw [e, link, store]
  unfold State.closeFor
  split
  · exact h
  · exact (store _ _).symm ▸ h

/-- Such a law holds after every step when power-on makes it and sampling the lines keeps it. -/
theorem step_blockLaw {α : Type} {block : State → α} {ok : α → Prop}
    (law : StepLaw (fun s => ok (block s)) fun s => ok (block s))
    (kept : ∀ {s t : State}, Kept False s t → ok (block s) → ok (block t))
    (monitor : ∀ s x, block (s.setSm x) = block s) (waiting : ∀ s x, block (s.setPending x) = block s)
    (sampled : ∀ (s : State) m, ok (block s) → ok (block (s.sample m)))
    (powered : ∀ (s : State) m pedal x, ok (block (s.powerOnBlocks m pedal x))) {s t : State} (h : ok (block s))
    (e : step s = .next t) : ok (block t) :=
  law.step (fun _ => h) (fun _ rest _ m _ => sampled _ m ((waiting s rest).symm ▸ h))
    (fun rest m pedal x => kept (kept_powerOnReports _ m pedal x) (powered _ m pedal x))
    (fun _ _ _ _ _ he now => by
      obtain ⟨x, k⟩ := kept_event he _
      exact kept k ((monitor _ x).symm ▸ now)) e

theorem gaugeOk_step {s t : State} (h : GaugeOk s.bg) (e : step s = .next t) : GaugeOk t.bg :=
  step_blockLaw (block := State.bg) (ok := GaugeOk) (blockLaw Kept.gauge (fun _ _ => rfl) (fun _ _ => rfl)
      fun _ _ => rfl)
    Kept.gauge (fun _ _ => rfl) (fun _ _ => rfl) (fun _ _ h => ⟨h.flag, h.moves, h.dwells, h.inPosition, h.segments⟩)
    (fun _ _ _ _ => ⟨rfl, rfl, nofun, nofun, nofun⟩) h e

theorem supplyOk_step {s t : State} (h : SupplyOk s.hs) (e : step s = .next t) : SupplyOk t.hs :=
  step_blockLaw (block := State.hs) (ok := SupplyOk)
    (blockLaw Kept.supply (fun _ _ => rfl) (fun _ _ => rfl) fun _ _ => rfl) Kept.supply (fun _ _ => rfl)
        (fun _ _ => rfl)
    (fun _ _ h => h) (fun _ _ _ _ => ⟨fun h => absurd rfl h, rfl, rfl, rfl, nofun, nofun⟩) h e

theorem pileOk_step {s t : State} (h : PileOk s.pl) (e : step s = .next t) : PileOk t.pl :=
  step_blockLaw (block := State.pl) (ok := PileOk)
    (blockLaw Kept.pile (fun _ _ => rfl) (fun _ _ => rfl) fun _ _ => rfl) Kept.pile (fun _ _ => rfl) (fun _ _ => rfl)
    (fun _ _ h => ⟨h.law, h.initial⟩) (fun _ _ _ _ => ⟨nofun, nofun⟩) h e

end Sys2Proof.Machine
end

section
/-! PROOFS. The law of the link, kept by every step; that every command has a next state, and what a step runs. -/

namespace Sys2Proof.Machine

/-! ### O14: the link (R4, R5, R9, R10, R11) -/

/-- Settles O14: no row takes a frame off the line but the row that sends it, and what joins a list joins it behind. -/
theorem linkLawIsKept : Obligations.LinkLawIsKept := by
  intro s t ok h
  cases hp : s.pending with
  | nil =>
    unfold step at h
    rw [hp] at h
    cases h
    exact ok
  | cons c rest =>
    rw [step_eq hp] at h
    obtain ⟨x, e, done⟩ := linkOk_exec c (s := s.setPending rest) ok
    rw [e] at h
    cases h
    exact done

/-! ### O1, O2: a step runs a command, and every command answers (R90) -/

/-- Settles O1: the two branches of `step`. -/
theorem stepRunsTheFrontCommand : Obligations.StepRunsTheFrontCommand :=
  ⟨fun _ _ _ h => step_eq h, fun s h => by
    unfold step
    rw [h]⟩

/-- Settles O2: each kind of row answers, and `Kept` says that no block touches the commands that wait. -/
theorem everyCommandHasANextState : Obligations.EveryCommandHasANextState := fun _ s =>
  (pendingLaw s.pending).exec (fun _ _ => rfl) (fun m pedal x => (kept_powerOnReports s m pedal x).pending)
    fun _ _ he h => by
      obtain ⟨x, k⟩ := kept_event he _
      exact k.pending.trans h

end Sys2Proof.Machine
end

section
/-! PROOFS. The state after reset keeps every law. -/

namespace Sys2Proof.Machine

/-! ### O60: the state after reset -/

theorem settingsOk_default : SettingsOk Settings.default := by
  refine ⟨fun code r known => ?_, by decide⟩
  unfold settingRange at known
  split at known <;> cases known <;> decide

theorem linkOk_reset : LinkOk State.reset.li :=
  ⟨by decide, by decide, by decide, by decide, by decide, trivial, rfl⟩

theorem storeOk_reset : StoreOk State.reset.ps :=
  ⟨List.Pairwise.nil, nofun, nofun, by decide, nofun, settingsOk_default⟩

theorem runnerOk_reset : RunnerOk State.reset.pr State.reset.ps.programs :=
  ⟨⟨fun _ => rfl, fun _ => rfl⟩, fun h => absurd rfl h⟩

theorem gaugeOk_reset : GaugeOk State.reset.bg := ⟨rfl, rfl, nofun, nofun, nofun⟩

theorem supplyOk_reset : SupplyOk State.reset.hs := ⟨fun h => absurd rfl h, rfl, rfl, rfl, nofun, nofun⟩

theorem travelOk_reset : TravelOk State.reset :=
  ⟨nofun, nofun, nofun, nofun, nofun, by decide, nofun, nofun, nofun, nofun, nofun⟩

theorem cutOk_reset : CutOk State.reset := by
  constructor <;> decide

/-- With its lines at rest POWER_ON of the state after reset makes that state again. -/
theorem powerOn_reset :
    State.reset.powerOn Lines.atRest false
      ⟨⟨true, true⟩, ⟨true, true⟩, ⟨false, false⟩, ⟨false, false⟩, ⟨false, false⟩, ⟨false, false⟩⟩ = State.reset := by
  rfl

/-- Settles O60: law by law, and power-on evaluated. -/
theorem resetStateKeepsEveryLaw : Obligations.ResetStateKeepsEveryLaw :=
  ⟨⟨linkOk_reset, storeOk_reset, runnerOk_reset, gaugeOk_reset, supplyOk_reset, ⟨nofun, nofun⟩, travelOk_reset,
      cutOk_reset, ⟨nofun, fun _ => rfl, fun _ => rfl⟩⟩,
    congrArg Host.Outcome.next powerOn_reset⟩

end Sys2Proof.Machine
end

section
/-! SUPPORT. `Laws A B C p K s`: the law of the travel (under A), of the knife (under B) and of the account of the loads
(under C) inside a step, each by the blocks it looks at. `p` is the permission the cut station acts on, which for the
time a fall of it is handed round is still the old one; `K` is what it takes for the knife to be driven down. -/

namespace Sys2Proof.Machine

/-! ### The travel, block by block (R103) -/

/-- The gauge's part of the law of the travel; a referenced gauge stands no further forward than 2 in front of GMIN. -/
structure GaugeTravel (g : Gauge) : Prop where
  target : g.referenced = true → InTravel g.target
  stands : g.referenced = true → (Config.gmin : Int) - 2 ≤ g.actual
  goal : ∀ m, g.move = some m → InTravel m.goal
  plan : ∀ m, g.move = some m → ∀ x ∈ m.plan, x.inTravel
  slot : ∀ t, g.slot = some t → InTravel t

structure RunnerTravel (r : Runner) : Prop where
  figures : ∀ c, r.figures = some c → InTravel c.target
  retract : r.retractPos ≤ Config.gmax

structure TurnerTravel (t : Turner) : Prop where
  record : ∀ r, t.record = some r → r.clearance ≤ Config.gmax
  manual : ∀ m, t.manual = some m → m.clearance ≤ (Config.gmax : Int)

structure TrackerTravel (g : Tracker) : Prop where
  table : ∀ t, g.table = some t → t.depth ≤ Config.gmax
  aside : ∀ p ∈ g.aside, p.rect.depth p.q ≤ Config.gmax
  prepared : ∀ x, g.prepared = some x → x.2 ≤ Config.gmax

/-! ### The knife (R113, R116) -/

/-- The states from PRECLAMPED to the end of a return, in which the station has the grant. -/
def CutState.holds : CutState → Bool
  | .preclamped | .clamping | .cutting | .returning | .abortReturn => true
  | _ => false

/-- The states the permission takes the station to. -/
def CutState.permits : CutState → Bool
  | .grantWait | .clamping | .cutting => true
  | _ => false

/-- The law of the knife for a station that acts on the permission `p`. -/
structure CutLaw (p : Bool) (K : Prop) (c : CutStation) (holder : Option Consumer) : Prop where
  held : c.state.holds = true → holder = some .cut
  permitted : c.state.permits = true → p = true
  pressed : c.state = .clamping ∨ c.state = .cutting → c.clampValve = .high
  knife : c.knifeValve = .down ↔ c.state = .cutting
  driven : c.knifeValve = .down → K

/-- The laws inside a step. -/
structure Laws (A B C : Prop) (p : Bool) (K : Prop) (s : State) : Prop where
  gauge : A → GaugeTravel s.bg
  runner : A → RunnerTravel s.pr
  turner : A → TurnerTravel s.pt
  tracker : A → TrackerTravel s.gt
  cut : B → CutLaw p K s.cs s.hs.holder
  account : C → AccountOk s.gt

variable {A B C : Prop} {p : Bool} {K : Prop} {s : State}

/-! ### One update -/

theorem laws_setLi (x : Link) (h : Laws A B C p K s) : Laws A B C p K (s.setLi x) := ⟨h.1, h.2, h.3, h.4, h.5, h.6⟩
theorem laws_setPs (x : Store) (h : Laws A B C p K s) : Laws A B C p K (s.setPs x) := ⟨h.1, h.2, h.3, h.4, h.5, h.6⟩
theorem laws_setPl (x : Lift) (h : Laws A B C p K s) : Laws A B C p K (s.setPl x) := ⟨h.1, h.2, h.3, h.4, h.5, h.6⟩
theorem laws_setJg (x : Jogger) (h : Laws A B C p K s) : Laws A B C p K (s.setJg x) := ⟨h.1, h.2, h.3, h.4, h.5, h.6⟩
theorem laws_setSm (x : Monitor) (h : Laws A B C p K s) : Laws A B C p K (s.setSm x) := ⟨h.1, h.2, h.3, h.4, h.5, h.6⟩

theorem laws_setBg {x : Gauge} (h : Laws A B C p K s) (hx : A → GaugeTravel s.bg → GaugeTravel x) :
    Laws A B C p K (s.setBg x) := ⟨fun a => hx a (h.1 a), h.2, h.3, h.4, h.5, h.6⟩

theorem laws_setPr_of {x : Runner} (h : Laws A B C p K s) (hx : A → RunnerTravel s.pr → RunnerTravel x) :
    Laws A B C p K (s.setPr x) := ⟨h.1, fun a => hx a (h.2 a), h.3, h.4, h.5, h.6⟩

/-- The Runner keeps its figures and its retract position. -/
theorem laws_setPr {x : Runner} (h : Laws A B C p K s) (figures : x.figures = s.pr.figures)
    (retract : x.retractPos = s.pr.retractPos) : Laws A B C p K (s.setPr x) :=
  laws_setPr_of h fun _ t => ⟨by rw [figures]; exact t.figures, by rw [retract]; exact t.retract⟩

/-- A Runner with the figures and the retract position of power-on. -/
theorem laws_setPr_none {x : Runner} (h : Laws A B C p K s) (figures : x.figures = none) (retract : x.retractPos = 0) :
    Laws A B C p K (s.setPr x) :=
  laws_setPr_of h fun _ _ => ⟨by rw [figures]; nofun, by rw [retract]; decide⟩

theorem laws_setPt_of {x : Turner} (h : Laws A B C p K s) (hx : A → TurnerTravel s.pt → TurnerTravel x) :
    Laws A B C p K (s.setPt x) := ⟨h.1, h.2, fun a => hx a (h.3 a), h.4, h.5, h.6⟩

/-- The turner keeps the clearance of its record, if it keeps the record, and its manual turn, if it keeps it. -/
theorem laws_setPt {x : Turner} (h : Laws A B C p K s)
    (record : x.record = s.pt.record ∨ x.record = none ∨
      ∃ f : TurnRec → TurnRec, x.record = s.pt.record.map f ∧ ∀ r, (f r).clearance = r.clearance)
    (manual : x.manual = s.pt.manual ∨ x.manual = none) : Laws A B C p K (s.setPt x) := by
  refine laws_setPt_of h fun _ t => ⟨fun r hr => ?_, fun m hm => ?_⟩
  · obtain e | e | ⟨f, e, same⟩ := record
    · exact t.record r (e ▸ hr)
    · rw [e] at hr
      cases hr
    · rw [e] at hr
      obtain ⟨r', e', rfl⟩ := Option.map_eq_some_iff.mp hr
      rw [same]
      exact t.record r' e'
  · obtain e | e := manual
    · exact t.manual m (e ▸ hm)
    · rw [e] at hm
      cases hm

theorem laws_setGt_of {x : Tracker} (h : Laws A B C p K s) (ht : A → TrackerTravel s.gt → TrackerTravel x)
    (ha : C → AccountOk s.gt → AccountOk x) : Laws A B C p K (s.setGt x) :=
  ⟨h.1, h.2, h.3, fun a => ht a (h.4 a), h.5, fun c => ha c (h.6 c)⟩

/-- The tracker keeps table, aside stack and open load, and a prepared format only if it stands. -/
theorem laws_setGt {x : Tracker} (h : Laws A B C p K s) (table : x.table = s.gt.table) (aside : x.aside = s.gt.aside)
    (load : x.openLoad = s.gt.openLoad) (prepared : x.prepared = s.gt.prepared ∨ x.prepared = none) :
    Laws A B C p K (s.setGt x) := by
  refine laws_setGt_of h (fun _ t => ⟨table ▸ t.table, aside ▸ t.aside, ?_⟩) fun _ a => ⟨?_, ?_, ?_⟩
  · obtain e | e := prepared <;> rw [e]
    · exact t.prepared
    · nofun
  · have area := a.area
    unfold AreaOk Tracker.areaLeft at *
    rwa [table, aside, load]
  · rw [table, load]
    exact a.table
  · rw [aside, load]
    exact a.aside

theorem laws_setCs_of {x : CutStation} (h : Laws A B C p K s)
    (hx : B → CutLaw p K s.cs s.hs.holder → CutLaw p K x s.hs.holder) : Laws A B C p K (s.setCs x) :=
  ⟨h.1, h.2, h.3, h.4, fun b => hx b (h.5 b), h.6⟩

/-- The station keeps its state and its valves. -/
theorem laws_setCs {x : CutStation} (h : Laws A B C p K s) (state : x.state = s.cs.state)
    (clamp : x.clampValve = s.cs.clampValve) (knife : x.knifeValve = s.cs.knifeValve) :
    Laws A B C p K (s.setCs x) :=
  laws_setCs_of h fun _ c => ⟨state ▸ c.held, state ▸ c.permitted, by rw [state, clamp]; exact c.pressed,
    by rw [state, knife]; exact c.knife, knife ▸ c.driven⟩

/-- The station in a state with neither grant nor permission, its knife not driven down. -/
theorem CutLaw.free {x : CutStation} {holder : Option Consumer} (holds : x.state.holds = false)
    (permits : x.state.permits = false) (knife : x.knifeValve ≠ .down) : CutLaw p K x holder := by
  refine ⟨fun e => ?_, fun e => ?_, ?_, ⟨fun e => absurd e knife, fun e => ?_⟩, fun e => absurd e knife⟩
  · rw [holds] at e
    cases e
  · rw [permits] at e
    cases e
  · rintro (e | e) <;> rw [e] at holds <;> cases holds
  · rw [e] at holds
    cases holds

theorem laws_setCs_free {x : CutStation} (h : Laws A B C p K s) (holds : x.state.holds = false)
    (permits : x.state.permits = false) (knife : B → x.knifeValve ≠ .down) : Laws A B C p K (s.setCs x) :=
  laws_setCs_of h fun b _ => .free holds permits (knife b)

/-- The knife is driven down in CUTTING only. -/
theorem CutLaw.notDown {c : CutStation} {holder : Option Consumer} (h : CutLaw p K c holder) (e : c.state ≠ .cutting) :
    c.knifeValve ≠ .down := mt h.knife.1 e

theorem laws_setHs {x : Supply} (h : Laws A B C p K s) (holder : x.holder = s.hs.holder) :
    Laws A B C p K (s.setHs x) := ⟨h.1, h.2, h.3, h.4, fun b => by
      have c := h.5 b
      show CutLaw p K s.cs x.holder
      rw [holder]
      exact c, h.6⟩

/-- Any holder suits a station that needs no grant. -/
theorem laws_setHs_free {x : Supply} (h : Laws A B C p K s) (free : B → s.cs.state.holds = false) :
    Laws A B C p K (s.setHs x) := ⟨h.1, h.2, h.3, h.4, fun b =>
      have c := h.5 b
      ⟨fun e => absurd ((free b).symm.trans e) nofun, c.permitted, c.pressed, c.knife, c.driven⟩, h.6⟩

/-- The station needs no grant while another holds it, or nobody. -/
theorem Laws.holds_false (h : Laws A B C p K s) (e : s.hs.holder ≠ some .cut) (b : B) : s.cs.state.holds = false :=
  Bool.eq_false_iff.mpr fun k => e ((h.cut b).held k)

/-- What it takes for the knife to go down may be replaced by what follows from it, and the permission may rise. -/
theorem Laws.mono {q : Bool} {K' : Prop} (h : Laws A B C p K s) (hp : p = true → q = true) (hk : K → K') :
    Laws A B C q K' s := ⟨h.1, h.2, h.3, h.4, fun b =>
      have c := h.5 b
      ⟨c.held, hp ∘ c.permitted, c.pressed, c.knife, hk ∘ c.driven⟩, h.6⟩

/-! ### Notices and fault reports -/

theorem laws_raise (k : NoticeKind) (body : List Byte) (h : Laws A B C p K s) : Laws A B C p K (s.raise k body) :=
  laws_setLi _ h

theorem laws_warn (k : WarningKind) (loadId step iter : Nat) (detail : Int) (h : Laws A B C p K s) :
    Laws A B C p K (s.warn k loadId step iter detail) := laws_raise _ _ h

theorem laws_plainWarning (k : WarningKind) (loadId : Nat) (detail : Int) (h : Laws A B C p K s) :
    Laws A B C p K (s.plainWarning k loadId detail) := laws_warn _ _ _ _ _ h

theorem laws_owe (h : Laws A B C p K s) : Laws A B C p K s.owe := laws_setPr h rfl rfl

theorem laws_flush (h : Laws A B C p K s) : Laws A B C p K s.flush := by
  unfold State.flush
  split
  · exact laws_setPr (laws_raise _ _ h) rfl rfl
  · exact h

theorem laws_reportFault (k : FaultKind) (detail : Int) (h : Laws A B C p K s) :
    Laws A B C p K (s.reportFault k detail) := laws_raise _ _ (laws_setPr h rfl rfl)

theorem laws_toHeld (why : HoldReason) (h : Laws A B C p K s) : Laws A B C p K (s.toHeld why) := laws_setPr h rfl rfl

theorem laws_goIdle (h : Laws A B C p K s) : Laws A B C p K s.goIdle :=
  laws_setGt (laws_setPr_none h rfl rfl) rfl rfl rfl (.inr rfl)

theorem laws_runEnd (why : EndReason) (h : Laws A B C p K s) : Laws A B C p K (s.runEnd why) := laws_raise _ _ h

theorem laws_endReady (why : EndReason) (step : Nat) (h : Laws A B C p K s) : Laws A B C p K (s.endReady why step) :=
  laws_setPr (laws_runEnd _ h) rfl rfl

theorem Turner.orphan_same (t : Turner) : (t.orphan.record = t.record ∨ t.orphan.record = none ∨
    ∃ f : TurnRec → TurnRec, t.orphan.record = t.record.map f ∧ ∀ r, (f r).clearance = r.clearance) ∧
    t.orphan.manual = t.manual := by
  unfold Turner.orphan
  split
  · exact ⟨.inr (.inr ⟨_, rfl, fun _ => rfl⟩), rfl⟩
  · exact ⟨.inl rfl, rfl⟩

theorem laws_abortEnd (h : Laws A B C p K s) : Laws A B C p K s.abortEnd := by
  unfold State.abortEnd
  exact laws_setPt (laws_setHs (laws_goIdle (laws_runEnd _ (laws_raise _ _ (laws_setPr h rfl rfl)))) rfl)
    (Turner.orphan_same _).1 (.inl (Turner.orphan_same _).2)

/-! ### The tracker (R43 to R54) -/

/-- A change of the tracker that books the area `a` with the open load: to the waste, to the finished area, or to the
pieces aside; table and prepared format stay. -/
structure Booked (a : Nat) (g h : Tracker) : Prop where
  table : h.table = g.table
  prepared : h.prepared = g.prepared
  isSome : h.openLoad.isSome = g.openLoad.isSome
  area : ∀ o', h.openLoad = some o' → ∃ o, g.openLoad = some o ∧ o'.w = o.w ∧ o'.ls = o.ls ∧
    h.areaLeft + o'.waste + o'.finishedArea = g.areaLeft + o.waste + o.finishedArea + a

theorem Booked.refl (g : Tracker) : Booked 0 g g := ⟨rfl, rfl, rfl, fun o e => ⟨o, e, rfl, rfl, rfl⟩⟩

theorem Booked.trans {a b : Nat} {g h k : Tracker} (x : Booked a g h) (y : Booked b h k) : Booked (a + b) g k where
  table := y.table.trans x.table
  prepared := y.prepared.trans x.prepared
  isSome := y.isSome.trans x.isSome
  area := fun o'' e => by
    obtain ⟨o', e', w', l', sum'⟩ := y.area o'' e
    obtain ⟨o, e, w, l, sum⟩ := x.area o' e'
    exact ⟨o, e, w'.trans w, l'.trans l, by omega⟩

theorem booked_loadWarning (s : State) (k : WarningKind) (d : Int) :
    Booked 0 s.gt (s.loadWarning k d).gt ∧ (s.loadWarning k d).gt.aside = s.gt.aside := by
  unfold State.loadWarning
  cases e : s.gt.openLoad with
  | none => exact ⟨Booked.refl s.gt, rfl⟩
  | some o =>
    refine ⟨⟨rfl, rfl, by rw [e]; rfl, ?_⟩, rfl⟩
    rintro o' ⟨⟩
    refine ⟨o, e, ?_⟩
    unfold OpenLoad.addWarning
    split <;> exact ⟨rfl, rfl, rfl⟩

theorem laws_of_booked {t : State} (h : Laws A B C p K s) (bg : t.bg = s.bg) (pr : t.pr = s.pr) (pt : t.pt = s.pt)
    (cs : t.cs = s.cs) (hs : t.hs = s.hs) (k : Booked 0 s.gt t.gt) (aside : t.gt.aside = s.gt.aside) :
    Laws A B C p K t := by
  refine ⟨bg ▸ h.1, pr ▸ h.2, pt ▸ h.3, fun a => ?_, by rw [cs, hs]; exact h.5, fun c => ?_⟩
  · exact ⟨k.table ▸ (h.4 a).table, aside ▸ (h.4 a).aside, k.prepared ▸ (h.4 a).prepared⟩
  · obtain ⟨area, table, none_aside⟩ := h.6 c
    have closed : t.gt.openLoad = none → s.gt.openLoad = none := by
      have := k.isSome
      intro e
      rw [e] at this
      simpa using this.symm
    refine ⟨fun o' e => ?_, fun e => k.table.trans (table (closed e)), fun e => aside.trans (none_aside (closed e))⟩
    obtain ⟨o, e, w, l, sum⟩ := k.area o' e
    rw [w, l, sum, area o e]
    rfl

theorem State.loadWarning_blocks (s : State) (k : WarningKind) (d : Int) :
    (s.loadWarning k d).bg = s.bg ∧ (s.loadWarning k d).pr = s.pr ∧ (s.loadWarning k d).pt = s.pt ∧
      (s.loadWarning k d).cs = s.cs ∧ (s.loadWarning k d).hs = s.hs := by
  unfold State.loadWarning State.warn
  dsimp only
  split <;> exact ⟨rfl, rfl, rfl, rfl, rfl⟩

theorem laws_loadWarning (k : WarningKind) (detail : Int) (h : Laws A B C p K s) :
    Laws A B C p K (s.loadWarning k detail) := by
  obtain ⟨bg, pr, pt, cs, hs⟩ := s.loadWarning_blocks k detail
  obtain ⟨booked, aside⟩ := booked_loadWarning s k detail
  exact laws_of_booked h bg pr pt cs hs booked aside

theorem laws_warnSaturated (x : Target) (h : Laws A B C p K s) : Laws A B C p K (s.warnSaturated x) := by
  unfold State.warnSaturated
  split
  · exact h
  · exact laws_loadWarning _ _ h

theorem laws_warnHeight (t : TableLoad) (m : Nat) (h : Laws A B C p K s) : Laws A B C p K (s.warnHeight t m) := by
  unfold State.warnHeight
  split
  · exact laws_loadWarning _ _ h
  · split
    · exact laws_loadWarning _ _ h
    · exact h

theorem laws_warnBackward (backward tracked : Bool) (t : Int) (h : Laws A B C p K s) :
    Laws A B C p K (s.warnBackward backward tracked t) := by
  unfold State.warnBackward
  split
  · split
    · exact laws_loadWarning _ _ h
    · exact laws_plainWarning _ _ _ h
  · exact h

theorem laws_cycleNotice (c : Cycle) (o : Outcome) (strip : Rect) (q : Fin 4) (h : Laws A B C p K s) :
    Laws A B C p K (s.cycleNotice c o strip q) := laws_raise _ _ h

/-- A load opens on an empty aside stack, no deeper than the travel (R42, R63). -/
theorem laws_openWith (w ls : Nat) (q : Fin 4) (hh : Option Nat)
    (depth : A → (⟨0, 0, w, ls⟩ : Rect).depth q ≤ Config.gmax)
    (aside : C → s.gt.aside = []) (h : Laws A B C p K s) : Laws A B C p K (s.openWith w ls q hh) := by
  refine laws_setGt_of h (fun a t => ⟨?_, t.aside, nofun⟩) fun c _ => ⟨?_, nofun, nofun⟩
  · rintro t ⟨⟩
    exact depth a
  · rintro o ⟨⟩
    simp [Tracker.areaLeft, aside c, Rect.area]

/-- A piece disposed of is booked, and joins the aside stack or leaves it as it is (R48). -/
theorem booked_dispose (s : State) (d : Disposition) (x : Piece) :
    Booked x.rect.area s.gt (s.dispose d x).gt ∧
      ((s.dispose d x).gt.aside = s.gt.aside ∨ (s.dispose d x).gt.aside = x :: s.gt.aside) := by
  unfold State.dispose
  cases d with
  | waste =>
    refine ⟨⟨rfl, rfl, by simp, fun o' e => ?_⟩, .inl rfl⟩
    obtain ⟨o, loaded, rfl⟩ := Option.map_eq_some_iff.mp e
    refine ⟨o, loaded, rfl, rfl, ?_⟩
    simp only [State.gt_setGt, Tracker.areaLeft]
    omega
  | aside =>
    refine ⟨⟨rfl, rfl, rfl, fun o e => ⟨o, e, rfl, rfl, ?_⟩⟩, .inr rfl⟩
    simp only [State.gt_setGt, Tracker.areaLeft, List.map_cons, List.sum_cons]
    omega
  | finished =>
    have booked : Booked x.rect.area s.gt
        { s.gt with
          openLoad :=
            s.gt.openLoad.map fun o =>
              { o with finishedCount := o.finishedCount + 1, finishedArea := o.finishedArea + x.rect.area } } := by
      refine ⟨rfl, rfl, by simp, fun o' e => ?_⟩
      obtain ⟨o, loaded, rfl⟩ := Option.map_eq_some_iff.mp e
      refine ⟨o, loaded, rfl, rfl, ?_⟩
      simp only [Tracker.areaLeft]
      omega
    dsimp only
    unfold State.checkSize
    split
    · exact ⟨booked, .inl rfl⟩
    · split
      · exact ⟨booked, .inl rfl⟩
      · obtain ⟨warned, aside⟩ := booked_loadWarning
          (s.setGt
            { s.gt with
              openLoad :=
                s.gt.openLoad.map fun o =>
                  { o with finishedCount := o.finishedCount + 1, finishedArea := o.finishedArea + x.rect.area } })
          .sizeMismatch (sizeDetail (x.rect.len x.q) (x.rect.depth x.q))
        exact ⟨booked.trans warned, .inl aside⟩

theorem State.dispose_blocks (s : State) (d : Disposition) (x : Piece) :
    (s.dispose d x).bg = s.bg ∧ (s.dispose d x).pr = s.pr ∧ (s.dispose d x).pt = s.pt ∧
      (s.dispose d x).cs = s.cs ∧ (s.dispose d x).hs = s.hs := by
  unfold State.dispose State.checkSize
  split
  · exact ⟨rfl, rfl, rfl, rfl, rfl⟩
  · exact ⟨rfl, rfl, rfl, rfl, rfl⟩
  · split
    · exact ⟨rfl, rfl, rfl, rfl, rfl⟩
    · split
      · exact ⟨rfl, rfl, rfl, rfl, rfl⟩
      · exact State.loadWarning_blocks _ _ _

/-- The remainder of a cut and its strip are together the rectangle cut (Table 30). -/
theorem Rect.area_cut (r : Rect) (q : Fin 4) {n : Nat} (h : n ≤ r.depth q) :
    (r.remainder q n).area + (r.strip q n).area = r.area := by
  obtain ⟨sx, sy, sw, sd⟩ := r
  fin_cases q <;> simp [Rect.remainder, Rect.strip, Rect.area, Rect.depth] at h ⊢
  · rw [← Nat.mul_add, Nat.sub_add_cancel h]
  · rw [← Nat.add_mul, Nat.sub_add_cancel h]
  · rw [← Nat.mul_add, Nat.sub_add_cancel h]
  · rw [← Nat.add_mul, Nat.sub_add_cancel h]

theorem Rect.depth_remainder (r : Rect) (q : Fin 4) (n : Nat) : (r.remainder q n).depth q = r.depth q - n := by
  fin_cases q <;> rfl

theorem Rect.depth_strip (r : Rect) (q : Fin 4) (n : Nat) : (r.strip q n).depth q = n := by
  fin_cases q <;> rfl

/-- A cut splits the table load into remainder and strip, and disposes of the strip (R46). -/
theorem laws_cutStrip (t : TableLoad) (c : Cycle) (ht : s.gt.table = some t) (h : Laws A B C p K s) :
    Laws A B C p K (s.cutStrip t c) := by
  unfold State.cutStrip
  dsimp only
  refine laws_cycleNotice _ _ _ _ ?_
  have warned := laws_warnHeight t (c.measured.getD 0) h
  have table : (s.warnHeight t (c.measured.getD 0)).gt.table = some t := by
    unfold State.warnHeight
    split
    · exact (booked_loadWarning _ _ _).1.table.trans ht
    · split
      · exact (booked_loadWarning _ _ _).1.table.trans ht
      · exact ht
  revert warned table
  generalize s.warnHeight t (c.measured.getD 0) = s1
  intro warned table
  generalize hn : t.depth - c.nominal.toNat = n
  have short : n ≤ t.rect.depth t.q := by
    rw [← hn]
    exact Nat.sub_le _ _
  generalize hx : (⟨t.rect.strip t.q n, t.q, some (c.measured.getD 0), t.loadId⟩ : Piece) = x
  have xdepth : x.rect.depth x.q = n := by
    rw [← hx]
    exact Rect.depth_strip _ _ _
  have xarea : x.rect.area = (t.rect.strip t.q n).area := by rw [← hx]
  generalize hy : s1.setGt { s1.gt with
    table := some { t with rect := t.rect.remainder t.q n, height := some (c.measured.getD 0) } } = s2
  obtain ⟨booked, aside⟩ := booked_dispose s2 c.disposition x
  obtain ⟨bg, pr, pt, cs, hs⟩ := s2.dispose_blocks c.disposition x
  subst hy
  refine ⟨fun a => bg ▸ warned.1 a, fun a => pr ▸ warned.2 a, fun a => pt ▸ warned.3 a, fun a => ?_,
    fun b => by rw [cs, hs]; exact warned.5 b, fun k => ?_⟩
  · have depth := (warned.4 a).table t table
    refine ⟨?_, fun y hy => ?_, booked.prepared ▸ (warned.4 a).prepared⟩
    · rw [booked.table]
      rintro t' ⟨⟩
      show (t.rect.remainder t.q n).depth t.q ≤ Config.gmax
      rw [Rect.depth_remainder]
      exact (Nat.sub_le _ _).trans depth
    · obtain e | e := aside <;> rw [e] at hy
      · exact (warned.4 a).aside y hy
      · obtain rfl | hy := List.mem_cons.mp hy
        · rw [xdepth]
          exact short.trans depth
        · exact (warned.4 a).aside y hy
  · have account := warned.6 k
    have open_ : s1.gt.openLoad.isSome = true := by
      cases e : s1.gt.openLoad with
      | some _ => rfl
      | none => exact absurd (table.symm.trans (account.table e)) nofun
    have still := booked.isSome.trans open_
    refine ⟨fun o' e => ?_, fun e => ?_, fun e => ?_⟩
    rotate_left
    · rw [e] at still
      cases still
    · rw [e] at still
      cases still
    obtain ⟨o, e, w, l, sum⟩ := booked.area o' e
    have whole := account.area o e
    have split := t.rect.area_cut t.q short
    rw [w, l, sum, ← whole, xarea]
    simp only [Tracker.areaLeft, State.gt_setGt, table]
    omega

theorem laws_applyCut (c : Cycle) (h : Laws A B C p K s) : Laws A B C p K (s.applyCut c) := by
  unfold State.applyCut
  split
  · split
    · exact laws_cutStrip _ _ ‹_› h
    · exact laws_cycleNotice _ _ _ _ h
  · exact laws_cycleNotice _ _ _ _ h

/-- A table load that keeps its rectangle and its orientation. -/
theorem laws_setTable {t t' : TableLoad} (ht : s.gt.table = some t) (rect : t'.rect = t.rect)
    (depth : A → t'.depth ≤ Config.gmax) (h : Laws A B C p K s) :
    Laws A B C p K (s.setGt { s.gt with table := some t' }) := by
  refine laws_setGt_of h (fun a x => ⟨?_, x.aside, x.prepared⟩) fun c x => ⟨?_, fun e => ?_, x.aside⟩
  · rintro _ ⟨⟩
    exact depth a
  · have area := x.area
    unfold AreaOk Tracker.areaLeft at *
    rw [ht] at area
    simpa only [rect] using area
  · exact absurd (ht.symm.trans (x.table e)) nofun

theorem laws_applyAborted (c : Cycle) (h : Laws A B C p K s) : Laws A B C p K (s.applyAborted c) := by
  unfold State.applyAborted
  dsimp only
  split
  · rename_i t ht
    split
    · exact laws_cycleNotice _ _ _ _ (laws_loadWarning _ _ (laws_setTable ht rfl (fun a => (h.4 a).table t ht) h))
    · exact laws_cycleNotice _ _ _ _ h
  · exact laws_cycleNotice _ _ _ _ h

theorem Rect.depth_or (r : Rect) (q q' : Fin 4) : r.depth q' = r.depth q ∨ r.depth q' = r.len q := by
  unfold Rect.depth Rect.len
  split <;> split <;> simp

theorem laws_applyTurn (tracked : Bool) (loadId n : Nat)
    (fits : A → tracked = true → ∀ t, s.gt.table = some t → t.loadId = loadId → t.len ≤ Config.gmax)
    (h : Laws A B C p K s) : Laws A B C p K (s.applyTurn tracked loadId n) := by
  unfold State.applyTurn
  split
  · rename_i t ht
    split
    · rename_i e
      refine laws_setTable ht rfl (fun a => ?_) h
      obtain d | d := t.rect.depth_or t.q (t.q + Fin.ofNat 4 n)
      · exact d.le.trans ((h.4 a).table t ht)
      · exact d.le.trans (fits a e.1 t ht e.2)
    · exact h
  · exact h

theorem laws_recallTop (empty : C → s.gt.table = none) (h : Laws A B C p K s) : Laws A B C p K s.recallTop := by
  unfold State.recallTop
  split
  · exact h
  · rename_i x rest e
    refine laws_setGt_of h (fun a t => ⟨?_, fun y hy => t.aside y (by rw [e]; exact List.mem_cons_of_mem _ hy),
      t.prepared⟩) fun c k => ⟨?_, fun n => ?_, fun n => ?_⟩
    · rintro _ ⟨⟩
      exact t.aside x (by rw [e]; exact List.mem_cons_self)
    · have area := k.area
      unfold AreaOk Tracker.areaLeft at *
      rw [empty c, e] at area
      intro o ho
      have := area o ho
      simp only [List.map_cons, List.sum_cons] at this ⊢
      omega
    · have := k.aside n
      rw [e] at this
      cases this
    · have := k.aside n
      rw [e] at this
      cases this

/-- The load that ends leaves nothing behind when table and aside stack are empty (R43, R64). -/
theorem laws_closed {left : Nat} {abandoned : Bool} (h : Laws A B C p K s) :
    Laws A B C p K ((s.endLoad abandoned left).setGt
      { (s.endLoad abandoned left).gt with table := none, aside := [] }) := by
  have tracker (a : A) (g : Tracker) (e : g.prepared = s.gt.prepared) :
      TrackerTravel { g with table := none, aside := [] } :=
    ⟨nofun, nofun, e ▸ (h.4 a).prepared⟩
  unfold State.endLoad
  split
  · exact ⟨h.1, h.2, h.3, fun a => tracker a _ rfl, h.5, fun _ => ⟨nofun, fun _ => rfl, fun _ => rfl⟩⟩
  · rename_i e
    refine ⟨h.1, h.2, h.3, fun a => tracker a _ rfl, h.5, fun _ => ⟨fun o ho => ?_, fun _ => rfl, fun _ => rfl⟩⟩
    exact absurd (e.symm.trans ho) nofun

/-- The whole table load is disposed of, and the load ends when no piece is aside (R54, R43). -/
theorem laws_eject (d : Disposition) (h : Laws A B C p K s) : Laws A B C p K (s.eject d) := by
  unfold State.eject
  split
  · exact h
  · rename_i t ht
    dsimp only
    obtain ⟨booked, aside⟩ := booked_dispose s d ⟨t.rect, t.q, t.height, t.loadId⟩
    obtain ⟨bg, pr, pt, cs, hs⟩ := s.dispose_blocks d ⟨t.rect, t.q, t.height, t.loadId⟩
    revert booked aside bg pr pt cs hs
    generalize s.dispose d ⟨t.rect, t.q, t.height, t.loadId⟩ = s1
    intro booked aside bg pr pt cs hs
    have tracker (a : A) : TrackerTravel { s1.gt with table := none } := by
      refine ⟨nofun, fun y hy => ?_, booked.prepared ▸ (h.4 a).prepared⟩
      obtain e | e := aside <;> rw [e] at hy
      · exact (h.4 a).aside y hy
      · obtain rfl | hy := List.mem_cons.mp hy
        · exact (h.4 a).table t ht
        · exact (h.4 a).aside y hy
    have blocks {g : Tracker} (ht : A → TrackerTravel g) (hg : C → AccountOk g) : Laws A B C p K (s1.setGt g) :=
      ⟨bg ▸ h.1, pr ▸ h.2, pt ▸ h.3, ht, by rw [State.cs_setGt, State.hs_setGt, cs, hs]; exact h.5, hg⟩
    split
    · rename_i none_aside
      unfold State.endLoad
      split
      · exact laws_setLi _ (blocks (g := { s1.gt with table := none, openLoad := none })
          (fun a => ⟨nofun, (tracker a).aside, (tracker a).prepared⟩)
          fun _ => ⟨nofun, fun _ => rfl, fun _ => none_aside⟩)
      · rename_i e
        exact blocks tracker fun _ => ⟨fun o ho => absurd (e.symm.trans ho) nofun, fun _ => rfl, fun _ => none_aside⟩
    · refine blocks tracker fun c => ?_
      have account := h.6 c
      have still : s1.gt.openLoad.isSome = true := by
        rw [booked.isSome]
        cases e : s.gt.openLoad with
        | some _ => rfl
        | none => exact absurd (ht.symm.trans (account.table e)) nofun
      refine ⟨fun o' e => ?_, fun _ => rfl, fun e => ?_⟩
      rotate_left
      · rw [e] at still
        cases still
      obtain ⟨o, e, w, l, sum⟩ := booked.area o' e
      have whole := account.area o e
      simp only [Tracker.areaLeft, booked.table, ht] at sum whole ⊢
      rw [w, l]
      omega

end Sys2Proof.Machine
end

section
/-! SUPPORT. The laws inside a step (`Laws`), kept by the operations of gauge, infeed, supply, cut station and turner,
one lemma each. -/

namespace Sys2Proof.Machine

variable {A B C : Prop} {p : Bool} {K : Prop} {s : State}

/-! ### The gauge (R97 to R110) -/

/-- The travel looks at reference, actual position, target, move and slot alone. -/
theorem GaugeTravel.same {g g' : Gauge} (h : GaugeTravel g) (referenced : g'.referenced = g.referenced)
    (actual : g'.actual = g.actual) (target : g'.target = g.target) (move : g'.move = g.move)
    (slot : g'.slot = g.slot) : GaugeTravel g' :=
  ⟨by rw [referenced, target]; exact h.target, by rw [referenced, actual]; exact h.stands, move ▸ h.goal,
    move ▸ h.plan, slot ▸ h.slot⟩

/-- A gauge that has ended its move. -/
theorem GaugeTravel.moveless {g g' : Gauge} (h : GaugeTravel g)
    (referenced : g'.referenced = true → g.referenced = true)
    (actual : g'.actual = g.actual) (target : g'.target = g.target) (move : g'.move = none)
    (slot : g'.slot = g.slot) : GaugeTravel g' :=
  ⟨fun r => target ▸ h.target (referenced r), fun r => actual ▸ h.stands (referenced r), by rw [move]; nofun,
    by rw [move]; nofun, slot ▸ h.slot⟩

/-- A segment begun changes nothing the travel looks at. -/
theorem GaugeTravel.beginSegment {g : Gauge} (h : GaugeTravel g) (x : Segment) (n : Nat) :
    GaugeTravel (g.beginSegment x n) := by
  unfold Gauge.beginSegment Gauge.startSegment
  split <;> exact h.same rfl rfl rfl rfl rfl

/-- A move within the travel, begun. -/
theorem GaugeTravel.move {g : Gauge} (h : GaugeTravel g) (m : Move) (x : Segment) (n : Nat) (goal : InTravel m.goal)
    (plan : ∀ y ∈ m.plan, y.inTravel) :
    GaugeTravel (({ g with inPos := false, move := some m } : Gauge).beginSegment x n) := by
  refine GaugeTravel.beginSegment (g := { g with inPos := false, move := some m })
    ⟨h.target, h.stands, ?_, ?_, h.slot⟩ x n
  · rintro _ ⟨⟩
    exact goal
  · rintro _ ⟨⟩
    exact plan

theorem GaugeTravel.aim {g : Gauge} (h : GaugeTravel g) {t : Int} (ht : InTravel t) :
    GaugeTravel { g with target := t } := ⟨fun _ => ht, h.stands, h.goal, h.plan, h.slot⟩

theorem inTravel_gmax : InTravel (Config.gmax : Int) := by decide

/-- Every segment of an approach to a target within the travel ends there or at its overrun position. -/
theorem State.approachPlan_inTravel (s : State) {t : Int} (ht : InTravel t) : ∀ x ∈ s.approachPlan t, x.inTravel := by
  have overrun : InTravel (s.overrun t) := by
    unfold State.overrun InTravel at *
    simp only [Config.gmin, Config.gmax] at *
    omega
  have none : ∀ x ∈ ([] : List Segment), x.inTravel := nofun
  unfold State.approachPlan
  split
  · exact none
  · split
    · exact List.forall_mem_cons.mpr ⟨ht, none⟩
    · split
      · exact List.forall_mem_cons.mpr ⟨overrun, List.forall_mem_cons.mpr ⟨ht, none⟩⟩
      · split
        · exact List.forall_mem_cons.mpr ⟨ht, none⟩
        · exact none

/-- What became of a move, under the laws. -/
def LawsStarted (A B C : Prop) (p : Bool) (K : Prop) : Started → Prop
  | .moving t => Laws A B C p K t
  | .completed t _ => Laws A B C p K t

/-- An approach from a gauge that keeps the law once it is aimed. -/
theorem laws_approach_aimed (issuer : MoveIssuer) (fromSlot : Bool) (kind : MoveKind) {t : Int} (ht : A → InTravel t)
    (h : Laws A B C p K (s.setBg { s.bg with target := t })) :
    LawsStarted A B C p K (s.approach issuer fromSlot kind t) := by
  unfold State.approach
  split
  · exact laws_setBg (s := s.setBg { s.bg with target := t }) h fun a g => g.moveless id rfl rfl rfl rfl
  · rename_i x xs e
    have plan (a : A) : ∀ y ∈ x :: xs, y.inTravel := e ▸ s.approachPlan_inTravel (ht a)
    exact laws_setBg h fun a g => g.move _ _ _ (ht a) (plan a)

theorem laws_approach (issuer : MoveIssuer) (fromSlot : Bool) (kind : MoveKind) {t : Int} (ht : A → InTravel t)
    (h : Laws A B C p K s) : LawsStarted A B C p K (s.approach issuer fromSlot kind t) :=
  laws_approach_aimed issuer fromSlot kind ht (laws_setBg h fun a g => g.aim (ht a))

/-- A retract of a referenced gauge moves back from where it stands, so it ends within the travel (R104). -/
theorem laws_retract (issuer : MoveIssuer) {r : Int} (hr : A → r ≤ Config.gmax)
    (referenced : A → s.bg.referenced = true)
    (h : Laws A B C p K s) : LawsStarted A B C p K (s.retract issuer r) := by
  unfold State.retract
  split
  · rename_i far
    have inside (a : A) : InTravel r := by
      have := (h.1 a).stands (referenced a)
      have := hr a
      unfold InTravel
      simp only [Config.gmin, Config.gmax, Config.tolerance] at *
      omega
    refine laws_setBg (s := s.setBg { s.bg with target := r }) (laws_setBg h fun a g => g.aim (inside a))
      fun a g => g.move _ _ _ (inside a) fun y hy => ?_
    rw [List.mem_singleton.mp hy]
    exact inside a
  · exact laws_setBg h fun _ g => g.same rfl rfl rfl rfl rfl

theorem laws_gaugeDone (reference : Bool) (o : GaugeOutcome) (backward fromSlot : Bool) (goal : Int)
    (h : Laws A B C p K s) : Laws A B C p K (s.gaugeDone reference o backward fromSlot goal) := laws_raise _ _ h

theorem laws_emptySlot (h : Laws A B C p K s) : Laws A B C p K (s.setBg { s.bg with slot := none }) :=
  laws_setBg h fun _ g => ⟨g.target, g.stands, g.goal, g.plan, nofun⟩

theorem laws_slotNext (h : Laws A B C p K s) : Laws A B C p K s.slotNext := by
  unfold State.slotNext
  split
  · exact h
  · rename_i t e
    dsimp only
    split
    · exact laws_gaugeDone _ _ _ _ _ (laws_emptySlot h)
    · have k := laws_approach .gaugeMove true .approach (fun a => (h.1 a).slot t e) (laws_emptySlot h)
      split <;> rename_i e2 <;> rw [e2] at k
      · exact k
      · exact laws_gaugeDone _ _ _ _ _ k

theorem laws_slotCancel (h : Laws A B C p K s) : Laws A B C p K s.slotCancel := by
  unfold State.slotCancel
  split
  · exact h
  · exact laws_gaugeDone _ _ _ _ _ (laws_emptySlot h)

theorem laws_startReference (h : Laws A B C p K s) : Laws A B C p K s.startReference := by
  unfold State.startReference
  refine laws_setBg (s := s.setBg { s.bg with referenced := false })
    (laws_setBg h fun _ g => ⟨fun e => absurd e nofun, fun e => absurd e nofun, g.goal, g.plan, g.slot⟩)
    fun _ g => g.move _ _ _ inTravel_gmax ?_
  split <;> simp [Segment.inTravel]

theorem laws_switchesReleased (h : Laws A B C p K s) : Laws A B C p K s.switchesReleased := by
  unfold State.switchesReleased
  split
  · refine laws_setBg h fun _ g => g.move _ _ _ inTravel_gmax ?_
    simp [Segment.inTravel]
  · exact h

/-- The switch found, the gauge is aimed at GMAX from behind it (R99). -/
theorem laws_switchFound (h : Laws A B C p K s) : Laws A B C p K s.switchFound := by
  unfold State.switchFound
  split
  · dsimp only
    have behind : (Config.gmin : Int) - 2 ≤ Config.refPosition := by decide
    have aimed : Laws A B C p K
        (s.setBg
          { s.bg with
            zero := (Config.refPosition : Int) - s.lines.encoder
            actual := Config.refPosition
            referenced := true
            target := (Config.gmax : Int) }) :=
      laws_setBg h fun _ g => ⟨fun _ => inTravel_gmax, fun _ => behind, g.goal, g.plan, g.slot⟩
    have k := laws_approach_aimed
      (s := s.setBg
        { s.bg with
          zero := (Config.refPosition : Int) - s.lines.encoder
          actual := Config.refPosition
          referenced := true
          target := Config.refPosition })
      .gaugeReference false .reference (fun _ => inTravel_gmax) aimed
    split <;> rename_i e <;> rw [e] at k <;> exact k
  · exact h

theorem laws_dwellEnded (h : Laws A B C p K s) : Laws A B C p K s.dwellEnded := by
  unfold State.dwellEnded
  split
  · split
    · exact laws_setBg h fun _ g => g.same rfl rfl rfl rfl rfl
    · exact h
  · exact h

theorem laws_moveCompleted (m : Move) (h : Laws A B C p K s) : Laws A B C p K (s.moveCompleted m) :=
  laws_setBg h fun _ g => g.moveless id rfl rfl rfl rfl

/-- The next segment is one of the move's, so it ends within the travel (R97). -/
theorem laws_segmentEnded (h : Laws A B C p K s) : Laws A B C p K s.segmentEnded.1 := by
  unfold State.segmentEnded
  split
  · rename_i m _ em
    split
    · rename_i y x xs ep
      refine laws_setBg h fun a g => g.move _ _ _ (g.goal m em) fun z hz => g.plan m em z ?_
      rw [ep]
      exact List.mem_cons_of_mem _ hz
    · exact laws_moveCompleted _ h
  · exact h

theorem laws_gaugeStopped (h : Laws A B C p K s) : Laws A B C p K s.gaugeStopped :=
  laws_setBg h fun _ g => g.moveless id rfl rfl rfl rfl

theorem laws_gaugeFaulted (h : Laws A B C p K s) : Laws A B C p K s.gaugeFaulted :=
  laws_setBg h fun _ g => g.moveless (fun e => absurd e nofun) rfl rfl rfl rfl

theorem laws_notInPos (h : Laws A B C p K s) : Laws A B C p K (s.setBg { s.bg with inPos := false }) :=
  laws_setBg h fun _ g => g.same rfl rfl rfl rfl rfl

theorem laws_positionLost (h : Laws A B C p K s) : Laws A B C p K s.positionLost := by
  unfold State.positionLost
  split
  · exact laws_notInPos h
  · exact h

/-! ### The infeed (R139 to R154) -/

theorem laws_infeedNotice (e : InfeedEvent) (x : Int) (h : Laws A B C p K s) : Laws A B C p K (s.infeedNotice e x) :=
  laws_raise _ _ h

theorem laws_slotEnter (x : SlotState) (e : InfeedEvent) (h : Laws A B C p K s) : Laws A B C p K (s.slotEnter x e) :=
  laws_infeedNotice _ _ (laws_setJg _ h)

theorem laws_startJog (h : Laws A B C p K s) : Laws A B C p K s.startJog := laws_setJg _ h

theorem laws_slotNotice (changed : Bool) (e : InfeedEvent) (h : Laws A B C p K s) :
    Laws A B C p K (s.slotNotice changed e) := by
  unfold State.slotNotice
  split
  · exact laws_infeedNotice _ _ h
  · exact h

theorem laws_slotEmptied (h : Laws A B C p K s) : Laws A B C p K s.slotEmptied := laws_infeedNotice _ _ (laws_setJg _ h)

theorem laws_jogDone (h : Laws A B C p K s) : Laws A B C p K s.jogDone := by
  unfold State.jogDone
  dsimp only
  split <;> exact laws_slotEnter _ _ (laws_setJg _ h)

theorem laws_jogExpired (h : Laws A B C p K s) : Laws A B C p K s.jogExpired := by
  unfold State.jogExpired
  split
  · exact h
  · split
    · exact laws_jogDone h
    · split
      · exact laws_setJg _ h
      · exact laws_infeedNotice _ _ (laws_reportFault _ _ (laws_setJg _ h))

theorem laws_raiseMeasured (m : Nat) (h : Laws A B C p K s) : Laws A B C p K (s.raiseMeasured m) := by
  unfold State.raiseMeasured
  dsimp only
  split
  · exact laws_slotNotice _ _ (laws_infeedNotice _ _ (laws_setJg _ (laws_setPl _ (laws_setPl _ h))))
  · exact laws_infeedNotice _ _ (laws_setPl _ (laws_setPl _ h))
  · exact laws_setPl _ h

theorem laws_liftGranted (h : Laws A B C p K s) : Laws A B C p K s.liftGranted := by
  unfold State.liftGranted
  split
  · exact laws_setPl _ h
  · exact h

theorem laws_raiseTimedOut (h : Laws A B C p K s) : Laws A B C p K s.raiseTimedOut :=
  laws_slotNotice _ _ (laws_infeedNotice _ _ (laws_reportFault _ _ (laws_setJg _ (laws_setPl _ h))))

theorem laws_reachedFloor (h : Laws A B C p K s) : Laws A B C p K s.reachedFloor :=
  laws_infeedNotice _ _ (laws_setPl _ h)

theorem laws_infeedEstop (h : Laws A B C p K s) : Laws A B C p K s.infeedEstop :=
  laws_slotNotice _ _ (laws_slotNotice _ _ (laws_setJg _ (laws_setPl _ h)))

theorem laws_jogReset (h : Laws A B C p K s) : Laws A B C p K s.jogReset := by
  unfold State.jogReset
  split
  · exact laws_infeedNotice _ _ (laws_setJg _ h)
  · exact h

/-! ### The supply (R129 to R138) -/

theorem Supply.tryStart_holder (h : Supply) (latched : Bool) : (h.tryStart latched).holder = h.holder := by
  unfold Supply.tryStart
  split <;> rfl

theorem laws_pumpStart (h : Laws A B C p K s) : Laws A B C p K s.pumpStart := laws_setHs h (Supply.tryStart_holder _ _)

/-- The grant reaches a station that holds it: ARMED becomes PRECLAMPED, and GRANT_WAIT becomes CLAMPING with the
permission it had (R113, R114, R126). -/
theorem laws_csGranted (holder : s.hs.holder = some .cut) (h : Laws A B C p K s) : Laws A B C p K s.csGranted := by
  unfold State.csGranted
  split
  · rename_i e
    exact laws_setCs_of h fun b c => ⟨fun _ => holder, nofun, nofun,
      ⟨fun d => absurd d (c.notDown (by rw [e]; nofun)), nofun⟩, c.driven⟩
  · rename_i e
    exact laws_setCs_of h fun b c => ⟨fun _ => holder, fun _ => c.permitted (by rw [e]; rfl), fun _ => rfl,
      ⟨fun d => absurd d (c.notDown (by rw [e]; nofun)), nofun⟩, c.driven⟩
  · rename_i e
    exact laws_setCs_free h (by rw [e]; rfl) (by rw [e]; rfl) fun _ => nofun
  · exact h

theorem Turner.gripDone_same (t : Turner) : t.gripDone.record = t.record ∧ t.gripDone.manual = t.manual := by
  unfold Turner.gripDone Turner.toPark
  split <;> exact ⟨rfl, rfl⟩

theorem laws_ptGranted (h : Laws A B C p K s) : Laws A B C p K s.ptGranted := by
  unfold State.ptGranted
  split
  · dsimp only
    split
    · exact laws_setPt h (.inl (Turner.gripDone_same _).1) (.inl (Turner.gripDone_same _).2)
    · exact laws_setPt h (.inl rfl) (.inl rfl)
  · exact laws_setPt h (.inl rfl) (.inl rfl)
  · split
    · exact laws_setPt h (.inr (.inr ⟨_, rfl, fun _ => rfl⟩)) (.inl rfl)
    · exact h
  · exact h

/-- Whoever is granted takes the grant from nobody. -/
theorem laws_grantTo {c : Consumer} {x : Settings} (e : s.hs.choice x = some c) (h : Laws A B C p K s) :
    Laws A B C p K (s.setHs (s.hs.grantTo c)) := by
  refine laws_setHs_free h (h.holds_false ?_)
  unfold Supply.choice at e
  split at e
  · rename_i free
    rw [free.2.2]
    nofun
  · cases e

theorem laws_grantOther (h : Laws A B C p K s) : Laws A B C p K s.grantOther := by
  unfold State.grantOther
  split
  · exact laws_csGranted rfl (laws_grantTo ‹_› h)
  · exact laws_ptGranted (laws_grantTo ‹_› h)
  · exact h
  · exact h

theorem laws_startIdle (h : Laws A B C p K s) : Laws A B C p K s.startIdle := laws_setHs h rfl

/-- A grant is given back by a station that no longer needs it, or by another holder (R133). -/
theorem laws_releasedBy {next : State → State} (hn : ∀ t, Laws A B C p K t → Laws A B C p K (next t))
    (free : B → s.cs.state.holds = false) (h : Laws A B C p K s) : Laws A B C p K (s.releasedBy next) := by
  have freed : Laws A B C p K (s.setHs { s.hs with holder := none }) := laws_setHs_free h free
  unfold State.releasedBy
  dsimp only
  split
  · exact laws_setHs (s := s.setHs { s.hs with holder := none }) freed rfl
  · split
    · exact hn _ freed
    · exact laws_startIdle freed

theorem State.raiseMeasured_cs (s : State) (m : Nat) : (s.raiseMeasured m).cs = s.cs := by
  unfold State.raiseMeasured State.takeOffMeasured State.slotNotice
  dsimp only
  split
  · split <;> rfl
  · rfl
  · rfl

theorem laws_decideGrant (h : Laws A B C p K s) : Laws A B C p K s.decideGrant := by
  unfold State.decideGrant
  split
  · rename_i e
    have granted := laws_grantTo e h
    dsimp only
    split
    · refine laws_releasedBy (fun _ => laws_grantOther) (fun b => ?_) (laws_raiseMeasured _ granted)
      rw [State.raiseMeasured_cs]
      exact granted.holds_false (by simp [Supply.grantTo]) b
    · exact laws_liftGranted granted
  · exact laws_grantOther h

theorem laws_release (c : Consumer) (free : c = .cut → B → s.cs.state.holds = false) (h : Laws A B C p K s) :
    Laws A B C p K (s.release c) := by
  unfold State.release
  split
  · rename_i e
    refine laws_releasedBy (fun _ => laws_decideGrant) (fun b => ?_) h
    by_cases ec : c = .cut
    · exact free ec b
    · exact h.holds_false (by rw [e]; simpa using ec) b
  · exact h

theorem Supply.setRequest_holder (h : Supply) (c : Consumer) (b : Bool) : (h.setRequest c b).holder = h.holder := by
  cases c <;> rfl

theorem laws_request (c : Consumer) (h : Laws A B C p K s) : Laws A B C p K (s.request c) := by
  have asked : Laws A B C p K (s.setHs (s.hs.setRequest c true)) := laws_setHs h (Supply.setRequest_holder _ _ _)
  unfold State.request
  split
  · exact h
  · dsimp only
    split
    · exact laws_pumpStart asked
    · exact laws_decideGrant (laws_setHs asked rfl)
    · exact asked

theorem laws_withdrawRequest (c : Consumer) (h : Laws A B C p K s) : Laws A B C p K (s.withdrawRequest c) :=
  laws_setHs h (Supply.setRequest_holder _ _ _)

theorem laws_giveUp (c : Consumer) (free : c = .cut → B → s.cs.state.holds = false) (h : Laws A B C p K s) :
    Laws A B C p K (s.giveUp c) := laws_release c free (laws_withdrawRequest c h)

theorem laws_runUpExpired (h : Laws A B C p K s) : Laws A B C p K s.runUpExpired := by
  unfold State.runUpExpired
  split
  · exact h
  · split
    · dsimp only
      split
      · exact laws_decideGrant (laws_setHs h rfl)
      · exact laws_startIdle (laws_setHs h rfl)
    · exact laws_reportFault _ _ (laws_setHs h rfl)

theorem laws_lockoutExpired (h : Laws A B C p K s) : Laws A B C p K s.lockoutExpired := by
  unfold State.lockoutExpired
  split
  · exact h
  · exact laws_pumpStart (laws_setHs h rfl)

theorem laws_idleExpired (h : Laws A B C p K s) : Laws A B C p K s.idleExpired := by
  unfold State.idleExpired
  split
  · split
    · exact laws_setHs h rfl
    · exact h
  · exact h

theorem laws_decidePumpOn (h : Laws A B C p K s) : Laws A B C p K (decidePumpOn s).1 := by
  unfold decidePumpOn
  dsimp only
  split
  · exact h
  · split
    · exact laws_setHs h rfl
    · exact laws_pumpStart (laws_setHs h rfl)
    · exact laws_setHs h rfl

theorem laws_decidePumpOff (h : Laws A B C p K s) : Laws A B C p K (decidePumpOff s).1 := by
  unfold decidePumpOff
  dsimp only
  split
  · exact h
  · split <;> exact laws_setHs h rfl

/-! ### The cut station (R111 to R127) -/

theorem laws_recoverRequest (h : Laws A B C p K s) : Laws A B C p K s.recoverRequest := by
  unfold State.recoverRequest
  split
  · exact laws_request _ h
  · exact h

theorem laws_rest {x : CutState} (holds : x.holds = false) (permits : x.permits = false) (h : Laws A B C p K s) :
    Laws A B C p K (s.setCs (s.cs.rest x)) := laws_setCs_free h holds permits fun _ => nofun

theorem State.readyState_free (s : State) : s.readyState.holds = false ∧ s.readyState.permits = false := by
  unfold State.readyState
  split <;> exact ⟨rfl, rfl⟩

theorem laws_restReady (h : Laws A B C p K s) : Laws A B C p K (s.setCs (s.cs.rest s.readyState)) :=
  laws_rest s.readyState_free.1 s.readyState_free.2 h

theorem laws_enterRecover (h : Laws A B C p K s) : Laws A B C p K s.enterRecover :=
  laws_recoverRequest (laws_rest rfl rfl h)

theorem laws_stopKnife (h : Laws A B C p K s) : Laws A B C p K s.stopKnife :=
  laws_recoverRequest (laws_setCs_free h rfl rfl fun _ => nofun)

theorem laws_homeOrRecover (h : Laws A B C p K s) : Laws A B C p K s.homeOrRecover := by
  unfold State.homeOrRecover
  split
  · exact laws_restReady h
  · exact laws_enterRecover h

/-- A READY station takes a cycle: its knife is not driven. -/
theorem laws_csTake (c : Cycle) (ready : s.cs.state = .ready) (h : Laws A B C p K s) : Laws A B C p K (s.csTake c) :=
  laws_setCs_free h rfl rfl fun b => (h.5 b).notDown (by rw [ready]; nofun)

theorem laws_csWithdraw (h : Laws A B C p K s) : Laws A B C p K s.csWithdraw :=
  laws_giveUp _ (fun _ _ => s.readyState_free.1) (laws_restReady h)

/-- Back in ARMED from before CUTTING. -/
theorem laws_backToArmed (counts : Bool) (e : s.cs.state ≠ .cutting) (h : Laws A B C p K s) :
    Laws A B C p K (s.setCs (s.cs.backToArmed counts)) :=
  laws_setCs_free h rfl rfl fun b => (h.5 b).notDown e

theorem laws_pedalDown (h : Laws A B C p K s) : Laws A B C p K s.pedalDown := by
  have pressed : Laws A B C p K (s.setCs { s.cs with pedal := true }) := laws_setCs h rfl rfl rfl
  unfold State.pedalDown
  dsimp only
  split
  · split
    · exact laws_request _ (laws_setCs pressed rfl rfl rfl)
    · exact laws_setCs pressed rfl rfl rfl
  · exact pressed

theorem laws_pedalUp (h : Laws A B C p K s) : Laws A B C p K s.pedalUp := by
  unfold State.pedalUp
  dsimp only
  split
  · exact laws_withdrawRequest _ (laws_setCs h rfl rfl rfl)
  · exact laws_setCs h rfl rfl rfl
  · rename_i e
    exact laws_release _ (fun _ _ => rfl)
      (laws_setCs_free h rfl rfl fun b => (h.5 b).notDown (by rw [e]; nofun))
  · exact laws_setCs h rfl rfl rfl

theorem laws_pedalDwellExpired (h : Laws A B C p K s) : Laws A B C p K s.pedalDwellExpired := by
  unfold State.pedalDwellExpired
  split
  · rename_i e
    exact laws_release _ (fun _ _ => rfl) (laws_backToArmed _ (by rw [e]; nofun) h)
  · exact h

/-- The permission has risen when the station hears of it. -/
theorem laws_permissionRises (h : Laws A B C true K s) : Laws A B C true K s.permissionRises := by
  unfold State.permissionRises
  split
  · rename_i e
    exact laws_request _ (laws_setCs_of h fun b c => ⟨nofun, fun _ => rfl, nofun,
      ⟨fun d => absurd d (c.notDown (by rw [e]; nofun)), nofun⟩, c.driven⟩)
  · rename_i e
    exact laws_setCs_of h fun b c => ⟨fun _ => c.held (by rw [e]; rfl), fun _ => rfl, fun _ => rfl,
      ⟨fun d => absurd d (c.notDown (by rw [e]; nofun)), nofun⟩, c.driven⟩
  · exact h

/-- A station outside the states of the permission does not look at it. -/
theorem laws_notPermitted {q : Bool} (h : Laws A B C q K s) (e : B → s.cs.state.permits = false) :
    Laws A B C false K s := ⟨h.1, h.2, h.3, h.4, fun b =>
      have c := h.5 b
      ⟨c.held, fun k => absurd ((e b).symm.trans k) nofun, c.pressed, c.knife, c.driven⟩, h.6⟩

/-- Once a fall of the permission has reached the station it acts on none (R113 to R117). -/
theorem laws_permissionFalls {fall : Bool} (lapse : Bool) (h : Laws A B C fall K s) :
    Laws A B C false K (s.permissionFalls fall lapse) := by
  have stays (e : s.cs.state.permits = false) : Laws A B C false K s := laws_notPermitted h fun _ => e
  have unpermitted (e : ¬fall = true) : Laws A B C false K s := by
    obtain rfl : fall = false := by simpa using e
    exact h
  unfold State.permissionFalls
  split
  · rename_i e
    split
    · exact laws_withdrawRequest _ (stays (by rw [e]; rfl))
    · exact stays (by rw [e]; rfl)
  · rename_i e
    split
    · exact laws_withdrawRequest _ (laws_notPermitted (laws_setCs_free h (x := { s.cs with state := .armed }) rfl rfl
        fun b => (h.5 b).notDown (by rw [e]; nofun)) fun _ => rfl)
    · exact unpermitted ‹_›
  · rename_i e
    split
    · exact laws_release _ (fun _ _ => rfl) (laws_backToArmed _ (by rw [e]; nofun) (stays (by rw [e]; rfl)))
    · exact stays (by rw [e]; rfl)
  · rename_i e
    split
    · exact laws_release _ (fun _ _ => rfl)
        (laws_notPermitted (laws_backToArmed _ (by rw [e]; nofun) h) fun _ => rfl)
    · exact unpermitted ‹_›
  · rename_i e
    split
    · exact laws_notPermitted (laws_setCs_of h
        (x := { s.cs with state := .abortReturn, knifeTimer := none, knifeValve := .up, cycle := s.cs.abortedCycle })
        fun b c => ⟨fun _ => c.held (by rw [e]; rfl), nofun, nofun, ⟨nofun, nofun⟩, nofun⟩) fun _ => rfl
    · exact unpermitted ‹_›
  · rename_i e1 e2 e3 e4 e5
    refine stays ?_
    revert e1 e2 e3 e4 e5
    cases s.cs.state <;> simp [CutState.permits]

theorem laws_keyTurnsOn (h : Laws A B C p K s) : Laws A B C p K s.keyTurnsOn := by
  unfold State.keyTurnsOn
  split
  · rename_i e
    exact laws_setCs_free h rfl rfl fun b => (h.5 b).notDown (by rw [e]; nofun)
  · exact h

theorem laws_keyTurnsOff (h : Laws A B C p K s) : Laws A B C p K s.keyTurnsOff := by
  unfold State.keyTurnsOff
  split
  · exact laws_homeOrRecover h
  · exact h

/-- Full pressure drives the knife down, out of CLAMPING. -/
theorem laws_fullPressure (down : B → s.cs.state = .clamping → K) (h : Laws A B C p K s) :
    Laws A B C p K s.fullPressure := by
  unfold State.fullPressure
  split
  · rename_i e
    exact laws_setCs_of h fun b c => ⟨fun _ => c.held (by rw [e]; rfl), fun _ => c.permitted (by rw [e]; rfl),
      fun _ => c.pressed (.inl e), ⟨fun _ => rfl, fun _ => rfl⟩, fun _ => down b e⟩
  · exact h

theorem laws_countStroke (h : Laws A B C p K s) : Laws A B C p K s.countStroke := by
  have counted (n : Nat) : Laws A B C p K (s.setCs { s.cs with counter := n }) := laws_setCs h rfl rfl rfl
  unfold State.countStroke
  dsimp only
  split
  · exact laws_plainWarning _ _ _ (laws_setCs (counted _) rfl rfl rfl)
  · exact counted _

/-- The knife reverses out of CUTTING, the grant still held (R117). -/
theorem laws_reversed {x : CutStation} (e : s.cs.state = .cutting)
    (state : x.state = .returning ∨ x.state = .abortReturn)
    (knife : x.knifeValve = .up) (h : Laws A B C p K s) : Laws A B C p K (s.setCs x) := by
  refine laws_setCs_of h fun b c => ⟨fun _ => c.held (by rw [e]; rfl), ?_, ?_, ⟨by rw [knife]; nofun, ?_⟩,
    by rw [knife]; nofun⟩ <;> obtain e | e := state <;> rw [e] <;> nofun

theorem laws_bottomReached (h : Laws A B C p K s) : Laws A B C p K s.bottomReached := by
  unfold State.bottomReached
  split
  · exact laws_countStroke (laws_reversed ‹_› (.inl rfl) rfl h)
  · exact h

theorem laws_knifeTimedOut (h : Laws A B C p K s) : Laws A B C p K s.knifeTimedOut := by
  unfold State.knifeTimedOut
  split
  · exact laws_reversed ‹_› (.inr rfl) rfl h
  · exact h

theorem laws_cutNowEnded (cause : Nat) (h : Laws A B C p K s) : Laws A B C p K (s.cutNowEnded cause) :=
  laws_plainWarning _ _ _ h

theorem laws_decideBladeReset (h : Laws A B C p K s) : Laws A B C p K (decideBladeReset s).1 := by
  unfold decideBladeReset
  split
  · exact laws_setCs h rfl rfl rfl
  · exact h

theorem laws_csClearFault (h : Laws A B C p K s) : Laws A B C p K s.csClearFault := by
  unfold State.csClearFault
  split
  · exact laws_homeOrRecover h
  · exact h

/-! ### The turner (R155 to R162) -/

theorem laws_gripRequest (h : Laws A B C p K s) : Laws A B C p K s.gripRequest := by
  unfold State.gripRequest
  split
  · exact laws_request _ h
  · exact h

theorem laws_turnTaken (x : TurnRec) (clear : A → x.clearance ≤ Config.gmax) (h : Laws A B C p K s) :
    Laws A B C p K (s.turnTaken x) := by
  refine laws_gripRequest (laws_setPt_of h fun a t => ⟨?_, t.manual⟩)
  rintro _ ⟨⟩
  exact clear a

theorem laws_turnResumed (h : Laws A B C p K s) : Laws A B C p K s.turnResumed := by
  unfold State.turnResumed
  split
  · exact laws_request _ h
  · exact laws_gripRequest (laws_setPt h (.inr (.inr ⟨_, rfl, fun _ => rfl⟩)) (.inl rfl))

theorem laws_gripClosedMade (h : Laws A B C p K s) : Laws A B C p K s.gripClosedMade := by
  unfold State.gripClosedMade
  split
  · exact laws_setPt h (.inl (Turner.gripDone_same _).1) (.inl (Turner.gripDone_same _).2)
  · exact h

theorem laws_quarterMade (h : Laws A B C p K s) : Laws A B C p K s.quarterMade := by
  unfold State.quarterMade
  split
  · dsimp only
    split <;> exact laws_setPt h (.inr (.inr ⟨_, rfl, fun _ => rfl⟩)) (.inl rfl)
  · exact h

theorem laws_turnEnded (cause : Int) (h : Laws A B C p K s) : Laws A B C p K (s.turnEnded cause) :=
  laws_plainWarning _ _ _ h

theorem laws_parkLost (h : Laws A B C p K s) : Laws A B C p K s.parkLost := by
  unfold State.parkLost
  split
  · exact laws_reportFault _ _ (laws_setPt h (.inl rfl) (.inl rfl))
  · exact h

theorem laws_decideTurnerPark (h : Laws A B C p K s) : Laws A B C p K (decideTurnerPark s).1 := by
  unfold decideTurnerPark
  dsimp only
  split
  · exact h
  · split
    · split
      · exact h
      · exact laws_turnResumed h
    · exact laws_request _ (laws_setPt h (.inl rfl) (.inl rfl))

end Sys2Proof.Machine
end

section
/-! SUPPORT. The laws inside a step (`Laws`), kept by the Runner at work and by its requests, one lemma each. -/

namespace Sys2Proof.Machine

variable {A B C : Prop} {p : Bool} {K : Prop} {s : State}

/-! ### Steps and their phases (R74 to R81) -/

theorem laws_inPhase (x : Phase) (h : Laws A B C p K s) : Laws A B C p K (s.inPhase x) := laws_setPr h rfl rfl

theorem laws_enterWait (x : Phase) (h : Laws A B C p K s) : Laws A B C p K (s.enterWait x) :=
  laws_owe (laws_inPhase x h)

theorem laws_advance (h : Laws A B C p K s) : Laws A B C p K s.advance := laws_setPr h rfl rfl

theorem laws_dropPrepared (h : Laws A B C p K s) : Laws A B C p K s.dropPrepared := laws_setGt h rfl rfl rfl (.inr rfl)

theorem laws_holdOr {next : State → State} (hn : Laws A B C p K s → Laws A B C p K (next s)) (h : Laws A B C p K s) :
    Laws A B C p K (s.holdOr next) := by
  unfold State.holdOr
  split
  · exact laws_toHeld _ h
  · exact hn h

theorem laws_handCycle (h : Laws A B C p K s) : Laws A B C p K s.handCycle := by
  unfold State.handCycle
  split
  · split
    · rename_i ready
      exact laws_csTake _ ready (laws_setPr h rfl rfl)
    · exact laws_setPr h rfl rfl
  · exact h

theorem laws_positioned (h : Laws A B C p K s) : Laws A B C p K s.positioned := laws_holdOr laws_handCycle h

/-- The gauge's answer to a move handed to it, the start and the completion at once each under the laws (R103). -/
theorem laws_runnerMove {start : State → Started} {done : State → Bool → State}
    (hs : ∀ t, t.bg.referenced = true → Laws A B C p K t → LawsStarted A B C p K (start t))
    (hd : ∀ t b, Laws A B C p K t → Laws A B C p K (done t b)) (h : Laws A B C p K s) :
    Laws A B C p K (s.runnerMove start done) := by
  unfold State.runnerMove
  split
  · exact laws_setPr h rfl rfl
  · exact laws_reportFault _ _ h
  · exact h
  · exact laws_toHeld _ h
  · rename_i e
    have k := hs (s.setPr { s.pr with waits := .nothing }) (State.moveRefusal_none e) (laws_setPr h rfl rfl)
    split <;> rename_i e2 <;> rw [e2] at k
    · exact k
    · exact hd _ _ k

/-- A turn is handed clear of a position within the travel: that of the turn in hand, or the retract position (R156). -/
theorem laws_handTurn (h : Laws A B C p K s) : Laws A B C p K s.handTurn := by
  have clear (a : A) :
      (if decide (s.pt.state = .interrupted) = true then
        (s.pt.record.map TurnRec.clearance).getD s.pr.retractPos else s.pr.retractPos) ≤ Config.gmax := by
    split
    · cases e : s.pt.record with
      | none => exact (h.2 a).retract
      | some r => exact (h.3 a).record r e
    · exact (h.2 a).retract
  unfold State.handTurn
  dsimp only
  split
  · exact laws_toHeld _ h
  · exact h
  · exact laws_toHeld _ h
  · exact laws_reportFault _ _ h
  · exact laws_runnerMove (fun _ r k => laws_retract _ clear (fun _ => r) k) (fun _ _ k => laws_setPr k rfl rfl)
      (laws_inPhase _ h)
  · split
    · exact laws_turnResumed h
    · split
      · exact laws_turnTaken _ (fun a => (h.2 a).retract) h
      · exact h

theorem laws_retracted (h : Laws A B C p K s) : Laws A B C p K s.retracted := by
  unfold State.retracted
  split
  · exact laws_handTurn (laws_inPhase _ h)
  · exact laws_enterWait _ h

theorem laws_handPositioning (h : Laws A B C p K s) : Laws A B C p K s.handPositioning := by
  unfold State.handPositioning
  split
  · rename_i c e
    exact laws_runnerMove (fun _ _ k => laws_approach _ _ _ (fun a => (h.2 a).figures c e) k)
      (fun _ _ k => laws_positioned (laws_warnBackward _ _ _ k)) h
  · exact h

theorem laws_handRetract (h : Laws A B C p K s) : Laws A B C p K s.handRetract :=
  laws_runnerMove (fun _ r k => laws_retract _ (fun a => (k.2 a).retract) (fun _ => r) k)
    (fun _ _ k => laws_retracted k) h

/-- An iteration fixes figures that passed their check (R75, R61). -/
theorem laws_fixIteration (r : StepRec) (base : Int) (x : Target) (inside : A → InTravel x.target)
    (h : Laws A B C p K s) : Laws A B C p K (s.fixIteration r base x) := by
  have k := laws_warnSaturated x (laws_setGt (x := { s.gt with stepBase := some ⟨s.pr.program, s.pr.step, base⟩ }) h
    rfl rfl rfl (.inl rfl))
  refine laws_setPr_of k fun a _ => ⟨?_, (h.2 a).retract⟩
  rintro _ ⟨⟩
  exact inside a

theorem laws_checkFault (k : FaultKind) (d : Int) (h : Laws A B C p K s) : Laws A B C p K (s.checkFault k d) :=
  laws_reportFault _ _ (laws_inPhase _ h)

theorem laws_iterationFault (g : Int) (k : FaultKind) (d : Int) (h : Laws A B C p K s) :
    Laws A B C p K (s.iterationFault g k d) := by
  refine laws_checkFault _ _ ?_
  split
  · unfold State.warnFailed
    split
    · dsimp only
      split
      · exact h
      · exact laws_warn _ _ _ _ _ h
    · exact h
  · exact h

/-- A target that passes its checks lies within the travel (R61). -/
theorem State.checkCut_inTravel {d : Disposition} {g : Int} {x : Target} (h : s.checkCut d g = .ok x) :
    InTravel x.target := by
  unfold State.checkCut at h
  split at h
  · cases h
  · split at h
    · cases h
    · split at h
      · cases h
      · split at h
        · cases h
        · rename_i inside
          cases h
          simp only [outOfTravel, decide_eq_true_eq, not_or, not_lt] at inside
          exact inside

theorem laws_startIteration (r : StepRec) (h : Laws A B C p K s) : Laws A B C p K (s.startIteration r) := by
  unfold State.startIteration
  dsimp only
  split
  · exact laws_checkFault _ _ h
  · split
    · exact laws_iterationFault _ _ _ h
    · rename_i e
      exact laws_handPositioning (laws_fixIteration _ _ _ (fun _ => State.checkCut_inTravel e) h)

theorem laws_startLoad (h : Laws A B C p K s) : Laws A B C p K s.startLoad := by
  unfold State.startLoad
  split
  · exact laws_checkFault _ _ h
  · split
    · exact laws_checkFault _ _ h
    · exact laws_enterWait _ h

theorem State.checkTurn_le {r : Int} (h : s.checkTurn = .ok r) : r ≤ Config.gmax := by
  unfold State.checkTurn at h
  split at h
  · cases h
  · dsimp only at h
    split at h
    · cases h
    · cases h
      omega

/-- The Runner with a retract position of at most GMAX. -/
theorem laws_setRetract {x : Runner} (figures : x.figures = s.pr.figures) (retract : x.retractPos ≤ Config.gmax)
    (h : Laws A B C p K s) : Laws A B C p K (s.setPr x) :=
  laws_setPr_of h fun _ t => ⟨by rw [figures]; exact t.figures, retract⟩

theorem laws_startTurn (h : Laws A B C p K s) : Laws A B C p K s.startTurn := by
  unfold State.startTurn
  split
  · exact laws_checkFault _ _ h
  · split
    · exact laws_checkFault _ _ h
    · rename_i e
      exact laws_handRetract (laws_setRetract rfl (State.checkTurn_le e) h)

theorem laws_startEject (d : Disposition) (h : Laws A B C p K s) : Laws A B C p K (s.startEject d) := by
  unfold State.startEject
  split
  · exact laws_checkFault _ _ h
  · exact laws_enterWait _ h

theorem State.clearOf_le (s : State) (d : Nat) : s.clearOf d ≤ Config.gmax := min_le_left _ _

theorem laws_startRecall (h : Laws A B C p K s) : Laws A B C p K s.startRecall := by
  unfold State.startRecall
  split
  · exact laws_checkFault _ _ h
  · split
    · exact laws_checkFault _ _ h
    · exact laws_handRetract (laws_setRetract rfl (s.clearOf_le _) h)

theorem laws_startPause (h : Laws A B C p K s) : Laws A B C p K s.startPause := by
  unfold State.startPause
  dsimp only
  split
  · exact laws_endReady _ _ (laws_advance h)
  · exact laws_toHeld _ (laws_advance h)

theorem laws_startStep (h : Laws A B C p K s) : Laws A B C p K s.startStep := by
  unfold State.startStep
  split
  · exact h
  · split
    · exact laws_startIteration _ h
    · exact laws_startTurn h
    · exact laws_startLoad h
    · exact laws_startEject _ h
    · exact laws_startRecall h
    · exact laws_startPause h

/-! ### The step boundary (R71 to R73) -/

theorem laws_boundaryHold (h : Laws A B C p K s) : Laws A B C p K s.boundaryHold := by
  refine laws_holdOr (fun h => ?_) h
  split
  · exact laws_toHeld _ h
  · exact laws_startStep h

theorem laws_boundaryLimit {next : State → State} (hn : ∀ t, Laws A B C p K t → Laws A B C p K (next t))
    (h : Laws A B C p K s) : Laws A B C p K (s.boundaryLimit next) := by
  unfold State.boundaryLimit
  split
  · exact laws_endReady _ _ h
  · exact hn _ h

theorem laws_followLink {next : State → State} (hn : ∀ t, Laws A B C p K t → Laws A B C p K (next t))
    (h : Laws A B C p K s) : Laws A B C p K (s.followLink next) := by
  unfold State.followLink
  split
  · exact laws_endReady _ _ h
  · split
    · split
      · exact laws_boundaryLimit hn (laws_setPr h rfl rfl)
      · exact laws_reportFault _ _ h
    · exact laws_reportFault _ _ h

theorem laws_boundaryBy {next : State → State} (hn : ∀ t, Laws A B C p K t → Laws A B C p K (next t))
    (h : Laws A B C p K s) : Laws A B C p K (s.boundaryBy next) := by
  unfold State.boundaryBy
  split
  · exact laws_followLink hn h
  · exact laws_boundaryLimit hn h

theorem laws_boundary (h : Laws A B C p K s) : Laws A B C p K s.boundary :=
  laws_boundaryBy (fun _ => laws_boundaryHold) h

theorem laws_finishStep (h : Laws A B C p K s) : Laws A B C p K s.finishStep := laws_boundary (laws_advance h)

/-- The contact of a table load no deeper than the travel lies within it (R57). -/
theorem State.contactPosition_inTravel (h : TrackerTravel s.gt) : InTravel s.contactPosition := by
  unfold State.contactPosition
  split
  · rename_i t e
    have := h.table t e
    unfold Machine.contactPosition InTravel
    simp only [Config.gmin, Config.gmax] at *
    omega
  · decide

theorem laws_handContact (h : Laws A B C p K s) : Laws A B C p K s.handContact :=
  laws_runnerMove (fun _ _ k => laws_approach _ _ _ (fun a => State.contactPosition_inTravel (k.4 a)) k)
    (fun _ _ k => laws_finishStep (laws_warnBackward _ _ _ k)) (laws_inPhase _ h)

theorem laws_nextIteration (r : StepRec) (h : Laws A B C p K s) : Laws A B C p K (s.nextIteration r) := by
  unfold State.nextIteration
  dsimp only
  refine laws_holdOr (fun h => ?_) (laws_inPhase _ h)
  split
  · exact laws_toHeld _ h
  · exact laws_startIteration _ h

theorem laws_resume (h : Laws A B C p K s) : Laws A B C p K s.resume := by
  unfold State.resume
  split
  · exact laws_boundary h
  · split
    · exact laws_startIteration _ h
    · exact h
  · split
    · exact laws_startIteration _ h
    · exact h
  · exact h
  · exact h
  · exact h
  · exact laws_handRetract h
  · exact laws_handContact h
  · exact laws_handTurn h

/-! ### The ends of work in flight (R75, R76, R79, R85 to R87, R91) -/

theorem laws_doSkip (h : Laws A B C p K s) : Laws A B C p K s.doSkip := by
  have k := laws_dropPrepared (laws_advance h)
  unfold State.doSkip
  dsimp only
  split
  · exact k
  · split
    · exact laws_boundary k
    · exact laws_boundaryBy (fun _ => id) k
    · exact k

theorem laws_afterWork {next : State → State} (hn : Laws A B C p K s → Laws A B C p K (next s))
    (h : Laws A B C p K s) : Laws A B C p K (s.afterWork next) := by
  unfold State.afterWork
  split
  · exact laws_abortEnd h
  · split
    · exact laws_doSkip h
    · exact hn h

theorem laws_runnerCycleDone (h : Laws A B C p K s) : Laws A B C p K s.runnerCycleDone := by
  refine laws_afterWork (fun h => ?_) h
  split
  · exact h
  · rename_i r _
    have k : Laws A B C p K
        (s.setPr { s.pr with iter := s.pr.iter + 1, singleStep := true, noticeDue := true }) := laws_setPr h rfl rfl
    dsimp only
    split
    · split
      · exact laws_finishStep k
      · exact laws_advance k
    · split
      · exact laws_nextIteration _ k
      · exact laws_inPhase _ k

theorem laws_runnerCycleAborted (h : Laws A B C p K s) : Laws A B C p K s.runnerCycleAborted := by
  refine laws_afterWork (fun h => ?_) h
  split
  · exact laws_toHeld _ h
  · exact h

theorem laws_runnerMoveDone (h : Laws A B C p K s) : Laws A B C p K s.runnerMoveDone := by
  refine laws_afterWork (fun h => ?_) h
  split
  · exact laws_positioned h
  · exact laws_retracted h
  · exact laws_finishStep h
  · split
    · exact laws_inPhase _ h
    · exact laws_enterWait _ h
  · exact laws_advance h
  · exact h

theorem laws_runnerMoveStopped (byGuard : Bool) (h : Laws A B C p K s) :
    Laws A B C p K (s.runnerMoveStopped byGuard) := by
  have held : Laws A B C p K (if byGuard = true ∧ s.pr.state = .running then s.toHeld .guardOpen else s) := by
    split
    · exact laws_toHeld _ h
    · exact h
  unfold State.runnerMoveStopped
  split
  · exact laws_abortEnd h
  · dsimp only
    revert held
    generalize (if byGuard = true ∧ s.pr.state = .running then s.toHeld .guardOpen else s) = t
    intro held
    split
    · exact laws_doSkip held
    · exact held

theorem laws_runnerTurnDone (h : Laws A B C p K s) : Laws A B C p K s.runnerTurnDone := by
  refine laws_afterWork (fun h => ?_) h
  split
  · exact laws_handContact h
  · exact laws_inPhase _ h

theorem laws_runnerTurnStopped (byGuard : Bool) (h : Laws A B C p K s) :
    Laws A B C p K (s.runnerTurnStopped byGuard) := by
  refine laws_afterWork (fun h => ?_) h
  split
  · exact laws_toHeld _ h
  · exact h

/-! ### What the Runner does as soon as it can (R77, R83, R103) -/

theorem laws_withdrawRunner (h : Laws A B C p K s) : Laws A B C p K s.withdrawRunner := by
  unfold State.withdrawRunner
  split
  · exact laws_csWithdraw h
  · exact h

theorem laws_pendingAtArmed (h : Laws A B C p K s) : Laws A B C p K s.pendingAtArmed := by
  unfold State.pendingAtArmed
  split
  · exact laws_afterWork id (laws_withdrawRunner h)
  · exact h

theorem laws_takeHold (h : Laws A B C p K s) : Laws A B C p K s.takeHold := by
  unfold State.takeHold
  split
  · split
    · exact laws_toHeld _ (laws_withdrawRunner h)
    · exact h
  · exact h

theorem State.checkReady_le {w ls : Nat} (h : s.checkReady = .ok (w, ls)) : ls ≤ Config.gmax := by
  unfold State.checkReady at h
  split at h
  · cases h
  · split at h
    · cases h
    · split at h
      · cases h
      · cases h
        omega

theorem laws_infeedLook (h : Laws A B C p K s) : Laws A B C p K s.infeedLook := by
  unfold State.infeedLook
  split
  · split
    · split
      · exact laws_checkFault _ _ h
      · rename_i w ls e
        have prepared : Laws A B C p K (s.setGt { s.gt with prepared := some (w, ls) }) := by
          refine laws_setGt_of h (fun a t => ⟨t.table, t.aside, ?_⟩) fun _ k => ⟨k.area, k.table, k.aside⟩
          rintro _ ⟨⟩
          exact State.checkReady_le e
        exact laws_handRetract (laws_setRetract rfl (s.clearOf_le _) prepared)
    · split
      · exact laws_toHeld _ h
      · exact h
    · exact h
  · exact h

theorem laws_handAgain (h : Laws A B C p K s) : Laws A B C p K s.handAgain := by
  unfold State.handAgain
  split
  · exact h
  · split
    · exact h
    · split
      · exact laws_holdOr laws_handCycle h
      · exact h
    · split
      · exact laws_handPositioning h
      · exact laws_handRetract h
      · exact laws_handContact h
      · exact h

/-! ### The Runner's requests (04) -/

theorem laws_decideSelect (body : List Byte) (h : Laws A B C p K s) : Laws A B C p K (decideSelect body s).1 := by
  unfold decideSelect
  dsimp only
  split
  · exact h
  · exact laws_setPr h rfl rfl

theorem laws_decideRun (body : List Byte) (h : Laws A B C p K s) : Laws A B C p K (decideRun body s).1 := by
  unfold decideRun
  dsimp only
  split
  · exact h
  · exact laws_resume (laws_setPr h rfl rfl)

theorem laws_decideHold (h : Laws A B C p K s) : Laws A B C p K (decideHold s).1 := by
  unfold decideHold
  split
  · exact h
  · split
    · exact laws_setPr h rfl rfl
    · exact h
    · exact h

theorem laws_decideSkip (h : Laws A B C p K s) : Laws A B C p K (decideSkip s).1 := by
  unfold decideSkip
  split
  · exact h
  · split
    · exact laws_setPr h rfl rfl
    · exact laws_doSkip (laws_withdrawRunner h)

theorem laws_decideAbort (h : Laws A B C p K s) : Laws A B C p K (decideAbort s).1 := by
  unfold decideAbort
  split
  · exact h
  · split
    · exact h
    · exact laws_goIdle h
    · split
      · exact laws_withdrawRunner (laws_setPr h rfl rfl)
      · exact laws_abortEnd (laws_withdrawRunner h)

theorem laws_locateAt (program index : Nat) (h : Laws A B C p K s) : Laws A B C p K (s.locateAt program index) :=
  laws_dropPrepared (laws_setPr h rfl rfl)

theorem laws_decideLocate (body : List Byte) (h : Laws A B C p K s) : Laws A B C p K (decideLocate body s).1 := by
  unfold decideLocate
  split
  · unfold locateByIndex
    dsimp only
    split
    · exact h
    · exact laws_locateAt _ _ h
  · unfold locateLabel
    split
    · exact h
    · split
      · exact h
      · split
        · exact h
        · split
          · exact h
          · exact laws_locateAt _ _ h
  · exact h

theorem laws_runnerCleared (h : Laws A B C p K s) : Laws A B C p K s.runnerCleared := by
  have k : Laws A B C p K (s.setPr { s.pr with fault := none, second := false }) := laws_setPr h rfl rfl
  unfold State.runnerCleared
  dsimp only
  split
  · exact laws_toHeld _ k
  · exact k

theorem Supply.clearFault_holder (h : Supply) : h.clearFault.holder = h.holder := by
  unfold Supply.clearFault
  split <;> rfl

theorem laws_slotCleared (h : Laws A B C p K s) : Laws A B C p K s.slotCleared := by
  unfold State.slotCleared
  split
  · exact laws_slotEnter _ _ h
  · exact h

theorem laws_gaugeCleared (h : Laws A B C p K s) : Laws A B C p K s.gaugeCleared := by
  unfold State.gaugeCleared
  split
  · exact laws_setBg h fun _ g => g.same rfl rfl rfl rfl rfl
  · exact h

theorem laws_decideClearFault (h : Laws A B C p K s) : Laws A B C p K (decideClearFault s).1 := by
  unfold decideClearFault
  split
  · exact h
  · exact laws_csClearFault (laws_gaugeCleared (laws_slotCleared
      (laws_setHs (laws_runnerCleared h) (Supply.clearFault_holder _))))

theorem laws_decideLineHalt (body : List Byte) (h : Laws A B C p K s) : Laws A B C p K (decideLineHalt body s).1 := by
  unfold decideLineHalt
  split
  · exact laws_setPr h rfl rfl
  · exact laws_setPr h rfl rfl
  · exact h

/-- In PLACE_WAIT the step's checks hold: the table of a RECALL is empty, and so is the aside stack of a LOAD (R55). -/
def PlaceFits (s : State) : Prop :=
  s.pr.phase = .placeWait → ∀ r, s.currentStep = some r →
    (r.kind = .recall → s.gt.table = none) ∧ (r.kind = .load → s.gt.aside = [])

theorem laws_placed (fits : C → PlaceFits s) (waits : s.pr.phase = .placeWait) (h : Laws A B C p K s) :
    Laws A B C p K s.placed := by
  have kind {k : StepKind} (e : s.stepKind = some k) : ∃ r, s.currentStep = some r ∧ r.kind = k :=
    Option.map_eq_some_iff.mp e
  unfold State.placed
  split
  · rename_i w ls e prepared
    obtain ⟨r, er, ek⟩ := kind e
    exact laws_handContact (laws_slotEmptied (laws_openWith _ _ _ _ (fun a => (h.4 a).prepared _ prepared)
      (fun c => (fits c waits r er).2 ek) h))
  · rename_i e
    obtain ⟨r, er, ek⟩ := kind e
    exact laws_handContact (laws_recallTop (fun c => (fits c waits r er).1 ek) h)
  · exact h

theorem laws_removed (h : Laws A B C p K s) : Laws A B C p K s.removed := laws_finishStep (laws_eject _ h)

theorem laws_pauseConfirmed (h : Laws A B C p K s) : Laws A B C p K s.pauseConfirmed :=
  laws_boundary (laws_setPr h rfl rfl)

theorem laws_confirmed (fits : C → PlaceFits s) (h : Laws A B C p K s) {t : State} (e : s.confirmed = some t) :
    Laws A B C p K t := by
  unfold State.confirmed at e
  split at e <;> cases e
  · exact laws_placed fits ‹_› h
  · exact laws_removed h
  · exact laws_pauseConfirmed h

theorem laws_decideConfirm (fits : C → PlaceFits s) (h : Laws A B C p K s) : Laws A B C p K (decideConfirm s).1 := by
  unfold decideConfirm
  split
  · exact laws_confirmed fits h ‹_›
  · exact h

end Sys2Proof.Machine
end

section
/-! SUPPORT. The laws inside a step (`Laws`), kept by the ends of operations at their issuers, by the manual requests
and
by the settling of the blocks, one lemma each. -/

namespace Sys2Proof.Machine

variable {A B C : Prop} {p : Bool} {K : Prop} {s : State}

/-! ### Cycles (R75, R76, R118, R119) -/

theorem laws_cycleCompleted (c : Cycle) (h : Laws A B C p K s) : Laws A B C p K (s.cycleCompleted c) := by
  unfold State.cycleCompleted
  dsimp only
  split
  · exact laws_runnerCycleDone (laws_applyCut c h)
  · exact laws_applyCut c h

theorem laws_cycleAborted (c : Cycle) (h : Laws A B C p K s) : Laws A B C p K (s.cycleAborted c) := by
  have reported : Laws A B C p K
      (if c.mark = .timedOut then
        (s.applyAborted c).reportFault .knifeTimeout (if c.tracked then c.nominal else 0) else s.applyAborted c) := by
    split
    · exact laws_reportFault _ _ (laws_applyAborted c h)
    · exact laws_applyAborted c h
  unfold State.cycleAborted
  dsimp only
  revert reported
  generalize (if c.mark = .timedOut then
    (s.applyAborted c).reportFault .knifeTimeout (if c.tracked then c.nominal else 0) else s.applyAborted c) = t
  intro reported
  split
  · exact laws_runnerCycleAborted reported
  · exact reported

theorem laws_cycleDropped (c : Cycle) (cause : Nat) (h : Laws A B C p K s) :
    Laws A B C p K (s.cycleDropped c cause) := by
  unfold State.cycleDropped
  split
  · exact laws_cutNowEnded _ h
  · split
    · exact laws_afterWork id h
    · exact h

theorem laws_cycleCut (c : Option Cycle) (cause : Nat) (h : Laws A B C p K s) :
    Laws A B C p K (s.cycleCut c cause) := by
  unfold State.cycleCut
  split
  · split
    · exact laws_cycleAborted _ h
    · exact laws_cycleDropped _ _ h
  · exact h

/-- A station that has come to rest in a free state gives its grant back. -/
theorem laws_restRelease {x : CutStation} (holds : x.state.holds = false) (permits : x.state.permits = false)
    (knife : x.knifeValve ≠ .down) (h : Laws A B C p K s) : Laws A B C p K ((s.setCs x).release .cut) :=
  laws_release _ (fun _ _ => holds) (laws_setCs_free h holds permits fun _ => knife)

theorem laws_returnEnded (h : Laws A B C p K s) : Laws A B C p K s.returnEnded := by
  unfold State.returnEnded
  split
  · have freed := laws_restRelease (x := s.cs.rest s.readyState) s.readyState_free.1 s.readyState_free.2 nofun h
    dsimp only
    split
    · exact laws_cycleCompleted _ freed
    · exact freed
  · refine laws_cycleCut _ _ (laws_restRelease ?_ ?_ nofun h)
    · cases s.cs.timedOut
      · exact s.readyState_free.1
      · rfl
    · cases s.cs.timedOut
      · exact s.readyState_free.2
      · rfl
  · exact h

theorem laws_recoverEnded (h : Laws A B C p K s) : Laws A B C p K s.recoverEnded := by
  unfold State.recoverEnded
  split
  · have freed := laws_restRelease (x := { s.cs.rest s.readyState with pendingDone := none }) s.readyState_free.1
      s.readyState_free.2 nofun h
    dsimp only
    split
    · exact laws_cycleCompleted _ freed
    · exact freed
  · exact h

theorem laws_clampTimedOut (h : Laws A B C p K s) : Laws A B C p K s.clampTimedOut := by
  unfold State.clampTimedOut
  split
  · have reported := laws_reportFault .clampTimeout Config.clampMs
      (laws_restRelease (x := s.cs.rest .fault) rfl rfl nofun h)
    dsimp only
    split
    · exact laws_cycleDropped _ _ reported
    · exact reported
  · exact h

/-! ### The end of the station's grant, and its soft reset (R121, R127) -/

/-- A station at rest keeps its law whoever held what before. -/
theorem laws_freed {x : CutStation} (h : Laws A False C p K s) (holds : x.state.holds = false)
    (permits : x.state.permits = false) (knife : B → x.knifeValve ≠ .down) : Laws A B C p K (s.setCs x) :=
  ⟨h.1, h.2, h.3, h.4, fun b => .free holds permits (knife b), h.6⟩

theorem laws_stopKnife_freed (h : Laws A False C p K s) : Laws A B C p K s.stopKnife :=
  laws_recoverRequest (laws_freed h rfl rfl fun _ => nofun)

theorem laws_returnCut_freed (h : Laws A False C p K s) : Laws A B C p K s.returnCut :=
  laws_stopKnife_freed (laws_setCs h rfl rfl rfl)

theorem laws_timedOutOrStopped (h : Laws A False C p K s) :
    Laws A B C p K (if s.cs.timedOut then s.setCs (s.cs.rest .fault) else s.stopKnife) := by
  split
  · exact laws_freed h rfl rfl fun _ => nofun
  · exact laws_stopKnife_freed h

/-- A station that loses its grant leaves every state that needs it, and drives the knife no further. -/
theorem laws_csRevoked (cut : B → ∃ holder, CutLaw p K s.cs holder) (h : Laws A False C p K s) :
    Laws A B C p K s.csRevoked := by
  have knife (e : s.cs.state ≠ .cutting) (b : B) : s.cs.knifeValve ≠ .down := by
    obtain ⟨_, c⟩ := cut b
    exact c.notDown e
  unfold State.csRevoked
  split
  · rename_i e
    exact laws_freed h rfl rfl (knife (by rw [e]; nofun))
  · rename_i e
    exact laws_freed h rfl rfl (knife (by rw [e]; nofun))
  · exact laws_cycleCut _ _ (laws_stopKnife_freed h)
  · exact laws_cycleCut _ _ (laws_timedOutOrStopped h)
  · exact laws_returnCut_freed h
  · rename_i e
    exact laws_recoverRequest (laws_freed h (by rw [e]; rfl) (by rw [e]; rfl) fun _ => nofun)
  · rename_i e1 e2 e3 e4 e5 e6
    by_cases permits : s.cs.state.permits = true
    · have waits : s.cs.state = .grantWait := by
        revert e2 e3 permits
        cases s.cs.state <;> simp [CutState.permits]
      exact ⟨h.1, h.2, h.3, h.4, fun b => by
        obtain ⟨_, c⟩ := cut b
        exact ⟨by rw [waits]; nofun, c.permitted, c.pressed, c.knife, c.driven⟩, h.6⟩
    · refine ⟨h.1, h.2, h.3, h.4, fun b => .free ?_ (Bool.eq_false_iff.mpr permits) (knife e3 b), h.6⟩
      revert e1 e2 e3 e4 e5
      cases s.cs.state <;> simp [CutState.holds]

theorem laws_waitingCutEnds (cause : Nat) (h : Laws A B C p K s) : Laws A B C p K (s.waitingCutEnds cause) := by
  unfold State.waitingCutEnds
  split
  · split
    · exact laws_cutNowEnded _ (laws_setCs h rfl rfl rfl)
    · exact h
  · exact h

/-- The travel and the account at an emergency stop of the station; its own law is `csEstop_free`. -/
theorem laws_csEstop (h : Laws A False C p K s) : Laws A False C p K s.csEstop := by
  unfold State.csEstop
  refine laws_waitingCutEnds _ ?_
  split
  · exact laws_cycleCut _ _ (laws_homeOrRecover h)
  · exact laws_cycleCut _ _ (laws_homeOrRecover h)
  · exact laws_cycleCut _ _ (laws_homeOrRecover h)
  · exact laws_cycleCut _ _ (laws_homeOrRecover h)
  · exact laws_cycleCut _ _ (laws_stopKnife h)
  · exact laws_cycleCut _ _ (laws_timedOutOrStopped h)
  · exact laws_returnCut_freed h
  · exact laws_setCs_of h fun b => b.elim
  · exact h
  · exact h
  · exact h

theorem laws_csReset (h : Laws A B C p K s) : Laws A B C p K s.csReset := by
  unfold State.csReset
  refine laws_waitingCutEnds _ ?_
  split
  · exact laws_cycleCut _ _ (laws_csWithdraw h)
  · exact laws_cycleCut _ _ (laws_csWithdraw h)
  · exact laws_cycleCut _ _ (laws_csWithdraw h)
  · rename_i e
    exact laws_setCs_of h fun b c => ⟨fun _ => c.held (by rw [e]; rfl), nofun, nofun,
      ⟨fun d => absurd d (c.notDown (by rw [e]; nofun)), nofun⟩, c.driven⟩
  · rename_i e
    exact laws_reversed e (.inr rfl) rfl h
  · exact h

theorem laws_csFollow (h : Laws A B C p K s) : Laws A B C p K s.csFollow := by
  unfold State.csFollow
  split
  · split
    · split
      · split
        · exact h
        · exact laws_csWithdraw h
      · split
        · exact laws_cutNowEnded _ (laws_csWithdraw h)
        · exact h
    · exact h
  · exact h

theorem laws_manualCutNext (h : Laws A B C p K s) : Laws A B C p K s.manualCutNext := by
  unfold State.manualCutNext
  split
  · split
    · split
      · exact laws_cutNowEnded _ (laws_setCs h rfl rfl rfl)
      · split
        · rename_i ready
          exact laws_csTake (s := s.setCs { s.cs with manual := none }) _ ready (laws_setCs h rfl rfl rfl)
        · exact h
    · exact h
  · exact h

theorem State.warnBackward_cs (s : State) (backward tracked : Bool) (t : Int) :
    (s.warnBackward backward tracked t).cs = s.cs := by
  unfold State.warnBackward
  split
  · split
    · exact (s.loadWarning_blocks _ _).2.2.2.1
    · rfl
  · rfl

theorem laws_manualCutApproached (backward : Bool) (h : Laws A B C p K s) :
    Laws A B C p K (s.manualCutApproached backward) := by
  unfold State.manualCutApproached
  split
  · refine laws_manualCutNext (laws_setCs (laws_warnBackward _ _ _ h) ?_ ?_ ?_) <;> rw [State.warnBackward_cs]
  · exact h

theorem laws_manualCutFailed (cause : Nat) (h : Laws A B C p K s) : Laws A B C p K (s.manualCutFailed cause) := by
  unfold State.manualCutFailed
  split
  · exact laws_cutNowEnded _ (laws_setCs h rfl rfl rfl)
  · exact h

/-! ### Turns (R157 to R163) -/

theorem laws_manualTurnEnds (cause : Int) (h : Laws A B C p K s) : Laws A B C p K (s.manualTurnEnds cause) := by
  unfold State.manualTurnEnds
  split
  · exact laws_turnEnded _ (laws_setPt h (.inl rfl) (.inr rfl))
  · exact h

/-- The turner with a manual turn in another stage of its own. -/
theorem laws_setManualTurn {m m' : ManualTurn} (e : s.pt.manual = some m) (clearance : m'.clearance = m.clearance)
    (h : Laws A B C p K s) : Laws A B C p K (s.setPt { s.pt with manual := some m' }) := by
  refine laws_setPt_of h fun _ t => ⟨t.record, ?_⟩
  rintro _ ⟨⟩
  rw [clearance]
  exact t.manual m e

theorem laws_manualTurnRetracted (h : Laws A B C p K s) : Laws A B C p K s.manualTurnRetracted := by
  unfold State.manualTurnRetracted
  split
  · exact h
  · rename_i m e
    split
    · exact laws_manualTurnEnds _ h
    · split
      · exact laws_turnTaken _ (fun a => (h.3 a).manual m e)
          (laws_setManualTurn (m' := { m with stage := .turn }) e rfl h)
      · exact laws_manualTurnEnds _ h

theorem laws_manualTurnContacted (backward : Bool) (h : Laws A B C p K s) :
    Laws A B C p K (s.manualTurnContacted backward) := laws_manualTurnEnds _ (laws_warnBackward _ _ _ h)

theorem laws_manualTurnMade {m : ManualTurn} (e : s.pt.manual = some m) (h : Laws A B C p K s) :
    Laws A B C p K (s.manualTurnMade m) := by
  unfold State.manualTurnMade
  split
  · exact laws_manualTurnEnds _ h
  · split
    · exact laws_manualTurnEnds _ h
    · have touching := laws_setManualTurn (m' := { m with stage := .contact }) e rfl h
      dsimp only
      split
      · exact laws_manualTurnEnds _ touching
      · have k := laws_approach .manualTurn false .approach
          (fun a => State.contactPosition_inTravel (touching.4 a)) touching
        split <;> rename_i e2 <;> rw [e2] at k
        · exact k
        · exact laws_manualTurnContacted _ k

theorem laws_manualTurnMoved (backward : Bool) (h : Laws A B C p K s) :
    Laws A B C p K (s.manualTurnMoved backward) := by
  unfold State.manualTurnMoved
  split
  · exact laws_manualTurnContacted _ h
  · exact laws_manualTurnRetracted h

theorem laws_turnReported (r : TurnRec) (h : Laws A B C p K s) : Laws A B C p K (s.turnReported r) := by
  unfold State.turnReported
  split
  · split
    · exact laws_runnerTurnDone h
    · exact h
  · exact laws_manualTurnMade ‹_› h
  · exact laws_turnEnded _ h
  · exact laws_turnEnded _ h

theorem State.raiseMeasured_gt (s : State) (m : Nat) : (s.raiseMeasured m).gt = s.gt := by
  unfold State.raiseMeasured State.takeOffMeasured State.slotNotice
  dsimp only
  split
  · split <;> rfl
  · rfl
  · rfl

theorem State.grantOther_gt (s : State) : s.grantOther.gt = s.gt := by
  have station (t : State) : t.csGranted.gt = t.gt := by
    unfold State.csGranted
    split <;> rfl
  have turner (t : State) : t.ptGranted.gt = t.gt := by
    unfold State.ptGranted
    split
    · dsimp only
      split <;> rfl
    · rfl
    · split <;> rfl
    · rfl
  unfold State.grantOther
  split
  · exact station _
  · exact turner _
  · rfl
  · rfl

theorem State.releasedBy_gt {next : State → State} (hn : ∀ t, (next t).gt = t.gt) (s : State) :
    (s.releasedBy next).gt = s.gt := by
  unfold State.releasedBy
  dsimp only
  split
  · rfl
  · split
    · exact hn _
    · rfl

/-- Giving a grant back, and granting, is none of the tracker's. -/
theorem State.release_gt (s : State) (c : Consumer) : (s.release c).gt = s.gt := by
  have decide_ (t : State) : t.decideGrant.gt = t.gt := by
    unfold State.decideGrant
    split
    · dsimp only
      split
      · exact (State.releasedBy_gt State.grantOther_gt _).trans (State.raiseMeasured_gt _ _)
      · unfold State.liftGranted
        split <;> rfl
    · exact State.grantOther_gt _
  unfold State.release
  split
  · exact State.releasedBy_gt decide_ _
  · rfl

/-- The turn in hand fits: the load it turns is no longer than the travel (R55). -/
def TurnFits (s : State) : Prop :=
  ∀ r x, s.pt.record = some r → r.tracked = true → s.gt.table = some x → x.loadId = r.loadId → x.len ≤ Config.gmax

theorem laws_parkMade (fits : A → TurnFits s) (h : Laws A B C p K s) : Laws A B C p K s.parkMade := by
  unfold State.parkMade
  split
  · have parked : Laws A B C p K ((s.setPt s.pt.parked).release .turn) :=
      laws_release _ nofun (laws_setPt h (.inr (.inl rfl)) (.inl rfl))
    dsimp only
    split
    · rename_i r e
      refine laws_turnReported _ (laws_applyTurn _ _ _ (fun a tracked t table => ?_) parked)
      rw [State.release_gt] at table
      exact fits a r t e tracked table
    · exact laws_turnEnded _ parked
  · exact h

theorem laws_turnGivenUp (cause : Nat) (h : Laws A B C p K s) : Laws A B C p K (s.turnGivenUp cause) := by
  unfold State.turnGivenUp
  split
  · exact laws_giveUp _ nofun h
  · exact h

theorem laws_turnInterrupted (cause : Nat) (h : Laws A B C p K s) : Laws A B C p K (s.turnInterrupted cause) := by
  unfold State.turnInterrupted
  split
  · split
    · exact laws_turnEnded _ (laws_turnGivenUp _ (laws_setPt h (.inl rfl) (.inl rfl)))
    · have given : Laws A B C p K ((s.setPt (s.pt.interrupt s.runOpen)).turnGivenUp cause) :=
        laws_turnGivenUp _ (laws_setPt h (.inr (.inr ⟨_, rfl, fun _ => rfl⟩)) (.inl rfl))
      dsimp only
      split
      · split
        · exact laws_runnerTurnStopped _ given
        · exact given
      · exact laws_manualTurnEnds _ given
      · exact laws_turnEnded _ given
  · exact h

theorem laws_ptReset (h : Laws A B C p K s) : Laws A B C p K s.ptReset := by
  refine laws_setPt_of h fun _ t => ⟨fun r hr => ?_, fun m hm => ?_⟩
  · obtain e | e | ⟨f, e, same⟩ := (Turner.orphan_same s.pt).1
    · exact t.record r (e ▸ hr)
    · exact absurd (e.symm.trans hr) nofun
    · obtain ⟨r', e', rfl⟩ := Option.map_eq_some_iff.mp (e.symm.trans hr)
      rw [same]
      exact t.record r' e'
  · obtain ⟨m', e, rfl⟩ := Option.map_eq_some_iff.mp hm
    split
    · exact t.manual m' e
    · exact t.manual m' e

/-! ### Gauge moves (R105 to R110) -/

theorem laws_slotAfter (e : MoveEnd) (h : Laws A B C p K s) : Laws A B C p K (s.slotAfter e) := by
  unfold State.slotAfter
  split
  · exact laws_slotNext h
  · exact laws_slotNext h
  · exact laws_slotCancel h
  · exact laws_slotCancel h
  · exact laws_slotCancel h

theorem laws_moveDoneAt (m : Move) (backward : Bool) (h : Laws A B C p K s) :
    Laws A B C p K (s.moveDoneAt m backward) := by
  unfold State.moveDoneAt
  split
  · split
    · exact laws_runnerMoveDone (laws_warnBackward _ _ _ h)
    · exact h
  · exact laws_manualCutApproached _ h
  · exact laws_manualTurnMoved _ h
  · exact laws_slotNext (laws_gaugeDone _ _ _ _ _ h)
  · exact laws_slotNext (laws_gaugeDone _ _ _ _ _ h)

theorem laws_moveCutAt (m : Move) (e : MoveEnd) (h : Laws A B C p K s) : Laws A B C p K (s.moveCutAt m e) := by
  unfold State.moveCutAt
  split
  · split
    · exact laws_runnerMoveStopped _ h
    · exact h
  · exact laws_manualCutFailed _ h
  · exact laws_manualTurnEnds _ h
  · exact laws_slotAfter _ (laws_gaugeDone _ _ _ _ _ h)
  · exact laws_slotAfter _ (laws_gaugeDone _ _ _ _ _ h)

theorem laws_gaugeSegmentEnd (h : Laws A B C p K s) : Laws A B C p K s.gaugeSegmentEnd := by
  have k := laws_segmentEnded h
  unfold State.gaugeSegmentEnd
  split <;> rename_i e <;> rw [e] at k
  · exact laws_moveDoneAt _ _ k
  · exact k

theorem laws_gaugeGuard (h : Laws A B C p K s) : Laws A B C p K s.gaugeGuard := by
  unfold State.gaugeGuard
  split
  · split
    · exact laws_moveCutAt _ _ (laws_gaugeStopped h)
    · exact laws_gaugeStopped h
  · exact h

theorem laws_gaugeFault (k : FaultKind) (detail : Int) (h : Laws A B C p K s) :
    Laws A B C p K (s.gaugeFault k detail) := by
  have reported := laws_reportFault k detail (laws_gaugeFaulted h)
  unfold State.gaugeFault
  dsimp only
  split
  · exact laws_slotCancel (laws_moveCutAt _ _ reported)
  · exact laws_slotCancel reported

theorem laws_gaugeEstop (h : Laws A B C p K s) : Laws A B C p K s.gaugeEstop := by
  unfold State.gaugeEstop
  refine laws_slotCancel ?_
  split
  · split
    · exact laws_moveCutAt _ _ (laws_gaugeStopped h)
    · exact laws_gaugeStopped h
  · exact laws_notInPos h

theorem laws_gaugeReset (h : Laws A B C p K s) : Laws A B C p K s.gaugeReset := by
  unfold State.gaugeReset
  refine laws_slotCancel ?_
  split
  · split
    · exact laws_moveCutAt _ _ (laws_gaugeStopped h)
    · exact laws_gaugeStopped h
  · exact h

/-! ### Raises and pressure (R135, R141, R142) -/

theorem laws_raiseEnded (m : Nat) (h : Laws A B C p K s) : Laws A B C p K (s.raiseEnded m) := by
  unfold State.raiseEnded
  split
  · exact laws_release _ nofun (laws_raiseMeasured _ h)
  · exact h

theorem laws_raiseExpired (h : Laws A B C p K s) : Laws A B C p K s.raiseExpired := by
  unfold State.raiseExpired
  split
  · exact laws_release _ nofun (laws_raiseTimedOut h)
  · exact h

theorem laws_liftRevoked (h : Laws A B C p K s) : Laws A B C p K s.liftRevoked := laws_setPl _ h

/-- What the laws look at apart from the cut station. -/
theorem Laws.uncut (h : Laws A B C p K s) : Laws A False C p K s := ⟨h.1, h.2, h.3, h.4, False.elim, h.6⟩

/-- The holder of a grant that is gone is told: the station leaves the states that need it (R121). -/
theorem laws_holderRevoked {t : State} (o : Option Consumer) (cut : B → CutLaw p K t.cs o) (h : Laws A False C p K t) :
    Laws A B C p K (t.holderRevoked o) := by
  have other (e : o ≠ some .cut) : Laws A B C p K t := ⟨h.1, h.2, h.3, h.4, fun b =>
    have c := cut b
    ⟨fun k => absurd (c.held k) e, c.permitted, c.pressed, c.knife, c.driven⟩, h.6⟩
  unfold State.holderRevoked
  split
  · exact laws_csRevoked (fun b => ⟨_, cut b⟩) h
  · exact laws_liftRevoked (other nofun)
  · exact laws_turnInterrupted _ (other nofun)
  · exact other nofun

theorem State.flush_cs (s : State) : s.flush.cs = s.cs := by
  unfold State.flush
  split <;> rfl

theorem laws_pressureFails (faultFirst : Bool) (h : Laws A B C p K s) :
    Laws A B C p K (s.pressureFails faultFirst) := by
  unfold State.pressureFails
  split
  · exact h
  · have gone : Laws A False C p K (s.setHs s.hs.pressureGone) := ⟨h.1, h.2, h.3, h.4, False.elim, h.6⟩
    dsimp only
    split
    · refine laws_holderRevoked _ (fun b => ?_) (laws_flush (laws_reportFault _ _ gone))
      rw [State.flush_cs]
      exact h.5 b
    · exact laws_reportFault _ _ (laws_flush (laws_holderRevoked _ h.5 gone))

/-! ### Settling -/

theorem laws_renewRequests (h : Laws A B C p K s) : Laws A B C p K s.renewRequests := by
  have lifted : Laws A B C p K
      (if s.recoverRequest.pl.state = .raising then s.recoverRequest.request .lift else s.recoverRequest) := by
    split
    · exact laws_request _ (laws_recoverRequest h)
    · exact laws_recoverRequest h
  unfold State.renewRequests
  dsimp only
  revert lifted
  generalize (if s.recoverRequest.pl.state = .raising then s.recoverRequest.request .lift else s.recoverRequest) = t
  intro lifted
  split
  · exact laws_request _ lifted
  · exact laws_gripRequest lifted

theorem laws_settle (h : Laws A B C p K s) : Laws A B C p K s.settle :=
  laws_flush (laws_renewRequests (laws_manualCutNext (laws_csFollow (laws_infeedLook (laws_takeHold (laws_handAgain
    (laws_pendingAtArmed h)))))))

/-! ### The manual requests (R98, R105, R124, R143 to R150, R160) -/

theorem laws_decideGaugeMove (body : List Byte) (h : Laws A B C p K s) :
    Laws A B C p K (decideGaugeMove body s).1 := by
  unfold decideGaugeMove
  dsimp only
  split
  · exact h
  · rename_i e
    obtain ⟨inside, -⟩ := firstRefusal_cons e
    have target : InTravel (signedAt body 0 4) := by
      simp only [outOfTravel, Bool.or_eq_false_iff, decide_eq_false_iff_not, not_or, not_lt] at inside
      exact inside.1
    split
    · refine laws_setBg h fun _ g => ⟨g.target, g.stands, g.goal, g.plan, ?_⟩
      rintro _ ⟨⟩
      exact target
    · have k := laws_approach .gaugeMove false .approach (fun _ => target) h
      split <;> rename_i e2 <;> rw [e2] at k
      · exact k
      · exact laws_gaugeDone _ _ _ _ _ k

theorem laws_decideGaugeReference (h : Laws A B C p K s) : Laws A B C p K (decideGaugeReference s).1 := by
  unfold decideGaugeReference
  split
  · exact h
  · exact laws_startReference h

theorem State.warnSaturated_cs (s : State) (x : Target) : (s.warnSaturated x).cs = s.cs := by
  unfold State.warnSaturated
  split
  · rfl
  · exact (s.loadWarning_blocks _ _).2.2.2.1

theorem State.cutNowTarget_inTravel {d : Disposition} {g : Int} {x : Target} (h : s.cutNowTarget d g = .ok x) :
    InTravel x.target := by
  unfold State.cutNowTarget at h
  split at h
  · exact State.checkCut_inTravel h
  · split at h
    · cases h
    · rename_i inside
      cases h
      simpa only [outOfTravel, decide_eq_true_eq, not_or, not_lt] using inside

theorem laws_cutNowTaken (d : Disposition) (x : Target) (inside : InTravel x.target) (h : Laws A B C p K s) :
    Laws A B C p K (s.cutNowTaken d x) := by
  have taken : Laws A B C p K
      ((s.warnSaturated x).setCs { s.cs with manual := some ⟨s.manualCycle d x, false⟩ }) := by
    refine laws_setCs (laws_warnSaturated x h) ?_ ?_ ?_ <;> rw [State.warnSaturated_cs]
  have k := laws_approach .manualCut false .approach (fun _ => inside) taken
  unfold State.cutNowTaken
  dsimp only
  split <;> rename_i e <;> rw [e] at k
  · exact k
  · exact laws_manualCutApproached _ k

theorem laws_decideCutNow (body : List Byte) (h : Laws A B C p K s) : Laws A B C p K (decideCutNow body s).1 := by
  unfold decideCutNow
  dsimp only
  split
  · exact h
  · rename_i e
    exact laws_cutNowTaken _ _ (State.cutNowTarget_inTravel e) h
  · exact h

theorem laws_turnNowTaken (n : Nat) (r : Int) (referenced : s.bg.referenced = true) (clear : r ≤ Config.gmax)
    (h : Laws A B C p K s) : Laws A B C p K (s.turnNowTaken n r) := by
  have taken : Laws A B C p K
      (s.setPt { s.pt with manual := some ⟨n, r, s.gt.openLoad.isSome, s.loadId, .retract, false⟩ }) := by
    refine laws_setPt_of h fun _ t => ⟨t.record, ?_⟩
    rintro _ ⟨⟩
    exact clear
  have k := laws_retract
    (s := s.setPt { s.pt with manual := some ⟨n, r, s.gt.openLoad.isSome, s.loadId, .retract, false⟩ })
    .manualTurn (fun _ => clear) (fun _ => referenced) taken
  unfold State.turnNowTaken
  dsimp only
  split <;> rename_i e <;> rw [e] at k
  · exact k
  · exact laws_manualTurnRetracted k

theorem State.turnNowClearance_le {r : Int} (h : s.turnNowClearance = .ok r) : r ≤ Config.gmax := by
  unfold State.turnNowClearance at h
  split at h
  · exact State.checkTurn_le h
  · cases h
    exact le_rfl

theorem laws_decideTurnNow (body : List Byte) (h : Laws A B C p K s) : Laws A B C p K (decideTurnNow body s).1 := by
  unfold decideTurnNow
  dsimp only
  split
  · exact h
  · rename_i e clear
    obtain ⟨-, e⟩ := firstRefusal_cons e
    obtain ⟨-, e⟩ := firstRefusal_cons e
    obtain ⟨-, e⟩ := firstRefusal_cons e
    obtain ⟨-, e⟩ := firstRefusal_cons e
    obtain ⟨referenced, -⟩ := firstRefusal_cons e
    exact laws_turnNowTaken _ _ (by simpa using referenced) (State.turnNowClearance_le clear) h
  · exact h

theorem laws_startRaise (k : RaiseKind) (h : Laws A B C p K s) : Laws A B C p K (s.startRaise k) :=
  laws_request _ (laws_setPl _ h)

theorem laws_decideNewPile (body : List Byte) (h : Laws A B C p K s) : Laws A B C p K (decideNewPile body s).1 := by
  unfold decideNewPile
  dsimp only
  split
  · exact h
  · exact laws_startRaise _ (laws_setPl _ h)

theorem laws_decideLiftLower (h : Laws A B C p K s) : Laws A B C p K (decideLiftLower s).1 := by
  unfold decideLiftLower
  dsimp only
  split
  · exact h
  · split
    · exact laws_reachedFloor (laws_setJg _ (laws_setPl _ h))
    · exact laws_setJg _ (laws_setPl _ h)

theorem laws_floorMade (h : Laws A B C p K s) : Laws A B C p K s.floorMade := by
  unfold State.floorMade
  split
  · exact laws_reachedFloor h
  · exact h

theorem laws_jogStarted (h : Laws A B C p K s) {t : State} (e : s.jogStarted = some t) : Laws A B C p K t := by
  unfold State.jogStarted at e
  split at e <;> cases e
  · exact laws_startRaise _ (laws_startJog (laws_setJg _ h))
  · exact laws_startJog (laws_setJg _ h)
  · exact laws_startJog (laws_setJg _ h)
  · exact laws_startJog (laws_setJg _ h)
  · exact laws_startJog (laws_setJg _ h)
  · split
    · exact laws_startRaise _ (laws_startJog h)
    · exact laws_startJog h

theorem laws_jogButton (h : Laws A B C p K s) : Laws A B C p K s.jogButton := by
  unfold State.jogButton
  split
  · exact h
  · cases e : s.jogStarted with
    | none => exact h
    | some t => exact laws_jogStarted h e

theorem laws_decideJog (body : List Byte) (h : Laws A B C p K s) : Laws A B C p K (decideJog body s).1 := by
  unfold decideJog
  split
  · unfold decideJogStart
    split
    · exact h
    · rename_i e
      split
      · exact h
      · split
        · exact h
        · exact laws_jogStarted h e
  · unfold decideDiscard
    dsimp only
    split
    all_goals
      split
      · exact h
      · exact laws_slotEmptied h
  · exact h

/-! ### The load requests (R62 to R64) -/

theorem laws_decideTrackDeclare (body : List Byte) (h : Laws A B C p K s) :
    Laws A B C p K (decideTrackDeclare body s).1 := by
  unfold decideTrackDeclare
  dsimp only
  split
  · exact h
  · rename_i e
    obtain ⟨fields, e⟩ := firstRefusal_cons e
    obtain ⟨closed, -⟩ := firstRefusal_cons e
    simp only [decide_eq_false_iff_not, not_or, not_lt] at fields
    obtain ⟨-, -, -, -, depth, -⟩ := fields
    refine laws_openWith _ _ _ _ (fun _ => depth) (fun c => (h.6 c).aside ?_) h
    simp only [Bool.or_eq_false_iff] at closed
    exact Option.not_isSome_iff_eq_none.mp (by simp [closed.1.2])

theorem laws_decideTrackClear (h : Laws A B C p K s) : Laws A B C p K (decideTrackClear s).1 := by
  unfold decideTrackClear
  split
  · exact h
  · exact laws_closed h

/-! ### Soft reset (R95, R138) -/

theorem laws_runnerReset (h : Laws A B C p K s) : Laws A B C p K s.runnerReset :=
  laws_setGt (laws_setPr_none h rfl rfl) rfl rfl rfl (.inr rfl)

theorem laws_resetBlocks (h : Laws A B C p K s) : Laws A B C p K s.resetBlocks :=
  laws_ptReset (laws_jogReset (laws_setHs (x := State.hs _ |>.noRequests)
    (laws_csReset (laws_gaugeReset (laws_runnerReset (laws_setLi _ h)))) rfl))

end Sys2Proof.Machine
end

section
/-! SUPPORT. The knife at an emergency stop (R127): under the latch no other block touches station or knife, so the stop
leaves the station in a state without grant and permission, in whatever order the blocks hear of it. -/

namespace Sys2Proof.Machine

/-- The station's state and its knife are left as they are, and so is the Safety Monitor. -/
structure CutStays (s t : State) : Prop where
  state : t.cs.state = s.cs.state
  knife : t.cs.knifeValve = s.cs.knifeValve
  sm : t.sm = s.sm

theorem CutStays.refl (s : State) : CutStays s s := ⟨rfl, rfl, rfl⟩

theorem CutStays.trans {s t u : State} (h : CutStays s t) (k : CutStays t u) : CutStays s u :=
  ⟨k.state.trans h.state, k.knife.trans h.knife, k.sm.trans h.sm⟩

/-- What leaves station and monitor as they are. -/
theorem CutStays.of {s t : State} (cs : t.cs = s.cs) (sm : t.sm = s.sm) : CutStays s t :=
  ⟨congrArg CutStation.state cs, congrArg CutStation.knifeValve cs, sm⟩

/-- What stays after a change of other blocks. -/
theorem CutStays.after {s t u : State} (k : CutStays t u) (cs : t.cs = s.cs) (sm : t.sm = s.sm) : CutStays s u :=
  (CutStays.of cs sm).trans k

theorem cutStays_loadWarning (s : State) (k : WarningKind) (d : Int) : CutStays s (s.loadWarning k d) :=
  .of (s.loadWarning_blocks k d).2.2.2.1 (kept_loadWarning k d (Kept.refl False s)).sm

theorem cutStays_flush (s : State) : CutStays s s.flush := by
  unfold State.flush
  split
  · exact .of rfl rfl
  · exact .refl s

theorem cutStays_abortEnd (s : State) : CutStays s s.abortEnd := .of rfl rfl

/-- Under the latch a skip makes no boundary (R86). -/
theorem cutStays_doSkip {s : State} (latched : s.sm.estopLatch = true) : CutStays s s.doSkip := by
  unfold State.doSkip
  rw [if_pos latched]
  exact .of rfl rfl

theorem cutStays_afterWork {s : State} (latched : s.sm.estopLatch = true) {next : State → State}
    (hn : CutStays s (next s)) : CutStays s (s.afterWork next) := by
  unfold State.afterWork
  split
  · exact cutStays_abortEnd s
  · split
    · exact cutStays_doSkip latched
    · exact hn

theorem cutStays_applyAborted (s : State) (c : Cycle) : CutStays s (s.applyAborted c) := by
  unfold State.applyAborted
  dsimp only
  split
  · split
    · rename_i t _ _
      have warned : CutStays s
          ((s.setGt { s.gt with table := some { t with scored := true } }).loadWarning .scored c.nominal) :=
        (cutStays_loadWarning _ _ _).after rfl rfl
      exact warned.trans (.of rfl rfl)
    · exact .of rfl rfl
  · exact .of rfl rfl

theorem cutStays_cycleAborted {s : State} (latched : s.sm.estopLatch = true) (c : Cycle) :
    CutStays s (s.cycleAborted c) := by
  have applied := cutStays_applyAborted s c
  unfold State.cycleAborted
  dsimp only
  have reported : CutStays s
      (if c.mark = .timedOut then
        (s.applyAborted c).reportFault .knifeTimeout (if c.tracked then c.nominal else 0) else s.applyAborted c) := by
    split
    · exact applied.trans (.of rfl rfl)
    · exact applied
  revert reported
  generalize (if c.mark = .timedOut then
    (s.applyAborted c).reportFault .knifeTimeout (if c.tracked then c.nominal else 0) else s.applyAborted c) = t
  intro reported
  split
  · refine reported.trans (cutStays_afterWork (by rw [reported.sm]; exact latched) ?_)
    split
    · exact .of rfl rfl
    · exact .refl t
  · exact reported

theorem cutStays_cycleCut {s : State} (latched : s.sm.estopLatch = true) (c : Option Cycle) (cause : Nat) :
    CutStays s (s.cycleCut c cause) := by
  unfold State.cycleCut
  split
  · split
    · exact cutStays_cycleAborted latched _
    · unfold State.cycleDropped
      split
      · exact .of rfl rfl
      · split
        · exact cutStays_afterWork latched (.refl s)
        · exact .refl s
  · exact .refl s

theorem cutStays_waitingCutEnds (s : State) (cause : Nat) : CutStays s (s.waitingCutEnds cause) := by
  unfold State.waitingCutEnds
  split
  · split
    · exact ⟨rfl, rfl, rfl⟩
    · exact .refl s
  · exact .refl s

theorem cutStays_manualTurnEnds (s : State) (cause : Int) : CutStays s (s.manualTurnEnds cause) := by
  unfold State.manualTurnEnds
  split
  · exact .of rfl rfl
  · exact .refl s

theorem cutStays_slotCancel (s : State) : CutStays s s.slotCancel := by
  unfold State.slotCancel
  split
  · exact .refl s
  · exact .of rfl rfl

theorem cutStays_moveCutAt {s : State} (latched : s.sm.estopLatch = true) (m : Move) :
    CutStays s (s.moveCutAt m .estop) := by
  unfold State.moveCutAt
  split
  · split
    · exact cutStays_afterWork latched (.refl s)
    · exact .refl s
  · unfold State.manualCutFailed
    split
    · exact ⟨rfl, rfl, rfl⟩
    · exact .refl s
  · exact cutStays_manualTurnEnds s _
  · exact (cutStays_slotCancel (s.gaugeDone _ _ _ _ _)).after rfl rfl
  · exact (cutStays_slotCancel (s.gaugeDone _ _ _ _ _)).after rfl rfl

theorem cutStays_gaugeEstop {s : State} (latched : s.sm.estopLatch = true) : CutStays s s.gaugeEstop := by
  unfold State.gaugeEstop
  refine CutStays.trans ?_ (cutStays_slotCancel _)
  split
  · split
    · exact (cutStays_moveCutAt (s := s.gaugeStopped) latched _).after rfl rfl
    · exact .of rfl rfl
  · exact .of rfl rfl

theorem cutStays_infeedEstop (s : State) : CutStays s s.infeedEstop := by
  have notice (t : State) (b : Bool) (e : InfeedEvent) : CutStays t (t.slotNotice b e) := by
    unfold State.slotNotice
    split
    · exact .of rfl rfl
    · exact .refl t
  exact ((notice _ _ _).trans (notice _ _ _)).after rfl rfl

theorem cutStays_turnInterrupted {s : State} (latched : s.sm.estopLatch = true) : CutStays s (s.turnInterrupted 4) := by
  unfold State.turnInterrupted
  split
  · split
    · exact .of rfl rfl
    · dsimp only
      split
      · split
        · exact (cutStays_afterWork (s := s.setPt (s.pt.interrupt s.runOpen)) latched (.refl _)).after rfl rfl
        · exact .of rfl rfl
      · exact (cutStays_manualTurnEnds (s.setPt (s.pt.interrupt s.runOpen)) _).after rfl rfl
      · exact .of rfl rfl
  · exact .refl s

/-- An emergency stop at any block but the station leaves the station. -/
theorem cutStays_estopAt {s : State} (latched : s.sm.estopLatch = true) {c : Consumers} (h : c ≠ .cutStation) :
    CutStays s (s.estopAt c) := by
  cases c with
  | runner =>
    change CutStays s s.runnerEstop
    unfold State.runnerEstop
    split
    · exact .of rfl rfl
    · exact .refl s
  | gauge => exact cutStays_gaugeEstop latched
  | cutStation => exact absurd rfl h
  | supply => exact .of rfl rfl
  | infeed => exact cutStays_infeedEstop s
  | turner => exact cutStays_turnInterrupted latched

/-! ### The station at rest -/

/-- A station without grant, permission or driven knife. -/
structure CutRests (s : State) : Prop where
  holds : s.cs.state.holds = false
  permits : s.cs.state.permits = false
  knife : s.cs.knifeValve ≠ .down

theorem CutRests.stays {s t : State} (h : CutRests s) (k : CutStays s t) : CutRests t :=
  ⟨k.state ▸ h.holds, k.state ▸ h.permits, k.knife ▸ h.knife⟩

/-- Under the latch RECOVER asks for nothing. -/
theorem cutStays_recoverRequest {s : State} (latched : s.sm.estopLatch = true) : CutStays s s.recoverRequest := by
  unfold State.recoverRequest
  rw [latched, if_neg (by simp)]
  exact .refl s

/-- The station's response leaves it at rest (R127). -/
theorem csEstop_rests {s : State} (latched : s.sm.estopLatch = true)
    (knife : s.cs.knifeValve = .down → s.cs.state = .cutting) : CutRests s.csEstop := by
  have cut {t : State} (ht : t.sm = s.sm) (r : CutRests t) (c : Option Cycle) : CutRests (t.cycleCut c 4) :=
    r.stays (cutStays_cycleCut (by rw [ht]; exact latched) c 4)
  have recovered {x : CutStation} (r : CutRests (s.setCs x)) : CutRests (s.setCs x).recoverRequest :=
    r.stays (cutStays_recoverRequest latched)
  have stopped (t : State) (ht : t.sm = s.sm) : CutRests t.stopKnife :=
    CutRests.stays (s := t.setCs t.cs.knifeStopped) ⟨rfl, rfl, nofun⟩
      (cutStays_recoverRequest (s := t.setCs t.cs.knifeStopped) (by rw [State.sm_setCs, ht]; exact latched))
  have sm_recover (x : CutStation) : (s.setCs x).recoverRequest.sm = s.sm :=
    (cutStays_recoverRequest (s := s.setCs x) latched).sm
  have home : CutRests s.homeOrRecover ∧ s.homeOrRecover.sm = s.sm := by
    unfold State.homeOrRecover
    split
    · exact ⟨⟨s.readyState_free.1, s.readyState_free.2, nofun⟩, rfl⟩
    · exact ⟨recovered ⟨rfl, rfl, nofun⟩, sm_recover _⟩
  have timed : CutRests (if s.cs.timedOut then s.setCs (s.cs.rest .fault) else s.stopKnife) ∧
      (if s.cs.timedOut then s.setCs (s.cs.rest .fault) else s.stopKnife).sm = s.sm := by
    split
    · exact ⟨⟨rfl, rfl, nofun⟩, rfl⟩
    · exact ⟨stopped s rfl, sm_recover _⟩
  unfold State.csEstop
  refine CutRests.stays ?_ (cutStays_waitingCutEnds _ _)
  split
  · exact cut home.2 home.1 _
  · exact cut home.2 home.1 _
  · exact cut home.2 home.1 _
  · exact cut home.2 home.1 _
  · exact cut (sm_recover _) (stopped s rfl) _
  · exact cut timed.2 timed.1 _
  · exact stopped _ rfl
  · rename_i e
    exact ⟨congrArg CutState.holds e, congrArg CutState.permits e, nofun⟩
  · rename_i e
    exact ⟨congrArg CutState.holds e, congrArg CutState.permits e, fun d => absurd ((knife d).symm.trans e) nofun⟩
  · rename_i e
    exact ⟨congrArg CutState.holds e, congrArg CutState.permits e, fun d => absurd ((knife d).symm.trans e) nofun⟩
  · rename_i e
    exact ⟨congrArg CutState.holds e, congrArg CutState.permits e, fun d => absurd ((knife d).symm.trans e) nofun⟩

/-! ### The event handed round -/

theorem State.deliver_cons (s : State) (respond : State → Consumers → State) (c : Consumers) (l : List Consumers) :
    s.deliver respond (c :: l) = ((respond s c).flush).deliver respond l := rfl

theorem cutStays_round {s : State} (latched : s.sm.estopLatch = true) {c : Consumers} (h : c ≠ .cutStation) :
    CutStays s (s.estopAt c).flush := (cutStays_estopAt latched h).trans (cutStays_flush _)

theorem csEstop_round {s : State} (latched : s.sm.estopLatch = true)
    (knife : s.cs.knifeValve = .down → s.cs.state = .cutting) : CutRests (s.estopAt .cutStation).flush :=
  (csEstop_rests latched knife).stays (cutStays_flush _)

theorem estop_sm (s : State) (c : Consumers) : (s.estopAt c).flush.sm = s.sm :=
  (kept_flush (kept_estopAt c (Kept.refl False s))).sm

/-- Once at rest the station stays so. -/
theorem cutRests_deliver (l : List Consumers) {s : State} (latched : s.sm.estopLatch = true) (h : CutRests s) :
    CutRests (s.deliver State.estopAt l) := by
  induction l generalizing s with
  | nil => exact h
  | cons c l ih =>
    rw [State.deliver_cons]
    refine ih (by rw [estop_sm]; exact latched) ?_
    by_cases e : c = .cutStation
    · rw [e]
      exact csEstop_round latched fun d => absurd d h.knife
    · exact h.stays (cutStays_round latched e)

/-- The station comes to rest when it hears of the stop. -/
theorem estop_cutRests (l : List Consumers) (heard : .cutStation ∈ l) {s : State} (latched : s.sm.estopLatch = true)
    (knife : s.cs.knifeValve = .down → s.cs.state = .cutting) : CutRests (s.deliver State.estopAt l) := by
  induction l generalizing s with
  | nil => cases heard
  | cons c l ih =>
    rw [State.deliver_cons]
    have latched' : (s.estopAt c).flush.sm.estopLatch = true := by rw [estop_sm]; exact latched
    by_cases e : c = .cutStation
    · rw [e] at latched' ⊢
      exact cutRests_deliver l latched' (csEstop_round latched knife)
    · have k := cutStays_round latched e
      refine ih (List.mem_of_ne_of_mem (Ne.symm e) heard) latched' ?_
      rw [k.knife, k.state]
      exact knife

/-- Every block of the default order hears of an event. -/
theorem mem_deliveryOrder (given : List Consumers) {l : List Consumers} {c : Consumers} (h : c ∈ l) :
    c ∈ deliveryOrder given l := by
  unfold deliveryOrder
  dsimp only
  rw [List.mem_append, List.mem_filter, decide_eq_true_eq]
  by_cases k : c ∈ (given.filter fun c => decide (c ∈ l)).reverse.eraseDups.reverse
  · exact .inl k
  · exact .inr ⟨h, k⟩

end Sys2Proof.Machine
end

section
/-! SUPPORT. The laws inside a step (`Laws`), kept by the events of the Safety Monitor, and by every part of a step. -/

namespace Sys2Proof.Machine

variable {A B C : Prop} {p : Bool} {K : Prop} {s : State}

/-- The laws of a station that acts on no permission hold for any. -/
theorem Laws.unpermitted {q : Bool} (h : Laws A B C false K s) : Laws A B C q K s := h.mono nofun id

/-! ### The emergency stop and the guard (R171, R173) -/

theorem laws_safetyNotice (e : SafetyEvent) (h : Laws A B C p K s) : Laws A B C p K (s.safetyNotice e) :=
  laws_raise _ _ h

theorem laws_deliver {respond : State → Consumers → State}
    (hr : ∀ t c, Laws A B C p K t → Laws A B C p K (respond t c)) (l : List Consumers) (h : Laws A B C p K s) :
    Laws A B C p K (s.deliver respond l) := by
  induction l generalizing s with
  | nil => exact h
  | cons c l ih => exact ih (laws_flush (hr s c h))

theorem laws_estopAt (c : Consumers) (h : Laws A False C p K s) : Laws A False C p K (s.estopAt c) := by
  cases c with
  | runner =>
    change Laws A False C p K s.runnerEstop
    unfold State.runnerEstop
    split
    · exact laws_reportFault _ _ h
    · exact h
  | gauge => exact laws_gaugeEstop h
  | cutStation => exact laws_csEstop h
  | supply => exact ⟨h.1, h.2, h.3, h.4, False.elim, h.6⟩
  | infeed => exact laws_infeedEstop h
  | turner => exact laws_turnInterrupted _ h

/-- Once every block has heard of an emergency stop the station is at rest, so it acts on no permission. -/
theorem laws_emergencyStop (order : List Consumers) (h : Laws A B C p K s) :
    Laws A B C false K (s.emergencyStop order) := by
  unfold State.emergencyStop
  dsimp only
  have told := laws_deliver (fun _ c => laws_estopAt c)
    (deliveryOrder order [.runner, .gauge, .cutStation, .supply, .infeed, .turner])
    (laws_safetyNotice .estopLatched (laws_setSm { s.sm.fallen with estopLatch := true } h)).uncut
  have rests (b : B) := estop_cutRests
      (s := (s.setSm { s.sm.fallen with estopLatch := true }).safetyNotice .estopLatched)
    (deliveryOrder order [.runner, .gauge, .cutStation, .supply, .infeed, .turner])
    (mem_deliveryOrder _ (by decide)) rfl (h.5 b).knife.1
  exact ⟨told.1, told.2, told.3, told.4, fun b => .free (rests b).holds (rests b).permits (rests b).knife, told.6⟩

/-- The guard's opening at a block that is not the station. -/
theorem laws_guardAt_other {fell : Bool} {c : Consumers} (e : c ≠ .cutStation) (h : Laws A B C p K s) :
    Laws A B C p K (s.guardAt fell c) := by
  unfold State.guardAt
  split
  · exact laws_gaugeGuard h
  · exact laws_turnInterrupted _ h
  · exact absurd rfl e
  · exact h

/-- A station that acts on no permission goes on so when the guard opens. -/
theorem laws_guardAt {fell : Bool} (c : Consumers) (h : Laws A B C false K s) :
    Laws A B C false K (s.guardAt fell c) := by
  by_cases e : c = .cutStation
  · rw [e]
    exact laws_permissionFalls _ h.unpermitted
  · exact laws_guardAt_other e h

/-- Once the station has heard of the guard's opening it acts on no permission. -/
theorem laws_guardRound {fell : Bool} (l : List Consumers) (heard : .cutStation ∈ l) (h : Laws A B C fell K s) :
    Laws A B C false K (s.deliver (fun x c => x.guardAt fell c) l) := by
  induction l generalizing s with
  | nil => cases heard
  | cons c l ih =>
    rw [State.deliver_cons]
    by_cases e : c = .cutStation
    · rw [e]
      exact laws_deliver (fun _ c => laws_guardAt c) l (laws_flush (laws_permissionFalls _ h))
    · exact ih (List.mem_of_ne_of_mem (Ne.symm e) heard) (laws_flush (laws_guardAt_other e h))

theorem laws_guardOpens (order : List Consumers) (h : Laws A B C s.sm.permission K s) :
    Laws A B C false K (s.guardOpens order) :=
  laws_guardRound _ (mem_deliveryOrder _ (by decide)) (laws_safetyNotice _ (laws_setSm _ h))

/-! ### Channels (R165 to R173) -/

theorem laws_becomesUnsafe (i : SafetyIn) (order : List Consumers) (h : Laws A B C s.sm.permission K s) :
    Laws A B C (s.becomesUnsafe i order).sm.permission K (s.becomesUnsafe i order) := by
  cases i with
  | twoHandLeft => exact (laws_permissionFalls _ (laws_setSm _ h)).unpermitted
  | twoHandRight => exact (laws_permissionFalls _ (laws_setSm _ h)).unpermitted
  | lightCurtain => exact (laws_permissionFalls _ (laws_setSm _ h)).unpermitted
  | emergencyStop =>
    unfold State.becomesUnsafe
    dsimp only
    split
    · exact h
    · exact (laws_emergencyStop _ h).unpermitted
  | rearGuard => exact (laws_guardOpens _ h).unpermitted
  | bladeKey =>
    exact (laws_keyTurnsOn (laws_permissionFalls _ (laws_safetyNotice _ (laws_setSm _ h)))).unpermitted

/-- A press leaves the permission or raises it (R168). -/
theorem Monitor.pressed_permission (m : Monitor) (i : SafetyIn) (now : Nat) :
    (m.pressed i now).permission = m.permission ∨ (m.pressed i now).permission = true := by
  unfold Monitor.pressed
  split
  · exact .inl rfl
  · split
    · exact .inr rfl
    · exact .inl rfl

theorem laws_pressed (i : SafetyIn) (now : Nat) (h : Laws A B C s.sm.permission K s) :
    let t := if (s.setSm (s.sm.pressed i now)).sm.permission = true ∧ s.sm.permission = false then
      (s.setSm (s.sm.pressed i now)).permissionRises else s.setSm (s.sm.pressed i now)
    Laws A B C t.sm.permission K t := by
  dsimp only
  split
  · rename_i risen
    have sm : (s.setSm (s.sm.pressed i now)).permissionRises.sm = s.sm.pressed i now :=
      (kept_permissionRises (Kept.refl False (s.setSm (s.sm.pressed i now)))).sm
    rw [sm, show (s.sm.pressed i now).permission = true from risen.1]
    exact laws_permissionRises (laws_setSm _ (h.mono (fun _ => rfl) id))
  · refine laws_setSm _ (h.mono (fun e => ?_) id)
    obtain k | k := s.sm.pressed_permission i now
    · exact k.trans e
    · exact k

theorem laws_becomesPermissive (i : SafetyIn) (now : Nat) (h : Laws A B C s.sm.permission K s) :
    Laws A B C (s.becomesPermissive i now).sm.permission K (s.becomesPermissive i now) := by
  cases i with
  | twoHandLeft => exact laws_pressed _ _ h
  | twoHandRight => exact laws_pressed _ _ h
  | lightCurtain => exact h
  | emergencyStop => exact h
  | rearGuard => exact laws_safetyNotice _ h
  | bladeKey =>
    have sm : (s.becomesPermissive .bladeKey now).sm = s.sm :=
      (kept_keyTurnsOff (kept_safetyNotice .bladeKeyOff (Kept.refl False s))).sm
    rw [sm]
    exact laws_keyTurnsOff (laws_safetyNotice _ h)

theorem Monitor.setInput_permission (m : Monitor) (i : SafetyIn) (x : SafetyInput) :
    (m.setInput i x).permission = m.permission := by
  cases i <;> rfl

theorem laws_setInput (i : SafetyIn) (x : SafetyInput) (h : Laws A B C s.sm.permission K s) :
    Laws A B C (s.setSm (s.sm.setInput i x)).sm.permission K (s.setSm (s.sm.setInput i x)) := by
  rw [State.sm_setSm, Monitor.setInput_permission]
  exact laws_setSm _ h

theorem laws_channelReads (i : SafetyIn) (c : Channel) (reading : Bool) (now : Nat) (order : List Consumers)
    (h : Laws A B C s.sm.permission K s) :
    Laws A B C (s.channelReads i c reading now order).sm.permission K (s.channelReads i c reading now order) := by
  unfold State.channelReads
  dsimp only
  have read := laws_setInput i ((s.sm.input i).read c reading).follow h
  have noticed : ∀ t, t = (if (s.sm.input i).latch = true ∧ (((s.sm.input i).read c reading).follow).latch = false then
        (s.setSm (s.sm.setInput i ((s.sm.input i).read c reading).follow)).safetyNotice (.discrepancyCleared i)
      else s.setSm (s.sm.setInput i ((s.sm.input i).read c reading).follow)) → Laws A B C t.sm.permission K t := by
    rintro t rfl
    split
    · exact laws_safetyNotice _ read
    · exact read
  split
  · exact laws_becomesUnsafe _ _ (noticed _ rfl)
  · exact laws_becomesPermissive _ _ (noticed _ rfl)
  · exact noticed _ rfl

theorem laws_discrepancyExpires (i : SafetyIn) (h : Laws A B C s.sm.permission K s) :
    Laws A B C (s.discrepancyExpires i).sm.permission K (s.discrepancyExpires i) := by
  unfold State.discrepancyExpires
  dsimp only
  split
  · exact laws_reportFault _ _ (laws_safetyNotice _ (laws_setInput _ _ h))
  · exact h

theorem laws_decideEstopAck (h : Laws A B C s.sm.permission K s) :
    Laws A B C (decideEstopAck s).1.sm.permission K (decideEstopAck s).1 := by
  unfold decideEstopAck
  split
  · exact h
  · split
    · exact h
    · have sm : (((s.setSm { s.sm with estopLatch := false }).safetyNotice
          .estopAcknowledged).recoverRequest.pumpStart).sm.permission = s.sm.permission :=
        (congrArg Monitor.permission (kept_pumpStart (kept_recoverRequest (Kept.refl False
          ((s.setSm { s.sm with estopLatch := false }).safetyNotice .estopAcknowledged)))).sm).trans rfl
      change Laws A B C (((s.setSm { s.sm with estopLatch := false }).safetyNotice
        .estopAcknowledged).recoverRequest.pumpStart).sm.permission K _
      rw [sm]
      exact laws_pumpStart (laws_recoverRequest (laws_safetyNotice _ (laws_setSm _ h)))

/-! ### Events and decisions -/

/-- An event keeps the laws for the permission it leaves. -/
theorem laws_event {c : Instr} {effect : State → State} {m : Lines} (he : eventOf c = some (effect, m))
    (place : C → PlaceFits s) (turn : A → TurnFits s)
    (down : B → (∃ m, c = .clampFullPressure m) → s.cs.state = .clamping → K) (h : Laws A B C s.sm.permission K s) :
    Laws A B C (effect s).sm.permission K (effect s) := by
  have still {t : State} (sm : t.sm = s.sm) (k : Laws A B C s.sm.permission K t) : Laws A B C t.sm.permission K t := by
    rw [sm]
    exact k
  have same := Kept.refl False s
  cases c <;> cases he
  case confirmButton =>
    dsimp only
    cases e : s.confirmed with
    | none => exact h
    | some t => exact still (kept_confirmed same t e).sm (laws_confirmed place h e)
  case jogStartButton => exact still (kept_jogButton same).sm (laws_jogButton h)
  case pedalPressed => exact still (kept_pedalDown same).sm (laws_pedalDown h)
  case pedalReleased => exact still (kept_pedalUp same).sm (laws_pedalUp h)
  case pedalDwellExpiry => exact still (kept_pedalDwellExpired same).sm (laws_pedalDwellExpired h)
  case reversalDwellExpiry => exact still (kept_dwellEnded same).sm (laws_dwellEnded h)
  case segmentEnd => exact still (kept_gaugeSegmentEnd same).sm (laws_gaugeSegmentEnd h)
  case referenceSwitchMade => exact still (kept_switchFound same).sm (laws_switchFound h)
  case referenceSwitchesReleased => exact still (kept_switchesReleased same).sm (laws_switchesReleased h)
  case followingError =>
    dsimp only
    split
    · exact still (kept_gaugeFault _ _ same).sm (laws_gaugeFault _ _ h)
    · exact h
  case overtravel =>
    dsimp only
    split
    · exact h
    · exact still (kept_gaugeFault _ _ same).sm (laws_gaugeFault _ _ h)
  case inPositionLost => exact still (kept_positionLost same).sm (laws_positionLost h)
  case clampFullPressure => exact still (kept_fullPressure same).sm (laws_fullPressure (fun b => down b ⟨m, rfl⟩) h)
  case clampTimeout => exact still (kept_clampTimedOut same).sm (laws_clampTimedOut h)
  case knifeBdc => exact still (kept_bottomReached same).sm (laws_bottomReached h)
  case knifeTimeout => exact still (kept_knifeTimedOut same).sm (laws_knifeTimedOut h)
  case returnEnd => exact still (kept_returnEnded same).sm (laws_returnEnded h)
  case recoverEnd => exact still (kept_recoverEnded same).sm (laws_recoverEnded h)
  case pumpRunUpExpiry => exact still (kept_runUpExpired same).sm (laws_runUpExpired h)
  case pumpLockoutExpiry => exact still (kept_lockoutExpired same).sm (laws_lockoutExpired h)
  case pumpIdleExpiry => exact still (kept_idleExpired same).sm (laws_idleExpired h)
  case pressureLost => exact still (kept_pressureFails _ same).sm (laws_pressureFails _ h)
  case floorStopMade => exact still (kept_floorMade same).sm (laws_floorMade h)
  case topOfPileTrip => exact still (kept_raiseEnded _ same).sm (laws_raiseEnded _ h)
  case platformAtTp => exact still (kept_raiseEnded _ same).sm (laws_raiseEnded _ h)
  case raiseTimeout => exact still (kept_raiseExpired same).sm (laws_raiseExpired h)
  case jogCycleExpiry => exact still (kept_jogExpired same).sm (laws_jogExpired h)
  case gripClosed => exact still (kept_gripClosedMade same).sm (laws_gripClosedMade h)
  case quarterMark => exact still (kept_quarterMade same).sm (laws_quarterMade h)
  case parkSensorMade => exact still (kept_parkMade same).sm (laws_parkMade turn h)
  case parkSensorLost => exact still (kept_parkLost same).sm (laws_parkLost h)
  case safetyChannelChange => exact laws_channelReads _ _ _ _ _ h
  case discrepancyTimeout => exact laws_discrepancyExpires _ h

theorem decideTrackQuery_state (body : List Byte) (s : State) : (decideTrackQuery body s).1 = s := by
  unfold decideTrackQuery
  split <;> rfl

/-- So does the decision of a request that is not the store's. -/
theorem laws_decideOwner_machine {r : Request} (hr : r.ofStore = false) (body : List Byte) (place : C → PlaceFits s)
    (h : Laws A B C s.sm.permission K s) :
    Laws A B C (decideOwner r body s).1.sm.permission K (decideOwner r body s).1 := by
  have still {t : State} (sm : t.sm = s.sm) (k : Laws A B C s.sm.permission K t) : Laws A B C t.sm.permission K t := by
    rw [sm]
    exact k
  have same := Kept.refl False s
  cases r <;> try cases hr
  case readProgram => exact (decideReadProgram_state body s).symm ▸ h
  case listPrograms => exact (decideListPrograms_state body s).symm ▸ h
  case settingRead => exact (decideSettingRead_state body s).symm ▸ h
  case select => exact still (kept_decideSelect body same).sm (laws_decideSelect body h)
  case run => exact still (kept_decideRun body same).sm (laws_decideRun body h)
  case hold => exact still (kept_decideHold same).sm (laws_decideHold h)
  case skip => exact still (kept_decideSkip same).sm (laws_decideSkip h)
  case abort => exact still (kept_decideAbort same).sm (laws_decideAbort h)
  case locate => exact still (kept_decideLocate body same).sm (laws_decideLocate body h)
  case clearFault => exact still (kept_decideClearFault same).sm (laws_decideClearFault h)
  case lineHalt => exact still (kept_decideLineHalt body same).sm (laws_decideLineHalt body h)
  case confirm => exact still (kept_decideConfirm same).sm (laws_decideConfirm place h)
  case gaugeMove => exact still (kept_decideGaugeMove body same).sm (laws_decideGaugeMove body h)
  case gaugeReference => exact still (kept_decideGaugeReference same).sm (laws_decideGaugeReference h)
  case cutNow => exact still (kept_decideCutNow body same).sm (laws_decideCutNow body h)
  case turnNow => exact still (kept_decideTurnNow body same).sm (laws_decideTurnNow body h)
  case turnerPark => exact still (kept_decideTurnerPark same).sm (laws_decideTurnerPark h)
  case newPile => exact still (kept_decideNewPile body same).sm (laws_decideNewPile body h)
  case liftLower => exact still (kept_decideLiftLower same).sm (laws_decideLiftLower h)
  case jogStart => exact still (kept_decideJog body same).sm (laws_decideJog body h)
  case pumpOn => exact still (kept_decidePumpOn same).sm (laws_decidePumpOn h)
  case pumpOff => exact still (kept_decidePumpOff same).sm (laws_decidePumpOff h)
  case trackQuery => exact (decideTrackQuery_state body s).symm ▸ h
  case trackDeclare => exact still (kept_decideTrackDeclare body same).sm (laws_decideTrackDeclare body h)
  case trackClear => exact still (kept_decideTrackClear same).sm (laws_decideTrackClear h)
  case estopAck => exact laws_decideEstopAck h
  case bladeReset => exact still (kept_decideBladeReset same).sm (laws_decideBladeReset h)
  case ident => exact h
  case reset => exact h

theorem laws_decideOwner (r : Request) (body : List Byte) (place : C → PlaceFits s)
    (h : Laws A B C s.sm.permission K s) :
    Laws A B C (decideOwner r body s).1.sm.permission K (decideOwner r body s).1 := by
  cases hr : r.ofStore with
  | true =>
    obtain ⟨x, y, e⟩ := decideOwner_ofStore hr body s
    rw [e]
    exact laws_setLi _ (laws_setPs _ h)
  | false => exact laws_decideOwner_machine hr body place h

/-! ### The parts of a step -/

/-- The laws for the permission as it stands. -/
abbrev LawsNow (A B C K : Prop) (s : State) : Prop := Laws A B C s.sm.permission K s

theorem stepLaw_laws (A B C K : Prop) :
    StepLaw (fun s => LawsNow A B C K s ∧ (C → PlaceFits s) ∧ (A → TurnFits s)) (LawsNow A B C K) where
  weaken h := h.1
  linkP x h := ⟨laws_setLi x h.1, h.2⟩
  linkQ x h := laws_setLi x h
  close r := fun {s} h => by
    unfold State.closeFor
    split
    · exact h
    · exact ⟨laws_setPs _ h.1, h.2⟩
  owner r body := fun {s} h => by
    unfold State.closeFor
    split
    · exact laws_decideOwner _ _ h.2.1 h.1
    · exact laws_decideOwner (s := s.closeWindow) _ _ h.2.1 (laws_setPs _ h.1)
  settle := fun {s} h => by
    have sm : s.settle.sm = s.sm := (kept_settle (Kept.refl False s)).sm
    unfold LawsNow
    rw [sm]
    exact laws_settle h
  reset := fun {s} h => by
    have sm : s.resetBlocks.sm = s.sm := (kept_resetBlocks s).sm
    unfold LawsNow
    rw [sm]
    exact laws_resetBlocks h.1

/-- Power-on makes the laws afresh. -/
theorem laws_powerOnReports (s : State) (m : Lines) (pedal : Bool) (x : AllReadings) :
    LawsNow A B C K (s.powerOnReports m pedal x) := by
  have retract : (0 : Int) ≤ Config.gmax := by decide
  have blocks : Laws A B C false K (s.powerOnBlocks m pedal x) := by
    refine ⟨fun _ => ⟨nofun, nofun, nofun, nofun, nofun⟩, fun _ => ⟨nofun, retract⟩, fun _ => ⟨nofun, nofun⟩,
      fun _ => ⟨nofun, nofun, nofun⟩, fun _ => .free ?_ ?_ nofun, fun _ => ⟨nofun, fun _ => rfl, fun _ => rfl⟩⟩
    all_goals
      unfold State.powerOnBlocks
      dsimp only
      split
      · rfl
      · split <;> rfl
  refine Laws.unpermitted ?_
  unfold State.powerOnReports
  dsimp only
  split
  · exact laws_safetyNotice _ blocks
  · exact laws_reportFault _ _ (laws_safetyNotice _ blocks)

/-- The laws once a command has sampled the lines, from the laws before it. -/
theorem laws_sample {waiting : List Instr} {m : Lines} (travel : A → TravelOk s)
    (stands : A → s.bg.referenced = true → (Config.gmin : Int) - 2 ≤ m.encoder + s.bg.zero)
    (cut : B → CutLaw s.sm.permission K s.cs s.hs.holder) (account : C → AccountOk s.gt) :
    LawsNow A B C K ((s.setPending waiting).sample m) := by
  refine ⟨fun a => ?_, fun a => ?_, fun a => ?_, fun a => ?_, fun b => ?_, account⟩
  · have t := travel a
    exact ⟨t.target, stands a, t.goal, t.plan, t.slot⟩
  · have t := travel a
    exact ⟨t.figures, t.retract⟩
  · have t := travel a
    exact ⟨t.record, t.manual⟩
  · have t := travel a
    exact ⟨t.table, t.aside, t.prepared⟩
  · have c := cut b
    refine ⟨c.held, c.permitted, fun e => ?_, c.knife, c.driven⟩
    have e : s.cs.state = .clamping ∨ s.cs.state = .cutting := e
    exact (if_neg (by rintro ⟨k | k, -⟩ <;> exact absurd e (by rw [show s.cs.state = _ from k]; simp))).trans
      (c.pressed e)

/-- The laws after a step that runs a command. -/
theorem laws_step {c : Instr} {rest : List Instr} {t : State} (hp : s.pending = c :: rest) (travel : A → TravelOk s)
    (stands : A → s.bg.referenced = true → (Config.gmin : Int) - 2 ≤ c.lines.encoder + s.bg.zero)
    (turn : A → TurnFits s) (cut : B → CutLaw s.sm.permission K s.cs s.hs.holder)
    (down : B → (∃ m, c = .clampFullPressure m) → s.cs.state = .clamping → K) (account : C → AccountOk s.gt)
    (place : C → PlaceFits s) (e : step s = .next t) : LawsNow A B C K t := by
  refine (stepLaw_laws A B C K).step (fun n => ?_) (fun c' rest' hp' m encoder => ?_)
    (fun _ m pedal x => laws_powerOnReports _ m pedal x) (fun c' rest' effect m hp' he now => ?_) e
  · rw [n] at hp
    cases hp
  · rw [hp] at hp'
    cases hp'
    exact ⟨laws_sample travel (by rw [encoder]; exact stands) cut account, place, turn⟩
  · rw [hp] at hp'
    cases hp'
    exact laws_event he now.2.1 now.2.2 down now.1

end Sys2Proof.Machine
end

section
/-! PROOFS. The laws of travel, knife and account over a step. -/

namespace Sys2Proof.Machine

variable {s t : State}

/-! ### O47: the gauge (R96 to R110) -/

theorem TravelOk.of_laws {p : Bool} {B C K : Prop} (h : Laws True B C p K s) : TravelOk s :=
  have g := h.gauge trivial
  have r := h.runner trivial
  have u := h.turner trivial
  have k := h.tracker trivial
  ⟨g.target, g.goal, g.plan, g.slot, r.figures, r.retract, u.record, u.manual, k.table, k.aside, k.prepared⟩

/-- With no command waiting a step is none. -/
theorem step_idle (hp : s.pending = []) (e : step s = .next t) : t = s := by
  unfold step at e
  rw [hp] at e
  cases e
  rfl

theorem travelOk_step (travel : TravelOk s) (turn : TurnFits s)
    (stands : s.bg.referenced = true → ∀ c rest, s.pending = c :: rest →
      (Config.gmin : Int) - 2 ≤ c.lines.encoder + s.bg.zero)
    (e : step s = .next t) : TravelOk t := by
  cases hp : s.pending with
  | nil => exact step_idle hp e ▸ travel
  | cons c rest =>
    exact .of_laws (laws_step (A := True) (B := False) (C := False) (K := True) hp (fun _ => travel)
      (fun _ r => stands r c rest hp) (fun _ => turn) False.elim False.elim False.elim False.elim e)

/-- Settles O47: the gauge's own law by `GaugeOk`, and the travel by what each issuer holds for its moves. -/
theorem gaugeLawIsKept : Obligations.GaugeLawIsKept :=
  ⟨fun _ _ => gaugeOk_step, fun _ _ travel turn stands => travelOk_step travel turn stands⟩

/-! ### O54: supply, pile and knife (R113, R116, R129 to R134, R140) -/

theorem CutState.holds_iff (x : CutState) :
    x.holds = true ↔ x = .preclamped ∨ x = .clamping ∨ x = .cutting ∨ x = .returning ∨ x = .abortReturn := by
  cases x <;> simp [CutState.holds]

theorem CutState.permits_iff (x : CutState) : x.permits = true ↔ x = .grantWait ∨ x = .clamping ∨ x = .cutting := by
  cases x <;> simp [CutState.permits]

theorem CutOk.law {K : Prop} (h : CutOk s) (driven : s.cs.knifeValve = .down → K) :
    CutLaw s.sm.permission K s.cs s.hs.holder :=
  ⟨fun e => h.held ((CutState.holds_iff _).mp e), fun e => h.permitted ((CutState.permits_iff _).mp e), h.pressed,
    h.knife, driven⟩

theorem CutLaw.ok {K : Prop} (h : CutLaw s.sm.permission K s.cs s.hs.holder) : CutOk s :=
  ⟨fun e => h.held ((CutState.holds_iff _).mpr e), fun e => h.permitted ((CutState.permits_iff _).mpr e), h.pressed,
    h.knife⟩

/-- What it takes for the knife to be driven down after a step: that it was, or that the clamp of a permitted station
with the grant comes to full pressure. -/
def KnifeMay (s : State) : Prop :=
  s.cs.knifeValve = .down ∨
    s.cs.state = .clamping ∧ s.hs.holder = some .cut ∧ s.sm.permission = true ∧
      ∃ m rest, s.pending = .clampFullPressure m :: rest

theorem cutLaw_step (ok : CutOk s) (e : step s = .next t) : CutLaw t.sm.permission (KnifeMay s) t.cs t.hs.holder := by
  have start : CutLaw s.sm.permission (KnifeMay s) s.cs s.hs.holder := ok.law .inl
  cases hp : s.pending with
  | nil => exact step_idle hp e ▸ start
  | cons c rest =>
    refine (laws_step (A := False) (B := True) (C := False) hp False.elim False.elim False.elim (fun _ => start)
      (fun _ ⟨m, full⟩ clamping => .inr ⟨clamping, start.held (by rw [clamping]; rfl),
        start.permitted (by rw [clamping]; rfl), m, rest, full ▸ hp⟩) False.elim False.elim e).cut trivial

/-- Settles O54: each law by its own induction over the operations of the blocks. -/
theorem supplyAndPileLawsAreKept : Obligations.SupplyAndPileLawsAreKept := by
  refine ⟨fun _ _ => supplyOk_step, fun _ _ => pileOk_step, fun s t ok e => ?_⟩
  have law := cutLaw_step ok e
  refine ⟨law.ok, fun down up => ?_⟩
  exact (law.driven down).resolve_left up

/-! ### O26: the area of a load (R44) -/

/-- An account of which only the area law is known is whole while a load is open. -/
theorem AreaOk.account {g : Tracker} (h : AreaOk g) (isOpen : g.openLoad ≠ none) : AccountOk g :=
  ⟨h, fun e => absurd e isOpen, fun e => absurd e isOpen⟩

/-- With no load open before and after, there is no area law to keep. -/
theorem areaOk_of_account {g h : Tracker} (area : AreaOk g) (closed : g.openLoad = none → h.openLoad = none)
    (kept : AccountOk g → AccountOk h) : AreaOk h := by
  by_cases e : g.openLoad = none
  · intro o ho
    exact absurd ((closed e).symm.trans ho) nofun
  · exact (kept (area.account e)).area

/-- The account alone, as a case of the laws. -/
theorem accountOk_of {f : State → State}
    (kept : Laws False False True false False s → Laws False False True false False (f s)) (h : AccountOk s.gt) :
    AccountOk (f s).gt :=
  (kept ⟨False.elim, False.elim, False.elim, False.elim, False.elim, fun _ => h⟩).account trivial

theorem Booked.closed {a : Nat} {g h : Tracker} (b : Booked a g h) (e : g.openLoad = none) : h.openLoad = none := by
  have same := b.isSome
  rw [e] at same
  simpa using same

theorem warnHeight_closed (u : TableLoad) (m : Nat) (e : s.gt.openLoad = none) :
    (s.warnHeight u m).gt.openLoad = none := by
  unfold State.warnHeight
  split
  · exact (booked_loadWarning s _ _).1.closed e
  · split
    · exact (booked_loadWarning s _ _).1.closed e
    · exact e

theorem applyCut_closed (c : Cycle) (e : s.gt.openLoad = none) : (s.applyCut c).gt.openLoad = none := by
  unfold State.applyCut
  split
  · split
    · refine (booked_dispose _ _ _).1.closed ?_
      exact warnHeight_closed _ _ e
    · exact e
  · exact e

theorem State.cycleNotice_gt (s : State) (c : Cycle) (o : Outcome) (strip : Rect) (q : Fin 4) :
    (s.cycleNotice c o strip q).gt = s.gt := rfl

theorem applyAborted_closed (c : Cycle) (e : s.gt.openLoad = none) : (s.applyAborted c).gt.openLoad = none := by
  unfold State.applyAborted
  dsimp only
  split
  · rename_i u _
    split
    · have scored : (s.setGt { s.gt with table := some { u with scored := true } }).gt.openLoad = none := e
      rw [State.cycleNotice_gt]
      exact (booked_loadWarning _ .scored c.nominal).1.closed scored
    · exact e
  · exact e

theorem endLoad_closed (s : State) (abandoned : Bool) (n : Nat) : (s.endLoad abandoned n).gt.openLoad = none := by
  unfold State.endLoad
  split
  · rfl
  · assumption

theorem eject_closed (d : Disposition) (e : s.gt.openLoad = none) : (s.eject d).gt.openLoad = none := by
  unfold State.eject
  split
  · exact e
  · dsimp only
    split
    · exact endLoad_closed _ _ _
    · exact (booked_dispose s d _).1.closed e

theorem applyTurn_openLoad (tracked : Bool) (id n : Nat) : (s.applyTurn tracked id n).gt.openLoad = s.gt.openLoad := by
  unfold State.applyTurn
  split
  · split <;> rfl
  · rfl

theorem recallTop_openLoad : s.recallTop.gt.openLoad = s.gt.openLoad := by
  unfold State.recallTop
  split <;> rfl

theorem accountOk_step (account : AccountOk s.gt) (place : PlaceFits s) (e : step s = .next t) : AccountOk t.gt := by
  cases hp : s.pending with
  | nil => exact step_idle hp e ▸ account
  | cons c rest =>
    exact (laws_step (A := False) (B := False) (C := True) (K := True) hp False.elim False.elim False.elim False.elim
      False.elim (fun _ => account) (fun _ => place) e).account trivial

/-- Settles O26: what leaves the table is booked, piece by piece, and every step keeps the account. -/
theorem areaLawOfTheTracker : Obligations.AreaLawOfTheTracker := by
  refine ⟨fun s => ⟨fun area => ⟨fun c => ?_, fun c => ?_, fun d => ?_, fun tracked id n => ?_, fun empty => ?_⟩,
    fun aside w ls q h => ?_⟩, fun s t account place e => accountOk_step account place e⟩
  · exact areaOk_of_account area (applyCut_closed c) (accountOk_of (f := fun x => x.applyCut c) (laws_applyCut c))
  · exact areaOk_of_account area (applyAborted_closed c)
      (accountOk_of (f := fun x => x.applyAborted c) (laws_applyAborted c))
  · exact areaOk_of_account area (eject_closed d) (accountOk_of (f := fun x => x.eject d) (laws_eject d))
  · exact areaOk_of_account area (applyTurn_openLoad tracked id n).trans
      (accountOk_of (f := fun x => x.applyTurn tracked id n) (laws_applyTurn _ _ _ False.elim))
  · exact areaOk_of_account area recallTop_openLoad.trans
      (accountOk_of (f := State.recallTop) (laws_recallTop fun _ => empty))
  · rintro o ⟨⟩
    simp [Tracker.areaLeft, State.openWith, aside, Rect.area]

end Sys2Proof.Machine
end

section
/-! PROOFS. The link: the bytes of a frame (R1, R2), and the order of the transmit line (R5, R10). -/

namespace Sys2Proof.Machine

/-! ### O4: the receiver collects a frame (R2) -/

/-- Fewer than three bytes of a frame are collected. -/
theorem assemble_short {got : List Byte} (h : got.length < 3) : assemble got = (.assembling got, none) := by
  unfold assemble
  split
  · simp only [List.length_cons] at h
    omega
  · rfl

/-- So are more, while the body and its check are not complete. -/
theorem assemble_partial {kind tag len : Byte} {rest : List Byte} (hlen : len.toNat ≤ 240)
    (h : rest.length < len.toNat + 2) :
    assemble (kind :: tag :: len :: rest) = (.assembling (kind :: tag :: len :: rest), none) := by
  unfold assemble
  simp only [Config.maxBody]
  rw [if_neg (by omega), if_neg (by omega)]

/-- A byte that ends a good frame hands it on, the receiver hunting again. -/
theorem exec_receiveByte_some {s : State} {m : Lines} {b : Byte} {gap : Nat} {bad : Bool} {f : Frame}
    (h : receive s.li.receiver b gap bad = (.hunting, some f)) :
    exec (.receiveByte m b gap bad) s =
      .next (((s.setLi { s.li with receiver := .hunting }).sample m).acceptFrame f) := by
  change Host.Outcome.next ((s.sample m).byteArrives b gap bad) = _
  unfold State.byteArrives
  rw [State.sample_li, h]
  rfl

theorem hunt_start (b : Byte) (bad : Bool) (hb : b = 0xA5) (good : bad = false) : hunt b bad = .assembling [] :=
  if_pos ⟨hb, good⟩

theorem hunt_other (b : Byte) (bad : Bool) (h : b ≠ 0xA5 ∨ bad = true) : hunt b bad = .hunting := by
  refine if_neg ?_
  rintro ⟨hb, good⟩
  obtain h | h := h
  · exact h hb
  · rw [good] at h
    cases h

/-- Settles O4: the receiver's branches. -/
theorem bytesOfAFrameAreCollected : Obligations.BytesOfAFrameAreCollected := by
  intro s m b gap bad
  refine ⟨fun hunting start good => ?_, fun hunting other => ?_, fun got collected inTime good =>
    ⟨fun short => ?_, fun kind tag len rest bytes fits few => ?_,
      fun kind tag len body lo hi bytes fits whole check row lines frame => ?_⟩⟩
  · exact exec_receiveByte_none (by rw [hunting, receive_hunting, hunt_start b bad start good])
  · exact exec_receiveByte_none (by rw [hunting, receive_hunting, hunt_other b bad other])
  · refine exec_receiveByte_none (by rw [collected, good, receive_inTime inTime, assemble_short (by simp; omega)])
  · exact exec_receiveByte_none (by
      rw [collected, good, receive_inTime inTime, bytes, assemble_partial fits few])
  · rw [exec_frame _ frame, lines]
    exact exec_receiveByte_some (by
      rw [collected, good, receive_inTime inTime, bytes, assemble_whole fits whole, if_pos check])

/-! ### O3: a frame byte by byte (R1, R2) -/

/-- A proper beginning of a frame's bytes is collected. -/
theorem assemble_begun {f : Frame} (fits : f.body.length ≤ 240) {got rest : List Byte} (more : rest ≠ [])
    (bytes : got ++ rest = f.covered ++ leBytes 2 (crc f.covered).toNat) : assemble got = (.assembling got, none) := by
  by_cases short : got.length < 3
  · exact assemble_short short
  · have length := congrArg List.length bytes
    obtain ⟨kind, tag, len, collected, rfl⟩ : ∃ k t l c, got = k :: t :: l :: c := by
      match got, short with
      | k :: t :: l :: c, _ => exact ⟨k, t, l, c, rfl⟩
      | [], h => simp at h
      | [_], h => simp at h
      | [_, _], h => simp at h
    have rest_pos : 0 < rest.length := List.length_pos_of_ne_nil more
    have len_eq : len = byteOf f.body.length := by
      simp only [Frame.covered, List.cons_append, List.cons.injEq] at bytes
      exact bytes.2.2.1
    have len_nat : len.toNat = f.body.length := by
      rw [len_eq, byteOf_toNat]
      omega
    simp only [Frame.covered, List.length_append, List.length_cons, leBytes, List.length_nil] at length
    refine assemble_partial (by omega) ?_
    omega

/-- The whole of a frame's bytes is the frame. -/
theorem assemble_frame {f : Frame} (fits : f.body.length ≤ 240) :
    assemble (f.covered ++ leBytes 2 (crc f.covered).toNat) = (.hunting, some f) := by
  have length : (byteOf f.body.length).toNat = f.body.length := by
    rw [byteOf_toNat]
    omega
  have check (k : BitVec 16) : (byteOf (k.toNat / 256) ++ byteOf k.toNat : BitVec 16) = k := by
    refine BitVec.eq_of_toNat_eq ?_
    rw [← leNat_pair]
    exact (leNat_leBytes 2 k.toNat).trans (Nat.mod_eq_of_lt k.isLt)
  exact (assemble_whole (by omega) length.symm).trans (congrArg (Prod.mk _) (if_pos (check (crc f.covered))))

/-- The rest of a frame's bytes, received in time, hands the frame on. -/
theorem feed_rest (m : Lines) {f : Frame} (fits : f.body.length ≤ 240) (l : List (Nat × Byte)) :
    ∀ {got : List Byte} {s : State}, s.li.receiver = .assembling got → l ≠ [] →
      got ++ l.map Prod.snd = f.covered ++ leBytes 2 (crc f.covered).toNat → (∀ e ∈ l, e.1 ≤ 20) →
      feed m l s = .next (((s.sample m).setLi { s.li with receiver := .hunting }).acceptFrame f) := by
  induction l with
  | nil => exact fun _ h => absurd rfl h
  | cons e rest ih =>
    obtain ⟨gap, b⟩ := e
    intro got s collected _ bytes inTime
    have gapOk : gap ≤ 20 := inTime (gap, b) List.mem_cons_self
    have split : (got ++ [b]) ++ rest.map Prod.snd = f.covered ++ leBytes 2 (crc f.covered).toNat := by
      rw [← bytes]
      simp
    unfold feed
    cases rest with
    | nil =>
      have whole : receive s.li.receiver b gap false = (.hunting, some f) := by
        rw [collected, receive_inTime gapOk, ← assemble_frame fits, ← split]
        simp
      rw [exec_receiveByte_some whole]
      rfl
    | cons e' rest' =>
      have more : receive s.li.receiver b gap false = (.assembling (got ++ [b]), none) := by
        rw [collected, receive_inTime gapOk, assemble_begun fits (by simp) split]
      rw [exec_receiveByte_none more]
      refine (ih (s := (s.sample m).setLi { s.li with receiver := .assembling (got ++ [b]) }) rfl (by simp) split
        fun x hx => inTime x (List.mem_cons_of_mem _ hx)).trans ?_
      rw [State.sample_setLi, State.sample_twice]
      rfl

/-- Settles O3: the start byte begins a frame, and the rest hands it on. -/
theorem wireBytesAreTheRequestRow : Obligations.WireBytesAreTheRequestRow := by
  intro c f s l frame fits hunting bytes inTime
  obtain ⟨e, rest, rfl⟩ : ∃ e rest, l = e :: rest := by
    cases l with
    | nil => cases bytes
    | cons e rest => exact ⟨e, rest, rfl⟩
  obtain ⟨gap, b⟩ := e
  obtain ⟨rfl, tail⟩ : b = 0xA5 ∧ rest.map Prod.snd = f.covered ++ leBytes 2 (crc f.covered).toNat := by
    simpa [Frame.wire] using bytes
  have start : receive s.li.receiver 0xA5 gap false = (.assembling [], none) := by
    rw [hunting, receive_hunting, hunt_start _ _ rfl rfl]
  have rest_ne : rest ≠ [] := by
    rintro rfl
    simp [Frame.covered] at tail
  unfold feed
  rw [exec_receiveByte_none start]
  refine (feed_rest c.lines fits rest
    (s := (s.sample c.lines).setLi { s.li with receiver := .assembling [] }) rfl rest_ne tail inTime).trans ?_
  have same : ({ s.li with receiver := .hunting } : Link) = s.li := by rw [← hunting]
  rw [exec_frame s frame, State.sample_setLi, State.sample_twice, State.setLi_twice]
  change Host.Outcome.next (((s.sample c.lines).setLi { s.li with receiver := .hunting }).acceptFrame f) = _
  rw [same]
  rfl

/-! ### O7: the transmit line (R5, R10) -/

/-- The order of R10. -/
theorem Link.nextFrame_eq (l : Link) (noticeFirst : Bool) :
    l.nextFrame noticeFirst =
      if l.busy ≠ [] then l.busy.head?.map (Sending.mk .linkBusy)
      else if noticeFirst = true ∧ l.notices ≠ [] then l.notices.head?.map (Sending.mk .notice)
      else if l.readyReply.isSome then l.readyReply.map (Sending.mk .reply)
      else l.notices.head?.map (Sending.mk .notice) := by
  unfold Link.nextFrame
  cases l.busy <;> cases l.notices <;> cases l.readyReply <;> cases noticeFirst <;> rfl

/-- A frame other than a reply leaves its list, and changes nothing else. -/
theorem sent_other {s : State} {src : TxSource} (other : src ≠ .reply) {l : Link}
    (busy : l.busy = if src = .linkBusy then s.li.busy.tail else s.li.busy)
    (queue : l.queue = s.li.queue) (receiver : l.receiver = s.li.receiver) :
    let t := s.setLi (l.startNext false)
    t.li.receiver = s.li.receiver ∧
      t.li.busy = (if src = .linkBusy then s.li.busy.tail else s.li.busy) ∧
      t.li.queue.map Queued.frame = (if src = .reply then s.li.queue.tail else s.li.queue).map Queued.frame ∧
      t.li.line =
        (if t.li.busy ≠ [] then t.li.busy.head?.map (Sending.mk .linkBusy)
        else if src = .reply ∧ s.li.notices ≠ [] then t.li.notices.head?.map (Sending.mk .notice)
        else if t.li.readyReply.isSome then t.li.readyReply.map (Sending.mk .reply)
        else t.li.notices.head?.map (Sending.mk .notice)) := by
  refine ⟨receiver, busy, ?_, ?_⟩
  · rw [if_neg other]
    exact congrArg _ queue
  · refine (l.nextFrame_eq false).trans ?_
    rw [if_neg (c := src = .reply ∧ _) fun h => other h.1, if_neg (c := false = true ∧ _) (by simp)]
    rfl

/-- What the end of a reply leaves: its frame gone, the next at the head decided. -/
theorem replySent_link (s : State) :
    let left := s.setLi { s.li with queue := s.li.queue.tail }
    (s.replySent.li.receiver = s.li.receiver ∧ s.replySent.li.busy = s.li.busy ∧
      s.replySent.li.queue.map Queued.frame = s.li.queue.tail.map Queued.frame ∧
      (∀ q, s.replySent.li.queue.head? = some q → q.reply.isSome = true) ∧
      ∃ more, s.replySent.li.notices = s.li.notices ++ more) ∧
    s.replySent = left.decideHead.setLi { left.decideHead.li with line := s.replySent.li.line } := by
  refine ⟨?_, rfl⟩
  change let d := (s.setLi { s.li with queue := s.li.queue.tail }).decideHead
    d.li.receiver = _ ∧ d.li.busy = _ ∧ d.li.queue.map Queued.frame = _ ∧
      (∀ q, d.li.queue.head? = some q → q.reply.isSome = true) ∧ ∃ more, d.li.notices = _ ++ more
  by_cases waits : ∃ f rest, s.li.queue.tail = ⟨f, none⟩ :: rest
  · obtain ⟨f, rest, tail⟩ := waits
    rw [tail]
    obtain ⟨r, k⟩ := linkKept_decideHead (s := s.setLi { s.li with queue := ⟨f, none⟩ :: rest }) rfl
    refine ⟨k.receiver, k.busy, ?_, ?_, k.notices⟩
    · rw [k.queue]
      rfl
    · rw [k.queue]
      rintro q ⟨⟩
      rfl
  · have decided : ∀ q, s.li.queue.tail.head? = some q → q.reply.isSome = true := by
      rintro ⟨f, reply⟩ hq
      cases reply with
      | some _ => rfl
      | none =>
        obtain ⟨rest, e⟩ := List.head?_eq_some_iff.mp hq
        exact absurd ⟨f, rest, e⟩ waits
    rw [decideHead_decided (s := s.setLi { s.li with queue := s.li.queue.tail }) decided]
    exact ⟨rfl, rfl, rfl, decided, [], by simp⟩

/-- Settles O7: the branches of `frameSent`, and R10's order. -/
theorem transmitLineOrder : Obligations.TransmitLineOrder := by
  refine ⟨fun s m src g sending noReset => ⟨(s.sample m).frameSent, rfl, ?_⟩, fun s m free => ?_⟩
  · cases src with
    | linkBusy =>
      have sent : (s.sample m).frameSent =
          (s.sample m).setLi (Link.startNext { s.li with busy := s.li.busy.tail } false) := by
        unfold State.frameSent
        rw [State.sample_li, sending]
      rw [sent]
      obtain ⟨receiver, busy, queue, line⟩ := sent_other (s := s.sample m) (src := .linkBusy)
        (l := { s.li with busy := s.li.busy.tail }) nofun rfl rfl rfl
      exact ⟨receiver, busy, queue, nofun, nofun, fun _ => rfl, nofun, nofun, line⟩
    | notice =>
      have sent : (s.sample m).frameSent =
          (s.sample m).setLi (Link.startNext { s.li with notices := s.li.notices.tail } false) := by
        unfold State.frameSent
        rw [State.sample_li, sending]
      rw [sent]
      obtain ⟨receiver, busy, queue, line⟩ := sent_other (s := s.sample m) (src := .notice)
        (l := { s.li with notices := s.li.notices.tail }) nofun rfl rfl rfl
      exact ⟨receiver, busy, queue, nofun, fun _ => rfl, nofun, nofun, nofun, line⟩
    | reply =>
      have sent : (s.sample m).frameSent = (s.sample m).replySent := by
        unfold State.frameSent
        rw [State.sample_li, sending]
        dsimp only
        rw [noReset rfl]
        rfl
      rw [sent]
      obtain ⟨⟨receiver, busy, queue, decided, more⟩, whole⟩ := replySent_link (s.sample m)
      refine ⟨receiver, busy, queue, fun _ => decided, nofun, nofun, fun _ => more, fun _ => ⟨fun f rest tail => ?_,
        fun done => ?_⟩, ?_⟩
      · refine whole.trans ?_
        have head : ((s.sample m).setLi { (s.sample m).li with queue := (s.sample m).li.queue.tail }).decideHead =
            ((decideFrame f ((s.sample m).setLi { s.li with queue := s.li.queue.tail })).1.replied f
              (decideFrame f ((s.sample m).setLi { s.li with queue := s.li.queue.tail })).2).settle := by
          unfold State.decideHead
          rw [State.sample_li, State.li_setLi, tail]
          rfl
        rw [head]
      · refine whole.trans ?_
        rw [decideHead_decided
          (s := (s.sample m).setLi { (s.sample m).li with queue := (s.sample m).li.queue.tail }) done]
        rfl
      · obtain ⟨added, notices⟩ := more
        refine (Link.nextFrame_eq _ _).trans ?_
        change (if (s.sample m).replySent.li.busy ≠ [] then _
          else if (!s.li.notices.isEmpty) = true ∧ (s.sample m).replySent.li.notices ≠ [] then _ else _) = _
        have first : ((!s.li.notices.isEmpty) = true ∧ (s.sample m).replySent.li.notices ≠ []) ↔
            (TxSource.reply = .reply ∧ s.li.notices ≠ []) := by
          rw [notices, State.sample_li]
          cases s.li.notices <;> simp
        simp only [first]
        rfl
  · change Host.Outcome.next (s.sample m).frameSent = _
    unfold State.frameSent
    rw [State.sample_li, free]

end Sys2Proof.Machine
end

section
/-! PROOFS. The Program Store: STORE_OPEN, STEP, REPLACE_STEP, DELETE_PROGRAM, READ_PROGRAM and LIST_PROGRAMS (R23 to
R35). -/

namespace Sys2Proof.Machine

/-! ### O15: STORE_OPEN (R23, R24) -/

/-- The steps of the stored program, or none for a new one (R24 point 1). -/
theorem State.programOr_steps (s : State) (n : Nat) (h : Header) :
    (s.programOr n h).steps = ((s.program n).map Program.steps).getD [] := by
  unfold State.programOr
  cases s.program n <;> rfl

theorem State.inUse_iff (s : State) (n : Nat) : s.inUse n = true ↔ s.pr.state ≠ .idle ∧ s.pr.program = n :=
  decide_eq_true_iff

/-- STORE_OPEN on the descriptor and the two bytes behind it. -/
theorem decideStoreOpen_eq {d : List Byte} (h37 : d.length = 37) (f n : Byte) (s : State) :
    decideStoreOpen (d ++ [f, n]) s =
      match decodeHeader d with
      | none => (s, [0x05])
      | some (number, h) =>
        let old := ((s.program number).map Program.steps).getD []
        if ¬(f.toNat ≤ old.length ∧ 1 ≤ n.toNat ∧ n.toNat + f.toNat ≤ 250) then (s, [0x05])
        else if s.pr.state ≠ .idle ∧ s.pr.program = number then (s, [0x09])
        else
          let stored := progInsert s.ps.programs number ⟨h, old.take f.toNat, false⟩
          (s.setPs { s.ps with programs := stored, window := some ⟨number, f.toNat, f.toNat + n.toNat⟩ },
            0x00 :: (leBytes 2 (stepUnits old - stepUnits (old.take f.toNat)) ++
              leBytes 2 (4000 - usedUnits stored))) := by
  have front : (d ++ [f, n]).take 37 = d := by simp [← h37]
  have keep : fieldAt (d ++ [f, n]) 37 1 = f.toNat := fieldAt_byte (by simp [← h37])
  have count : fieldAt (d ++ [f, n]) 38 1 = n.toNat := by
    have past : (d ++ [f, n]).drop 38 = [n] := by simp [List.drop_append, h37]
    exact fieldAt_byte (by rw [past]; rfl)
  unfold decideStoreOpen
  rw [front, keep, count]
  cases decodeHeader d with
  | none => rfl
  | some x =>
    obtain ⟨number, h⟩ := x
    dsimp only
    rw [State.programOr_steps]
    generalize old : ((s.program number).map Program.steps).getD [] = l
    have ranges : (l.length < f.toNat ∨ ¬(1 ≤ n.toNat ∧ n.toNat ≤ Config.maxSteps - f.toNat)) ↔
        ¬(f.toNat ≤ l.length ∧ 1 ≤ n.toNat ∧ n.toNat + f.toNat ≤ 250) := by
      simp only [Config.maxSteps]
      omega
    simp only [ranges, State.inUse_iff, Program.units, State.programOr_steps, old]
    rfl

/-- Settles O15: the owner's branches, and what the program list reads back. -/
theorem storeOpenOpensTheWindow : Obligations.StoreOpenOpensTheWindow := by
  refine ⟨fun s m tag f n d h37 empty => ?_, progLookup_progInsert⟩
  intro c closed
  have length : (d ++ [f, n]).length = Request.storeOpen.bodyLength := by simp [h37, Request.bodyLength]
  have decided : decideOwner .storeOpen (d ++ [f, n]) closed = _ := decideStoreOpen_eq h37 f n closed
  have decides {t : State} {body : List Byte} (e : decideOwner .storeOpen (d ++ [f, n]) closed = (t, body)) :
      Decides c s t body := decides_owner (r := .storeOpen) rfl empty length e
  refine ⟨fun bad => decides (by rw [decided, bad]), fun number h good => ?_⟩
  rw [good] at decided
  intro old used stored
  refine ⟨fun wrong => decides (decided.trans (if_pos wrong)), fun f1 n1 n2 inUse => decides (decided.trans ?_),
    fun f1 n1 n2 free => decides (decided.trans ?_)⟩
  · exact (if_neg (not_not_intro ⟨f1, n1, n2⟩)).trans (if_pos inUse)
  · exact (if_neg (not_not_intro ⟨f1, n1, n2⟩)).trans (if_neg free)

/-! ### O16: STEP (R25 to R27) -/

/-- Settles O16: the owner's branches. -/
theorem stepWritesAtTheWindow : Obligations.StepWritesAtTheWindow := by
  intro s m tag body h13 empty c h
  have decides {t : State} {reply : List Byte} (e : decideStep body h = (t, reply)) : Decides c s t reply :=
    decides_owner (r := .step) rfl empty h13 e
  refine ⟨fun bad => decides ?_, fun r good closed => decides ?_, fun r w p good opened stored =>
    ⟨fun full => decides ?_, fun room => decides ?_⟩⟩
  · unfold decideStep
    rw [bad]
    rfl
  · unfold decideStep
    rw [good, show h.ps.window = none from closed]
    rfl
  · unfold decideStep
    rw [good, show h.ps.window = some w from opened]
    dsimp only
    rw [show h.program w.program = some p from stored]
    exact if_pos full
  · unfold decideStep
    rw [good, show h.ps.window = some w from opened]
    dsimp only
    rw [show h.program w.program = some p from stored]
    refine (if_neg (Nat.not_lt.mpr room)).trans ?_
    rfl

/-! ### O17: REPLACE_STEP and DELETE_PROGRAM (R30 to R32) -/

theorem programNumber_iff (n : Nat) : programNumber n = true ↔ 1 ≤ n ∧ n ≤ 99 := decide_eq_true_iff

/-- REPLACE_STEP on its bytes. -/
theorem decideReplaceStep_eq (n i : Byte) (d : List Byte) (s : State) :
    decideReplaceStep (n :: i :: d) s =
      match programNumber n.toNat, decodeStep d with
      | true, some r =>
        match s.program n.toNat with
        | none => (s, [0x06])
        | some p =>
          match p.steps[i.toNat]? with
          | none => (s, [0x06])
          | some old =>
            if s.stepInUse n.toNat i.toNat then (s, [0x09])
            else if old.units + (4000 - usedUnits s.ps.programs) < r.units then (s, [0x08])
            else
              let stored := progInsert s.ps.programs n.toNat { p with steps := p.steps.set i.toNat r }
              (s.setPs { s.ps with programs := stored }, 0x00 :: leBytes 2 (4000 - usedUnits stored))
      | _, _ => (s, [0x05]) := by
  unfold decideReplaceStep
  rw [fieldAt_head, fieldAt_byte (b := i) rfl]
  rfl

/-- DELETE_PROGRAM on its byte. -/
theorem decideDeleteProgram_eq (n : Byte) (s : State) :
    decideDeleteProgram [n] s =
      if ¬(1 ≤ n.toNat ∧ n.toNat ≤ 99) then (s, [0x05])
      else
        match s.program n.toNat with
        | none => (s, [0x06])
        | some p =>
          if s.pr.state ≠ .idle ∧ s.pr.program = n.toNat then (s, [0x09])
          else
            let stored := progErase s.ps.programs n.toNat
            (s.setPs { s.ps with programs := stored },
              0x00 :: (leBytes 2 (stepUnits p.steps) ++ leBytes 2 (4000 - usedUnits stored))) := by
  unfold decideDeleteProgram
  rw [fieldAt_head]
  simp only [Bool.not_eq_true', ← Bool.not_eq_true, programNumber_iff, State.inUse_iff]
  rfl

theorem State.stepInUse_iff (s : State) (n i : Nat) :
    s.stepInUse n i = true ↔ s.runOpen = true ∧ s.pr.program = n ∧ i ≤ s.pr.step := by
  unfold State.stepInUse
  rw [Bool.and_eq_true, decide_eq_true_iff]

/-- Settles O17: the owners' branches, and what the program list reads back. -/
theorem replaceStepAndDeleteProgramEditTheStore : Obligations.ReplaceStepAndDeleteProgramEditTheStore := by
  refine ⟨fun s m tag n i d h13 empty => ?_, fun s m tag n empty => ?_, fun l n k => progLookup_progErase n k⟩
  · intro c closed
    have decided := decideReplaceStep_eq n i d closed
    have decides {t : State} {body : List Byte} (e : decideReplaceStep (n :: i :: d) closed = (t, body)) :
        Decides c s t body := decides_owner (r := .replaceStep) rfl empty (by simp [h13, Request.bodyLength]) e
    refine ⟨fun wrong => decides (decided.trans ?_), fun r n1 n2 good => ?_⟩
    · obtain wrong | wrong := wrong
      · rw [Bool.eq_false_iff.mpr (mt (programNumber_iff _).mp wrong)]
      · rw [wrong]
        cases programNumber n.toNat <;> rfl
    · rw [(programNumber_iff _).mpr ⟨n1, n2⟩, good] at decided
      refine ⟨fun missing => decides (decided.trans ?_), fun p found => ?_⟩
      · rw [show closed.program n.toNat = none from missing]
      · rw [show closed.program n.toNat = some p from found] at decided
        dsimp only at decided
        refine ⟨fun past => decides (decided.trans ?_), fun old ho => ?_⟩
        · rw [List.getElem?_eq_none past]
        · rw [ho] at decided
          dsimp only at decided
          intro used fits stored
          have used_iff : closed.stepInUse n.toNat i.toNat = true ↔ used := State.stepInUse_iff _ _ _
          refine ⟨fun inUse => decides (decided.trans (if_pos (used_iff.mpr inUse))), fun free full => decides ?_,
            fun free room => decides ?_⟩
          · exact decided.trans ((if_neg (mt used_iff.mp free)).trans (if_pos (Nat.not_le.mp full)))
          · exact decided.trans ((if_neg (mt used_iff.mp free)).trans (if_neg (Nat.not_lt.mpr room)))
  · intro c closed
    have decided := decideDeleteProgram_eq n closed
    have decides {t : State} {body : List Byte} (e : decideDeleteProgram [n] closed = (t, body)) :
        Decides c s t body := decides_owner (r := .deleteProgram) rfl empty rfl e
    refine ⟨fun wrong => decides (decided.trans (if_pos wrong)), fun n1 n2 => ?_⟩
    rw [if_neg (not_not_intro ⟨n1, n2⟩)] at decided
    refine ⟨fun missing => decides (decided.trans ?_), fun p found => ?_⟩
    · rw [show closed.program n.toNat = none from missing]
    · rw [show closed.program n.toNat = some p from found] at decided
      intro used stored
      exact ⟨fun inUse => decides (decided.trans (if_pos inUse)), fun free => decides (decided.trans (if_neg free))⟩

/-! ### O18: READ_PROGRAM and LIST_PROGRAMS (R33 to R35) -/

/-- READ_PROGRAM on its bytes. -/
theorem decideReadProgram_eq (n i : Byte) (s : State) :
    decideReadProgram [n, i] s =
      if ¬(1 ≤ n.toNat ∧ n.toNat ≤ 99) then (s, [0x05])
      else
        match s.program n.toNat with
        | none => (s, [0x06])
        | some p =>
          if p.steps.length < i.toNat then (s, [0x06])
          else
            let shown := (p.steps.drop i.toNat).take 8
            (s, 0x00 :: (p.report n.toNat ++ leBytes 1 shown.length ++ shown.flatMap encodeStep)) := by
  unfold decideReadProgram
  rw [fieldAt_head, fieldAt_byte (b := i) rfl]
  simp only [Bool.not_eq_true', ← Bool.not_eq_true, programNumber_iff]
  rfl

theorem directoryEntry_length (n : Nat) (p : Program) : (directoryEntry n p).length = 6 + p.header.name.length := by
  simp [directoryEntry, leBytes]
  omega

/-- The directory shows the longest front part that fits, and names the program behind it (R34). -/
theorem directory_eq (l : List (Nat × Program)) :
    ∀ room used, used ≤ 240 → ∃ shown rest, l = shown ++ rest ∧
      directory l room used =
        (shown.map fun e => directoryEntry e.1 e.2, (rest.head?.map Prod.fst).getD 0) ∧
      shown.length ≤ room ∧ used + (shown.flatMap fun e => directoryEntry e.1 e.2).length ≤ 240 ∧
      ∀ e, rest.head? = some e → shown.length = room ∨
        240 < used + (shown.flatMap fun e => directoryEntry e.1 e.2).length + (6 + e.2.header.name.length) := by
  induction l with
  | nil => exact fun room used fits => ⟨[], [], rfl, by cases room <;> rfl, Nat.zero_le _, fits, nofun⟩
  | cons e rest ih =>
    obtain ⟨n, p⟩ := e
    intro room used fits
    cases room with
    | zero => exact ⟨[], (n, p) :: rest, rfl, rfl, le_rfl, fits, fun _ _ => .inl rfl⟩
    | succ room =>
      by_cases tooLong : 240 < used + (directoryEntry n p).length
      · refine ⟨[], (n, p) :: rest, rfl, if_pos tooLong, Nat.zero_le _, fits, ?_⟩
        rintro _ ⟨⟩
        rw [directoryEntry_length] at tooLong
        exact .inr tooLong
      · obtain ⟨shown, left, rfl, e, short, within, next⟩ := ih room (used + (directoryEntry n p).length) (by omega)
        refine ⟨(n, p) :: shown, left, rfl, (if_neg tooLong).trans ?_, Nat.succ_le_succ short, ?_, fun x hx => ?_⟩
        · rw [e]
          rfl
        · simp only [List.flatMap_cons, List.length_append]
          omega
        · simp only [List.flatMap_cons, List.length_append, List.length_cons]
          obtain full | tooLong' := next x hx
          · exact .inl (congrArg Nat.succ full)
          · right
            omega

/-- Settles O18: the owners' branches, and the directory's longest front part. -/
theorem readAndListReportTheStore : Obligations.ReadAndListReportTheStore := by
  refine ⟨fun s m tag n i empty => ?_, fun s m tag n empty => ?_⟩
  · intro c closed
    have decided := decideReadProgram_eq n i closed
    have decides {t : State} {body : List Byte} (e : decideReadProgram [n, i] closed = (t, body)) :
        Decides c s t body := decides_owner (r := .readProgram) rfl empty rfl e
    refine ⟨fun wrong => decides (decided.trans (if_pos wrong)), fun n1 n2 => ?_⟩
    rw [if_neg (not_not_intro ⟨n1, n2⟩)] at decided
    refine ⟨fun missing => decides (decided.trans ?_), fun p found => ?_⟩
    · rw [show closed.program n.toNat = none from missing]
    · rw [show closed.program n.toNat = some p from found] at decided
      refine ⟨fun past => decides (decided.trans (if_pos past)), fun within => decides (decided.trans ?_)⟩
      refine (if_neg (Nat.not_lt.mpr within)).trans ?_
      simp only [Program.report, List.length_take, List.length_drop, List.append_assoc]
      rfl
  · intro c closed
    have decides {t : State} {body : List Byte} (e : decideListPrograms [n] closed = (t, body)) :
        Decides c s t body := decides_owner (r := .listPrograms) rfl empty rfl e
    have first : fieldAt [n] 0 1 = n.toNat := fieldAt_head n []
    refine ⟨fun wrong => decides ?_, fun n1 n2 => ?_⟩
    · unfold decideListPrograms
      rw [first]
      exact if_pos (by simpa using mt (programNumber_iff _).mp wrong)
    · obtain ⟨shown, rest, split, e, short, within, next⟩ :=
        directory_eq (s.ps.programs.filter fun e => decide (n.toNat ≤ e.1)) 12 5 (by decide)
      refine ⟨shown, rest, split, short, within, next, decides ?_⟩
      unfold decideListPrograms
      rw [first]
      refine (if_neg (by simpa using (programNumber_iff _).mpr ⟨n1, n2⟩)).trans ?_
      change (match directory (s.ps.programs.filter fun e => decide (n.toNat ≤ e.1)) 12 5 with
        | (es, next) => take closed (closed.freeBytes ++ leBytes 1 next ++ leBytes 1 es.length ++ es.flatten)) = _
      rw [e]
      simp only [List.length_map, ← List.flatMap_def, List.append_assoc]
      rfl

end Sys2Proof.Machine
end

section
/-! PROOFS. The records of the store on the link: steps, headers and directory entries (R19 to R21, Tables 16, 18,
22). -/

namespace Sys2Proof.Machine

/-! ### Slices of a body -/

/-- The bytes of a number read from bytes are those bytes. -/
theorem leBytes_leNat (l : List Byte) : leBytes l.length (leNat l) = l := by
  induction l with
  | nil => rfl
  | cons b l ih =>
    have low : BitVec.ofNat 8 (b.toNat + 256 * leNat l) = b :=
        BitVec.eq_of_toNat_eq (by simp [Nat.add_mul_mod_self_left, Nat.mod_eq_of_lt b.isLt])
    have high : (b.toNat + 256 * leNat l) / 256 = leNat l := by
      have := b.isLt
      omega
    rw [List.length_cons, leBytes, leNat, low, high, ih]

/-- A field within a body gives back its bytes. -/
theorem leBytes_fieldAt {b : List Byte} {off n : Nat} (h : off + n ≤ b.length) :
    leBytes n (fieldAt b off n) = (b.drop off).take n := by
  have length : ((b.drop off).take n).length = n := by
    rw [List.length_take, List.length_drop]
    omega
  have same := leBytes_leNat ((b.drop off).take n)
  rwa [length] at same

/-- A field whose number fits it reads back as the number. -/
theorem fieldAt_leBytes_lt {r : List Byte} {off n v : Nat} (h : (r.drop off).take n = leBytes n v)
    (small : v < 256 ^ n) : fieldAt r off n = v :=
  (fieldAt_leBytes h).trans (Nat.mod_eq_of_lt small)

/-- A field behind the front of a body. -/
theorem fieldAt_behind {a : List Byte} {k : Nat} (h : a.length = k) (r : List Byte) (off n : Nat) :
    fieldAt (a ++ r) (k + off) n = fieldAt r off n := by
  have past : (a ++ r).drop (k + off) = r.drop off := by
    rw [← h, ← List.drop_drop, List.drop_left]
  unfold fieldAt
  rw [past]

/-! ### Steps (R20, Table 18) -/

theorem StepKind.ofCode_code (k : StepKind) : StepKind.ofCode k.code = some k := by cases k <;> rfl
theorem Disposition.ofCode_code (d : Disposition) : Disposition.ofCode d.code = some d := by cases d <;> rfl
theorem TargetMode.ofCode_code (m : TargetMode) : TargetMode.ofCode m.code = some m := by cases m <;> rfl

theorem StepKind.code_ofCode {n : Nat} {k : StepKind} (h : StepKind.ofCode n = some k) : k.code = n := by
  unfold StepKind.ofCode at h
  split at h <;> cases h <;> rfl

theorem Disposition.code_ofCode {n : Nat} {d : Disposition} (h : Disposition.ofCode n = some d) : d.code = n := by
  unfold Disposition.ofCode at h
  split at h <;> cases h <;> rfl

theorem TargetMode.code_ofCode {n : Nat} {m : TargetMode} (h : TargetMode.ofCode n = some m) : m.code = n := by
  unfold TargetMode.ofCode at h
  split at h <;> cases h <;> rfl

/-- The numbers of an accepted record fit their fields. -/
theorem StepRec.accepted_bounds {r : StepRec} (h : r.accepted = true) :
    r.label ≤ 9999 ∧ r.count ≤ 99 ∧ r.value ≤ 124000 ∧ r.pitch ≤ 124000 := by
  unfold StepRec.accepted StepRec.fieldsOk at h
  rw [Bool.and_eq_true, decide_eq_true_iff] at h
  obtain ⟨label, h⟩ := h
  refine ⟨label, ?_⟩
  simp only [Config.gmax] at h
  split at h
  · rw [Bool.and_eq_true, decide_eq_true_iff] at h
    obtain ⟨⟨-, value, -, count⟩, pitch⟩ := h
    refine ⟨count, value, ?_⟩
    split at pitch
    · have := of_decide_eq_true pitch
      omega
    · exact (of_decide_eq_true pitch).2
  all_goals
    have := of_decide_eq_true h
    omega

theorem encodeStep_length (r : StepRec) : (encodeStep r).length = 13 := by simp [encodeStep, leBytes]

/-- The fields of an accepted record at the offsets of Table 18. -/
theorem encodeStep_fields {r : StepRec} (h : r.accepted = true) :
    let b := encodeStep r
    fieldAt b 0 1 = r.kind.code ∧ fieldAt b 1 2 = r.label ∧ fieldAt b 3 1 = r.disposition.code ∧
      fieldAt b 4 1 = r.mode.code ∧ fieldAt b 5 1 = r.count ∧ fieldAt b 6 4 = r.value ∧ fieldAt b 10 3 = r.pitch := by
  obtain ⟨label, count, value, pitch⟩ := StepRec.accepted_bounds h
  refine ⟨fieldAt_leBytes_lt (n := 1) rfl (by cases r.kind <;> decide), fieldAt_leBytes_lt (n := 2) rfl (by omega),
    fieldAt_leBytes_lt (n := 1) rfl (by cases r.disposition <;> decide),
    fieldAt_leBytes_lt (n := 1) rfl (by cases r.mode <;> decide), fieldAt_leBytes_lt (n := 1) rfl (by omega),
    fieldAt_leBytes_lt (n := 4) rfl (by omega), fieldAt_leBytes_lt (n := 3) rfl (by omega)⟩

theorem decodeStep_encodeStep {r : StepRec} (h : r.accepted = true) : decodeStep (encodeStep r) = some r := by
  obtain ⟨kind, label, disposition, mode, count, value, pitch⟩ := encodeStep_fields h
  unfold decodeStep
  rw [kind, label, disposition, mode, count, value, pitch, StepKind.ofCode_code, Disposition.ofCode_code,
    TargetMode.ofCode_code]
  exact if_pos h

theorem encodeStep_decodeStep {b : List Byte} {r : StepRec} (h13 : b.length = 13) (h : decodeStep b = some r) :
    encodeStep r = b := by
  have slice {off n : Nat} (h : off + n ≤ 13) : leBytes n (fieldAt b off n) = (b.drop off).take n :=
    leBytes_fieldAt (by omega)
  unfold decodeStep at h
  split at h
  · rename_i k d m kind disposition mode
    dsimp only at h
    split at h
    · cases h
      unfold encodeStep
      rw [StepKind.code_ofCode kind, Disposition.code_ofCode disposition, TargetMode.code_ofCode mode,
        slice (by decide), slice (by decide), slice (by decide), slice (by decide), slice (by decide),
        slice (by decide), slice (by decide)]
      match b, h13 with
      | [_, _, _, _, _, _, _, _, _, _, _, _, _], _ => rfl
    · cases h
  · cases h

/-! ### Headers (R19, Table 16) -/

/-- The part of a descriptor behind the name. -/
def headerTail (h : Header) : List Byte :=
  [flagByte [h.link.isSome, h.format.isSome, h.finished.isSome, h.draw.isSome]] ++
    leBytes 1 (h.link.getD 0) ++
    leBytes 4 (h.format.getD (0, 0)).1 ++ leBytes 4 (h.format.getD (0, 0)).2 ++
    leBytes 4 (h.finished.getD (0, 0)).1 ++ leBytes 4 (h.finished.getD (0, 0)).2 ++
    leInt 1 (h.draw.getD 0)

/-- The name, filled up to 16 bytes. -/
def Header.paddedName (h : Header) : List Byte := h.name ++ List.replicate (16 - h.name.length) 0

/-- A descriptor is number, name length, the padded name and the rest. -/
theorem encodeHeader_eq (n : Nat) (h : Header) :
    encodeHeader n h = ([byteOf n, byteOf h.name.length] ++ h.paddedName) ++ headerTail h := by
  simp only [encodeHeader, headerTail, Header.paddedName, List.append_assoc]
  rfl

/-- The numbers of an accepted header fit their fields. -/
theorem Header.accepted_bounds {h : Header} (ok : h.accepted = true) :
    h.name.length ≤ 16 ∧ (∀ l, h.link = some l → l ≤ 99) ∧
      (∀ x, h.format = some x → x.1 ≤ 124000 ∧ x.2 ≤ 124000) ∧
      (∀ x, h.finished = some x → x.1 ≤ 124000 ∧ x.2 ≤ 124000) ∧ ∀ k, h.draw = some k → -40 ≤ k ∧ k ≤ 40 := by
  unfold Header.accepted lengthOk at ok
  simp only [Bool.and_eq_true, decide_eq_true_iff, Config.gmax, Config.maxProgram] at ok
  obtain ⟨⟨⟨⟨⟨name, -⟩, link⟩, format⟩, finished⟩, draw⟩ := ok
  refine ⟨name, fun l e => ?_, fun x e => ?_, fun x e => ?_, fun k e => ?_⟩
  · rw [e] at link
    exact (of_decide_eq_true link).2
  · rw [e] at format
    simp only [Bool.and_eq_true, decide_eq_true_iff] at format
    exact ⟨format.1.1.2, format.1.2.2⟩
  · rw [e] at finished
    simp only [Bool.and_eq_true, decide_eq_true_iff] at finished
    exact ⟨finished.1.2, finished.2.2⟩
  · rw [e] at draw
    exact of_decide_eq_true draw

/-- The parts of a pair that may be absent fit four bytes. -/
theorem getD_pair_lt {x : Option (Nat × Nat)} (h : ∀ y, x = some y → y.1 ≤ 124000 ∧ y.2 ≤ 124000) :
    (x.getD (0, 0)).1 < 256 ^ 4 ∧ (x.getD (0, 0)).2 < 256 ^ 4 := by
  cases x with
  | none => decide
  | some y =>
    have := h y rfl
    simp only [Option.getD_some]
    omega

/-- A signed byte within -40..40 reads back. -/
theorem signedOf_leInt {k : Int} (low : -40 ≤ k) (high : k ≤ 40) : signedOf 1 (leNat (leInt 1 k)) = k := by
  have read := leNat_leInt 1 k
  unfold signedOf
  rw [pow_one] at read ⊢
  split <;> omega

/-- The fields of an accepted header at the offsets of Table 16. -/
theorem encodeHeader_fields {n : Nat} {h : Header} (high : n ≤ 99) (ok : h.accepted = true) :
    let b := encodeHeader n h
    b.length = 37 ∧ fieldAt b 0 1 = n ∧ fieldAt b 1 1 = h.name.length ∧
      (b.drop 2).take 16 = h.name ++ List.replicate (16 - h.name.length) 0 ∧
      fieldAt b 18 1 = flagNumber [h.link.isSome, h.format.isSome, h.finished.isSome, h.draw.isSome] ∧
      fieldAt b 19 1 = h.link.getD 0 ∧
      (fieldAt b 20 4, fieldAt b 24 4) = h.format.getD (0, 0) ∧
      (fieldAt b 28 4, fieldAt b 32 4) = h.finished.getD (0, 0) ∧ signedAt b 36 1 = h.draw.getD 0 := by
  obtain ⟨name, link, format, finished, draw⟩ := Header.accepted_bounds ok
  have padded : h.paddedName.length = 16 := by
    simp only [Header.paddedName, List.length_append, List.length_replicate]
    omega
  have front : ([byteOf n, byteOf h.name.length] ++ h.paddedName).length = 18 := by simp [padded]
  have behind (off k : Nat) : fieldAt (encodeHeader n h) (18 + off) k = fieldAt (headerTail h) off k := by
    rw [encodeHeader_eq]
    exact fieldAt_behind front _ _ _
  have linkFits : h.link.getD 0 < 256 ^ 1 := by
    cases e : h.link with
    | none => decide
    | some l =>
      have := link l e
      simp only [Option.getD_some]
      omega
  obtain ⟨format1, format2⟩ := getD_pair_lt format
  obtain ⟨finished1, finished2⟩ := getD_pair_lt finished
  refine ⟨?_, ?_, ?_, ?_, ?_, ?_, ?_, ?_, ?_⟩
  · rw [encodeHeader_eq, List.length_append, front]
    simp [headerTail, leBytes, leInt]
  · exact fieldAt_code rfl (by omega)
  · exact fieldAt_code rfl (by omega)
  · rw [encodeHeader_eq]
    exact (congrArg (List.take 16) (List.drop_left' (l₁ := [byteOf n, byteOf h.name.length]) rfl :)).trans
      (List.take_left' padded)
  · rw [behind 0 1, fieldAt_byte (b := flagByte _) rfl, flagByte_toNat (by simp)]
  · exact (behind 1 1).trans (fieldAt_leBytes_lt (n := 1) rfl linkFits)
  · exact Prod.ext ((behind 2 4).trans (fieldAt_leBytes_lt (n := 4) rfl format1))
      ((behind 6 4).trans (fieldAt_leBytes_lt (n := 4) rfl format2))
  · exact Prod.ext ((behind 10 4).trans (fieldAt_leBytes_lt (n := 4) rfl finished1))
      ((behind 14 4).trans (fieldAt_leBytes_lt (n := 4) rfl finished2))
  · unfold signedAt
    rw [behind 18 1]
    have read : fieldAt (headerTail h) 18 1 = leNat (leInt 1 (h.draw.getD 0)) := rfl
    rw [read]
    cases e : h.draw with
    | none => decide
    | some k => exact signedOf_leInt (draw k e).1 (draw k e).2

/-- A part is present exactly when its flag is set, and then it is the field read. -/
theorem part_eq {α : Type} {x : Option α} {d y : α} {b : Bool} (flag : b = x.isSome) (field : y = x.getD d) :
    (if b = true then some y else none) = x := by
  subst flag field
  cases x <;> rfl

theorem decodeHeader_encodeHeader {n : Nat} {h : Header} (low : 1 ≤ n) (high : n ≤ 99) (ok : h.accepted = true) :
    decodeHeader (encodeHeader n h) = some (n, h) := by
  obtain ⟨name, -⟩ := Header.accepted_bounds ok
  obtain ⟨-, number, nameLen, padded, parts, link, format, finished, draw⟩ := encodeHeader_fields high ok
  have flag := flagNumber_testBit [h.link.isSome, h.format.isSome, h.finished.isSome, h.draw.isSome]
  have small := flagNumber_lt [h.link.isSome, h.format.isSome, h.finished.isSome, h.draw.isSome]
  have nameRead : ((encodeHeader n h).drop 2).take h.name.length = h.name := by
    have within := congrArg (List.take h.name.length) padded
    rwa [List.take_take, min_eq_left name, List.take_left] at within
  unfold decodeHeader
  dsimp only
  rw [number, nameLen, parts, nameRead, part_eq (flag 0) link, part_eq (flag 1) format, part_eq (flag 2) finished,
    part_eq (flag 3) draw]
  exact if_pos ⟨low, high, name, small, ok⟩

/-! ### O19 -/

/-- Settles O19: each record field by field. -/
theorem recordsRoundTrip : Obligations.RecordsRoundTrip := by
  refine ⟨fun _ => decodeStep_encodeStep, fun _ _ => encodeStep_decodeStep, fun _ _ => decodeHeader_encodeHeader,
    fun r ok => ?_, fun n h low high ok => ?_, fun _ _ => rfl⟩
  · obtain ⟨kind, label, disposition, mode, fields⟩ := encodeStep_fields ok
    refine ⟨encodeStep_length r, kind.trans ?_, label, disposition.trans ?_, mode.trans ?_, fields⟩
    · cases r.kind <;> rfl
    · cases r.disposition <;> rfl
    · cases r.mode <;> rfl
  · obtain ⟨length, number, nameLen, padded, parts, fields⟩ := encodeHeader_fields high ok
    refine ⟨length, number, nameLen, padded, fun k => ?_, fields⟩
    rw [parts]
    exact flagNumber_testBit _ k

end Sys2Proof.Machine
end

section
/-! PROOFS. The load record: TRACK_QUERY, TRACK_DECLARE, TRACK_CLEAR, and the checks of a cut (R55, R58 to R64). -/

namespace Sys2Proof.Machine

/-! ### O24: TRACK_QUERY (R62, Table 34) -/

theorem heightField_eq (h : Option Nat) : heightField h = leBytes 2 (h.getD 0xFFFF) := by cases h <;> rfl

theorem count32_small {v : Nat} (h : v < 2 ^ 32) : count32 v = leBytes 4 v := congrArg (leBytes 4) (if_pos h)

theorem count64_small {v : Nat} (h : v < 2 ^ 64) : count64 v = leBytes 8 v := congrArg (leBytes 8) (if_pos h)

/-- The open load of the record, zeros with none. -/
def Tracker.loadShown (g : Tracker) : OpenLoad := g.openLoad.getD ⟨0, 0, 0, 0, 0, 0, [], 0⟩

/-- The front of the record: its flags and the load (Table 34, offsets 0 to 10). -/
def Tracker.recordFront (g : Tracker) : List Byte :=
  [flagByte
      [g.openLoad.isSome, g.table.isSome, g.table.any fun t => t.scored, g.table.any fun t => t.height.isSome]] ++
    leBytes 2 g.loadShown.id ++ leBytes 4 g.loadShown.w ++ leBytes 4 g.loadShown.ls

/-- The table load of the record (Table 34, offsets 11 to 29). -/
def Tracker.recordTable (g : Tracker) : List Byte :=
  match g.table with
  | some t => t.rect.bytes ++ [byteOf t.q.val] ++ heightField t.height
  | none => Rect.zero.bytes ++ [0] ++ leBytes 2 0

/-- The accounts and counts of the record (Table 34, offsets 30 to 54). -/
def Tracker.recordCounts (g : Tracker) (shown : Nat) : List Byte :=
  count64 g.loadShown.waste ++ count64 g.loadShown.finishedArea ++ count32 g.loadShown.finishedCount ++
    leBytes 2 g.loadShown.overflow ++ [byteOf g.loadShown.warnings.length, byteOf g.aside.length, byteOf shown]

/-- The record in its parts. -/
theorem Tracker.record_eq (g : Tracker) (first : Nat) :
    g.record first =
      g.recordFront ++ (g.recordTable ++ (g.recordCounts ((g.aside.drop first).take 7).length ++
        (warnBytes g.loadShown.warnings ++ ((g.aside.drop first).take 7).flatMap Piece.bytes))) := by
  simp only [Tracker.record, Tracker.recordFront, Tracker.recordCounts, Tracker.loadShown, List.append_assoc]
  rfl

theorem Tracker.recordTable_length (g : Tracker) : g.recordTable.length = 19 := by
  unfold Tracker.recordTable
  cases g.table with
  | none => rfl
  | some t =>
    dsimp only
    rw [heightField_eq]
    rfl

theorem Tracker.record_table (g : Tracker) (first : Nat) : ((g.record first).drop 11).take 19 = g.recordTable := by
  rw [record_eq, List.drop_left' (show g.recordFront.length = 11 from rfl), List.take_left' g.recordTable_length]

/-- A field of the counts. -/
theorem Tracker.record_counts (g : Tracker) (first off n : Nat) (h : off + n ≤ 25) :
    fieldAt (g.record first) (30 + off) n =
      fieldAt (g.recordCounts ((g.aside.drop first).take 7).length) off n := by
  rw [record_eq, ← List.append_assoc, fieldAt_behind (by rw [List.length_append, recordTable_length]; rfl)]
  unfold fieldAt
  rw [List.drop_append_of_le_length (by change off ≤ 25; omega),
    List.take_append_of_le_length (by
      rw [List.length_drop]
      change n ≤ 25 - off
      omega)]

/-- What stands behind the counts. -/
theorem Tracker.record_lists (g : Tracker) (first : Nat) :
    (g.record first).drop 55 =
      warnBytes g.loadShown.warnings ++ ((g.aside.drop first).take 7).flatMap Piece.bytes := by
  rw [record_eq, ← List.append_assoc, ← List.append_assoc]
  refine List.drop_left' ?_
  rw [List.length_append, List.length_append, recordTable_length]
  rfl

theorem warnBytes_length (l : List WarnEntry) : (warnBytes l).length = 3 * l.length := by
  simp [warnBytes, List.length_flatMap, Nat.mul_comm]

/-- TRACK_QUERY on its byte. -/
theorem decideTrackQuery_eq (first : Byte) (s : State) :
    decideTrackQuery [first] s =
      if 12 < first.toNat then (s, [0x05]) else (s, 0x00 :: s.gt.record first.toNat) := by
  unfold decideTrackQuery
  rw [fieldAt_head]
  rfl

/-- Settles O24: the record part by part. -/
theorem trackQueryReportsTheTracker : Obligations.TrackQueryReportsTheTracker := by
  intro s m tag first empty c h
  have decides {t : State} {reply : List Byte} (e : decideTrackQuery [first] h = (t, reply)) : Decides c s t reply :=
    decides_owner (r := .trackQuery) rfl empty rfl e
  refine ⟨fun high => decides ((decideTrackQuery_eq first h).trans (if_pos high)), fun low => ?_⟩
  intro g
  have counts := g.record_counts first.toNat
  refine ⟨g.record first.toNat, decides ((decideTrackQuery_eq first h).trans (if_neg (Nat.not_lt.mpr low))),
    fieldAt_flag (by rw [Tracker.record_eq]; rfl) (by simp), fun o opened => ?_, fun none => ?_, fun t table => ?_,
    (counts 23 1 (by decide)).trans (fieldAt_byteOf rfl), ?_, ?_, fun noLoad noTable noPiece => ?_⟩
  · have shown : g.loadShown = o := by rw [Tracker.loadShown, opened]; rfl
    have front {off n : Nat} (v : List Byte) (e : (g.recordFront.drop off).take n = v) (fits : off + n ≤ 11) :
        ((g.record first.toNat).drop off).take n = v := by
      rw [Tracker.record_eq, List.drop_append_of_le_length (by change off ≤ 11; omega),
        List.take_append_of_le_length (by
          rw [List.length_drop]
          change n ≤ 11 - off
          omega), e]
    refine ⟨?_, ?_, ?_, fun fits => ?_, fun fits => ?_, fun fits => ?_, ?_, ?_, ?_⟩
    · exact fieldAt_leBytes (n := 2) (front _ (by rw [Tracker.recordFront, shown]; rfl) (by decide))
    · exact fieldAt_leBytes (n := 4) (front _ (by rw [Tracker.recordFront, shown]; rfl) (by decide))
    · exact fieldAt_leBytes (n := 4) (front _ (by rw [Tracker.recordFront, shown]; rfl) (by decide))
    · exact (counts 0 8 (by decide)).trans (fieldAt_leBytes_lt (n := 8)
        (by rw [Tracker.recordCounts, shown, count64_small fits]; rfl) fits)
    · exact (counts 8 8 (by decide)).trans (fieldAt_leBytes_lt (n := 8)
        (by rw [Tracker.recordCounts, shown, count64_small fits]; rfl) fits)
    · exact (counts 16 4 (by decide)).trans (fieldAt_leBytes_lt (n := 4)
        (by rw [Tracker.recordCounts, shown, count32_small fits]; rfl) fits)
    · exact (counts 20 2 (by decide)).trans (fieldAt_leBytes (n := 2)
        (by rw [Tracker.recordCounts, shown]; rfl))
    · exact (counts 22 1 (by decide)).trans (fieldAt_byteOf (by rw [Tracker.recordCounts, shown]; rfl))
    · rw [Tracker.record_lists, shown, List.take_left' (warnBytes_length _)]
      rfl
  · rw [Tracker.record_table, Tracker.recordTable, none]
    rfl
  · rw [Tracker.record_table, Tracker.recordTable, table]
    dsimp only
    rw [heightField_eq]
    simp only [Rect.bytes, List.append_assoc]
    rfl
  · have shown := counts 24 1 (by decide)
    refine shown.trans ((fieldAt_code (v := ((g.aside.drop first.toNat).take 7).length) rfl ?_).trans ?_)
    · simp only [List.length_take]
      omega
    · simp only [List.length_take, List.length_drop]
  · have entries : 3 * ((g.openLoad.map fun o => o.warnings.length).getD 0) =
        (warnBytes g.loadShown.warnings).length := by
      rw [warnBytes_length, Tracker.loadShown]
      cases g.openLoad <;> rfl
    rw [← List.drop_drop, Tracker.record_lists, entries, List.drop_left]
    refine congrArg (List.flatMap · _) (funext fun p => ?_)
    simp only [Piece.bytes, Rect.bytes, heightField_eq, List.append_assoc]
    rfl
  · rw [Tracker.record, noLoad, noTable, noPiece]
    simp only [List.drop_nil, List.take_nil]
    rfl

/-! ### Refusals in order (R8) -/

/-- The first refusal of a list, its first condition as a proposition. -/
theorem firstRefusal_step {c : Bool} {p : Prop} [Decidable p] (h : c = true ↔ p) (st : Status)
    (rest : List (Bool × Status)) :
    firstRefusal ((c, st) :: rest) = if p then some st else firstRefusal rest := if_congr h rfl rfl

theorem firstRefusal_nil : firstRefusal [] = none := rfl

theorem or_true_iff {a b : Bool} {p q : Prop} (ha : a = true ↔ p) (hb : b = true ↔ q) : (a || b) = true ↔ p ∨ q := by
  rw [Bool.or_eq_true, ha, hb]

theorem isSome_iff_ne {α : Type} (x : Option α) : x.isSome = true ↔ x ≠ none := Option.isSome_iff_ne_none

/-! ### O25: TRACK_DECLARE and TRACK_CLEAR (R63, R64) -/

/-- Length and depth of a whole sheet at an orientation. -/
theorem Rect.sheet_len_depth (w ls q : Nat) :
    (⟨0, 0, w, ls⟩ : Rect).len (Fin.ofNat 4 q) = (if q % 2 = 0 then w else ls) ∧
      (⟨0, 0, w, ls⟩ : Rect).depth (Fin.ofNat 4 q) = (if q % 2 = 0 then ls else w) := by
  have parity : (Fin.ofNat 4 q).val % 2 = q % 2 := by
    change q % 4 % 2 = q % 2
    omega
  unfold Rect.len Rect.depth
  rw [parity]
  exact ⟨rfl, rfl⟩

/-- A load opens: the counter's id, the sheet on the table, empty accounts; the counter advances from 65535 to 1. -/
theorem State.openWith_eq (s : State) (w ls : Nat) (q : Fin 4) (h : Option Nat) :
    s.openWith w ls q h =
      s.setGt
        { s.gt with
          table := some ⟨s.gt.nextId, ⟨0, 0, w, ls⟩, q, h, false⟩
          openLoad := some ⟨s.gt.nextId, w, ls, 0, 0, 0, [], 0⟩
          nextId := if s.gt.nextId < 65535 then s.gt.nextId + 1 else 1
          prepared := none } := by
  have next : (if 65535 ≤ s.gt.nextId then 1 else s.gt.nextId + 1) =
      if s.gt.nextId < 65535 then s.gt.nextId + 1 else 1 := by
    split <;> split <;> omega
  unfold State.openWith
  rw [next]

/-- TRACK_DECLARE on its fields. -/
theorem decideTrackDeclare_eq {body : List Byte} {w ls q h : Nat} (s : State) (ew : fieldAt body 0 4 = w)
    (els : fieldAt body 4 4 = ls) (eq : fieldAt body 8 1 = q) (eh : fieldAt body 9 2 = h) :
    decideTrackDeclare body s =
      if w = 0 ∨ ls = 0 ∨ 3 < q ∨ (1650 < h ∧ h ≠ 0xFFFF) ∨ 124000 < (if q % 2 = 0 then ls else w) ∨
          132000 < (if q % 2 = 0 then w else ls) then (s, [0x05])
      else if s.runOpen = true ∨ s.gt.openLoad ≠ none ∨ s.knifeLimit ≤ s.cs.counter then (s, [0x04])
      else if s.manualInFlight = true then (s, [0x02])
      else
        (s.openWith w ls (Fin.ofNat 4 q) (if h = 0xFFFF then none else some h), 0x00 :: leBytes 2 s.gt.nextId) := by
  subst ew els eq eh
  unfold decideTrackDeclare
  dsimp only
  rw [(Rect.sheet_len_depth _ _ _).1, (Rect.sheet_len_depth _ _ _).2, firstRefusal_step decide_eq_true_iff,
    Bool.or_assoc, firstRefusal_step (or_true_iff Iff.rfl (or_true_iff (isSome_iff_ne _) decide_eq_true_iff)),
    firstRefusal_step Iff.rfl, firstRefusal_nil]
  simp only [Config.hmax, Config.gmax, Config.lmax]
  generalize (if fieldAt body 9 2 = 0xFFFF then none else some (fieldAt body 9 2)) = h
  generalize (if fieldAt body 8 1 % 2 = 0 then fieldAt body 4 4 else fieldAt body 0 4) = depth
  generalize (if fieldAt body 8 1 % 2 = 0 then fieldAt body 0 4 else fieldAt body 4 4) = len
  split_ifs <;> rfl

/-- TRACK_CLEAR. -/
theorem decideTrackClear_eq (s : State) :
    decideTrackClear s =
      if s.pr.state ≠ .idle ∨ s.gt.openLoad = none then (s, [0x04])
      else if s.manualInFlight = true then (s, [0x02])
      else
        ((s.endLoad true s.gt.areaLeft).setGt { (s.endLoad true s.gt.areaLeft).gt with table := none, aside := [] },
          0x00 :: leBytes 2 s.loadId) := by
  unfold decideTrackClear
  rw [firstRefusal_step (or_true_iff decide_eq_true_iff Option.isNone_iff_eq_none), firstRefusal_step Iff.rfl,
    firstRefusal_nil]
  split_ifs <;> rfl

theorem Tracker.areaLeft_eq (g : Tracker) :
    g.areaLeft = ((g.table.map fun t => t.rect.sw * t.rect.sd).getD 0) +
      (g.aside.map fun p => p.rect.sw * p.rect.sd).sum := by
  unfold Tracker.areaLeft
  cases g.table <;> rfl

/-- Settles O25: the refusals in order, what opens, and what ends. -/
theorem trackDeclareAndTrackClearOpenAndEndALoad : Obligations.TrackDeclareAndTrackClearOpenAndEndALoad := by
  refine ⟨fun s m tag body h11 empty => ?_, fun s m tag empty => ?_⟩
  · intro c closed w ls q h len depth fields barred
    have decides {t : State} {reply : List Byte} (e : decideTrackDeclare body closed = (t, reply)) :
        Decides c s t reply := decides_owner (r := .trackDeclare) rfl empty h11 e
    have height : fieldAt body 9 2 = h := by
      unfold fieldAt
      rw [List.take_of_length_le (by rw [List.length_drop, h11])]
    have decided := decideTrackDeclare_eq (w := w) (ls := ls) (q := q) closed rfl rfl rfl height
    have checks : (w = 0 ∨ ls = 0 ∨ 3 < q ∨ (1650 < h ∧ h ≠ 0xFFFF) ∨ 124000 < depth ∨ 132000 < len) ↔ ¬fields := by
      change _ ↔ ¬(w ≠ 0 ∧ ls ≠ 0 ∧ q ≤ 3 ∧ (h ≤ 1650 ∨ h = 0xFFFF) ∧ depth ≤ 124000 ∧ len ≤ 132000)
      clear_value w ls q h len depth
      omega
    have passed (good : fields) := decided.trans (if_neg fun bad => checks.mp bad good)
    refine ⟨fun bad => decides (decided.trans (if_pos (checks.mpr bad))),
      fun good bar => decides ((passed good).trans (if_pos bar)),
      fun good free busy => decides ((passed good).trans ((if_neg free).trans (if_pos busy))),
      fun good free idle => decides ((passed good).trans ((if_neg free).trans
        ((if_neg (ne_true_of_eq_false idle)).trans ?_)))⟩
    rw [State.openWith_eq]
    rfl
  · intro c closed
    have decides {t : State} {reply : List Byte} (e : decideTrackClear closed = (t, reply)) :
        Decides c s t reply := decides_owner (r := .trackClear) rfl empty rfl e
    have decided := decideTrackClear_eq closed
    refine ⟨fun bar => decides (decided.trans (if_pos bar)), fun idle opened busy => decides (decided.trans
      ((if_neg (not_or.mpr ⟨not_not_intro idle, opened⟩)).trans (if_pos busy))), fun o idle opened free => ?_⟩
    intro left
    have isOpen : closed.gt.openLoad ≠ none := opened.trans_ne (Option.some_ne_none o)
    refine decides (decided.trans ((if_neg (not_or.mpr ⟨not_not_intro idle, isOpen⟩)).trans
        ((if_neg (ne_true_of_eq_false free)).trans ?_)))
    unfold State.endLoad State.loadId
    rw [show closed.gt.openLoad = some o from opened, Tracker.areaLeft_eq]
    rfl

/-! ### O29: the checks of a cut (R55, R58 to R61) -/

/-- Settles O29. -/
theorem checksOfACut : Obligations.ChecksOfACut := by
  refine ⟨fun s d g => ⟨fun none => ?_, fun t table => ?_⟩, fun s r => ⟨fun first abs => ?_,
      fun t first trim table => ?_,
    fun b later base => ?_⟩⟩
  · unfold State.checkCut
    rw [none]
  · intro full x
    have travel := outOfTravel_iff x.target
    unfold State.checkCut
    rw [table]
    dsimp only
    refine ⟨fun isFull => if_pos isFull, fun room strip => ?_, fun room low high out => ?_,
      fun room low high least greatest => ?_⟩
    · exact (if_neg room).trans (if_pos strip)
    · exact (if_neg room).trans ((if_neg (not_not_intro ⟨low, high⟩)).trans (if_pos (travel.mpr out)))
    · exact (if_neg room).trans ((if_neg (not_not_intro ⟨low, high⟩)).trans
        (if_neg fun out => (travel.mp out).elim (by omega) (by omega)))
  · unfold State.iterationBase State.baseOf
    rw [if_pos first, abs]
  · unfold State.iterationBase State.baseOf
    rw [if_pos first, trim, table]
  · unfold State.iterationBase
    rw [if_neg later, base]

end Sys2Proof.Machine
end

section
/-! PROOFS. The Runner's requests and fault reports: SELECT (R68), RUN (R69, R70), fault reports (R90) and CONFIRM
(R82). -/

namespace Sys2Proof.Machine

/-! ### O30: SELECT (R68) and the RUN_STATE notice (R67) -/

theorem not_programNumber_iff (n : Nat) : (!programNumber n) = true ↔ ¬(1 ≤ n ∧ n ≤ 99) := by
  rw [Bool.not_eq_true', ← Bool.not_eq_true, programNumber_iff]

/-- SELECT on its byte. -/
theorem decideSelect_eq (n : Byte) (s : State) :
    decideSelect [n] s =
      if ¬(1 ≤ n.toNat ∧ n.toNat ≤ 99) then (s, [0x05])
      else
        match s.program n.toNat with
        | none => (s, [0x06])
        | some p =>
          if p.complete = false then (s, [0x0A])
          else if s.runOpen = true then (s, [0x04])
          else
            (s.setPr
                { s.pr with
                  state := .ready, program := n.toNat, step := 0, iter := 0, phase := .none, noticeDue := true },
              0x00 :: leBytes 1 p.steps.length) := by
  unfold decideSelect
  rw [fieldAt_head]
  dsimp only
  rw [firstRefusal_step (not_programNumber_iff _)]
  cases s.program n.toNat with
  | none => split_ifs <;> rfl
  | some p =>
    dsimp only
    rw [firstRefusal_unmet (c := (some p).isNone) (by simp), firstRefusal_step (p := p.complete = false) (by simp),
        firstRefusal_step Iff.rfl, firstRefusal_nil]
    split_ifs <;> rfl

/-- The flags of the Runner are its line halt and a pending fault (Table 38). -/
theorem Runner.flags_eq (r : Runner) :
    [r.flags] = leBytes 1 ((if r.lineHalt then 1 else 0) + if r.fault.isSome then 2 else 0) := by
  unfold Runner.flags
  cases r.lineHalt <;> cases r.fault <;> rfl

/-- Settles O30: the refusals in order, and the notice field by field. -/
theorem selectMakesAProgramCurrent : Obligations.SelectMakesAProgramCurrent := by
  refine ⟨fun s m tag n empty => ?_, fun s => ⟨State.flush_quiet, fun due => ?_⟩⟩
  · intro c closed
    have decided := decideSelect_eq n closed
    have decides {t : State} {body : List Byte} (e : decideSelect [n] closed = (t, body)) : Decides c s t body :=
      decides_owner (r := .select) rfl empty rfl e
    refine ⟨fun bad => decides (decided.trans (if_pos bad)), fun low high => ?_⟩
    replace decided := decided.trans (if_neg (not_not_intro ⟨low, high⟩))
    refine ⟨fun none => decides (by rw [decided, show closed.program n.toNat = _ from none]), fun p stored => ?_⟩
    rw [show closed.program n.toNat = _ from stored] at decided
    refine ⟨fun partly => decides (decided.trans (if_pos partly)),
      fun whole opened => decides (decided.trans ((if_neg (ne_false_of_eq_true whole)).trans (if_pos opened))),
      fun whole free => decides (decided.trans ((if_neg (ne_false_of_eq_true whole)).trans
        (if_neg (ne_true_of_eq_false free))))⟩
  · unfold State.flush Runner.stateBody
    rw [if_pos due, Runner.flags_eq]
    rfl

/-! ### O31: RUN (R69, R70) -/

/-- The turner is engaged otherwise than INTERRUPTED in a turn of this run. -/
theorem State.turnerEngaged_iff (s : State) :
    s.turnerEngaged = true ↔
      s.pt.state ≠ .parked ∧
        ¬(s.pt.state = .interrupted ∧ s.runOpen = true ∧ ∃ r, s.pt.record = some r ∧ r.issuer = .runner) := by
  unfold State.turnerEngaged
  cases s.pt.state
  case interrupted =>
    dsimp only
    rw [Bool.not_eq_true', ← Bool.not_eq_true, Bool.and_eq_true, Option.any_eq_true]
    simp
  all_goals simp

theorem byte_eq_iff {b : Byte} {n : Nat} (h : n < 256) : b = BitVec.ofNat 8 n ↔ b.toNat = n := by
  rw [← BitVec.toNat_inj, BitVec.toNat_ofNat, Nat.mod_eq_of_lt h]

/-- RUN on its bytes. -/
theorem decideRun_eq (mode lo hi : Byte) (s : State) :
    decideRun [mode, lo, hi] s =
      if 1 < mode.toNat ∨ (mode.toNat = 1 ∧ leNat [lo, hi] ≠ 0) then (s, [0x05])
      else if (s.pr.state ≠ .ready ∧ s.pr.state ≠ .held) ∨ s.pr.lineHalt = true ∨ s.pr.abortPending = true then
        (s, [0x04])
      else if s.cs.state ≠ .ready ∨ s.gaugeBusy = true ∨ s.bg.slot ≠ none ∨ s.turnerEngaged = true ∨
          s.manualInFlight = true then (s, [0x02])
      else if s.sm.estopLatch = true ∨ s.guardOpen = true then (s, [0x0C])
      else
        ((s.setPr
            { s.pr with
              state := .running
              mode := if mode.toNat = 1 then .single else .continuous
              limit := leNat [lo, hi]
              done := 0
              hold := .none
              holdReq := false
              singleStep := false
              noticeDue := true }).resume, [0x00]) := by
  have limit : fieldAt [mode, lo, hi] 1 2 = leNat [lo, hi] := rfl
  unfold decideRun
  rw [fieldAt_head, limit]
  simp only [Bool.or_assoc]
  rw [firstRefusal_step decide_eq_true_iff,
    firstRefusal_step (or_true_iff decide_eq_true_iff (or_true_iff Iff.rfl Iff.rfl)),
    firstRefusal_step (or_true_iff decide_eq_true_iff (or_true_iff Iff.rfl (or_true_iff (isSome_iff_ne _)
      (or_true_iff Iff.rfl Iff.rfl)))),
    firstRefusal_step (or_true_iff Iff.rfl Iff.rfl), firstRefusal_nil]
  generalize (if mode.toNat = 1 then RunMode.single else .continuous) = x
  split_ifs <;> rfl

/-- Settles O31: the refusals in order, and the resumption by phase. -/
theorem runOpensOrResumes : Obligations.RunOpensOrResumes := by
  intro s m tag mode lo hi empty c closed limit fields barred engaged busy danger
  have decided := decideRun_eq mode lo hi closed
  have single : (mode = 1) ↔ mode.toNat = 1 := byte_eq_iff (by decide)
  have eFields : ¬fields ↔ 1 < mode.toNat ∨ (mode.toNat = 1 ∧ leNat [lo, hi] ≠ 0) := by
    change ¬(mode.toNat ≤ 1 ∧ (mode = 1 → leNat [lo, hi] = 0)) ↔ _
    rw [single]
    omega
  have eBusy : busy ↔ s.cs.state ≠ .ready ∨ s.gaugeBusy = true ∨ s.bg.slot ≠ none ∨ s.turnerEngaged = true ∨
      s.manualInFlight = true := by rw [State.turnerEngaged_iff]
  have decides {t : State} {body : List Byte} (e : decideRun [mode, lo, hi] closed = (t, body)) :
      Decides c s t body := decides_owner (r := .run) rfl empty rfl e
  have passed (ok : fields) := decided.trans (if_neg fun bad => eFields.mpr bad ok)
  have allowed (ok : fields) (free : ¬barred) := (passed ok).trans (if_neg free)
  have clear (ok : fields) (free : ¬barred) (idle : ¬busy) :=
      (allowed ok free).trans (if_neg fun e => idle (eBusy.mpr e))
  refine ⟨fun bad => decides (decided.trans (if_pos (eFields.mp bad))),
    fun ok bar => decides ((passed ok).trans (if_pos bar)),
    fun ok free at_work => decides ((allowed ok free).trans (if_pos (eBusy.mp at_work))),
    fun ok free idle unsafe_ => decides ((clear ok free idle).trans (if_pos unsafe_)), fun ok free idle safe => ?_⟩
  intro t
  have taken := (clear ok free idle).trans (if_neg safe)
  simp only [← single] at taken
  have resumes {u : State} (e : t.resume = u) : Decides c s u [0x00] := decides (taken.trans (congrArg (·, _) e))
  have phase : t.pr.phase = s.pr.phase := rfl
  refine ⟨fun none => resumes ?_, fun r two step => resumes ?_, fun three => resumes ?_, fun retract => resumes ?_,
    fun contact => resumes ?_, fun turning => resumes ?_⟩ <;> unfold State.resume <;> rw [phase]
  · rw [none]
  · have current : t.currentStep = some r := step
    rcases two with e | e <;> rw [e] <;> dsimp only <;> rw [current]
  · rcases three with e | e | e <;> rw [e]
  · rw [retract]
  · rw [contact]
  · rw [turning]

/-! ### O38: fault reports (R90) -/

theorem FaultKind.isInfeed_not (k : FaultKind) : (!k.isInfeed) = decide (k ≠ .liftTimeout ∧ k ≠ .jogFailed) := by
  cases k <;> rfl

theorem State.faultRecord_eq (s : State) (k : FaultKind) (d : Int) :
    s.faultRecord k d =
      if s.runOpen then ⟨k, s.pr.program, s.pr.step, s.pr.iter, s.loadId, d⟩ else ⟨k, 0, 0, 0, s.loadId, d⟩ := by
  unfold State.faultRecord
  cases s.runOpen <;> rfl

/-- Settles O38: the report's two fields, and the codes. -/
theorem faultsAreReportedToTheRunner : Obligations.FaultsAreReportedToTheRunner := by
  refine ⟨fun s k d => ?_, rfl⟩
  intro t stops now entered
  have estops : s.faultStops k = stops := by
    unfold State.faultStops
    rw [FaultKind.isInfeed_not]
  have enow : s.faultRecord k d = now := s.faultRecord_eq k d
  refine ⟨?_, ?_, rfl⟩
  · change s.faultedRunner k d = _
    unfold State.faultedRunner
    rw [estops, enow]
  · have fields : now.kind = k ∧ now.loadId = s.loadId ∧ now.detail = d := by
      rw [← enow]
      exact ⟨rfl, rfl, rfl⟩
    obtain ⟨kind, load, detail⟩ := fields
    change s.li.raise .fault ((s.faultRecord k d).bytes ++ _) = _
    unfold FaultRec.bytes
    rw [estops, enow, kind, load, detail]
    rfl

/-! ### O40: CONFIRM (R82) -/

/-- The step at the position is read from the position and the stored programs. -/
theorem State.currentStep_of_same {x s : State} (pr : x.pr = s.pr) (programs : x.ps.programs = s.ps.programs) :
    x.currentStep = s.currentStep := by
  unfold State.currentStep State.currentProgram State.program
  rw [pr, programs]

/-- CONFIRM in a PLACE_WAIT. -/
theorem State.confirmed_place {s : State} (running : s.pr.state = .running) (phase : s.pr.phase = .placeWait) :
    s.confirmed = some s.placed := by
  unfold State.confirmed
  rw [running, phase]

/-- CONFIRM in a REMOVE_WAIT. -/
theorem State.confirmed_remove {s : State} (running : s.pr.state = .running) (phase : s.pr.phase = .removeWait) :
    s.confirmed = some s.removed := by
  unfold State.confirmed
  rw [running, phase]

/-- CONFIRM in a PROGRAM_PAUSE hold. -/
theorem State.confirmed_pause {s : State} (held : s.pr.state = .held) (hold : s.pr.hold = .programPause) :
    s.confirmed = some s.pauseConfirmed := by
  unfold State.confirmed
  rw [held, hold]

/-- CONFIRM anywhere else. -/
theorem State.confirmed_none {s : State} (place : ¬(s.pr.state = .running ∧ s.pr.phase = .placeWait))
    (remove : ¬(s.pr.state = .running ∧ s.pr.phase = .removeWait))
    (pause : ¬(s.pr.state = .held ∧ s.pr.hold = .programPause)) : s.confirmed = none := by
  unfold State.confirmed
  split
  · exact absurd ⟨‹_›, ‹_›⟩ place
  · exact absurd ⟨‹_›, ‹_›⟩ remove
  · exact absurd ⟨‹_›, ‹_›⟩ pause
  · rfl

/-- Settles O40: the request and the button do the same in each place. -/
theorem confirmActsInItsThreePlaces : Obligations.ConfirmActsInItsThreePlaces := by
  intro s m tag request button closed acts place remove pause
  have request_of {t : State} {body : List Byte} (empty : s.li.queue = []) (e : decideConfirm closed = (t, body)) :
      Decides request s t body := decides_owner (r := .confirm) rfl empty rfl e
  have acts_of {g : State → State} (h : ∀ x : State, x.pr = s.pr → x.gt = s.gt → x.jg = s.jg →
      x.ps.programs = s.ps.programs → x.confirmed = some (g x)) : acts g := by
    refine ⟨fun empty => request_of empty ?_, becomes_of rfl ?_⟩
    · unfold decideConfirm
      rw [h closed rfl rfl rfl rfl]
      rfl
    · rw [h (s.sample m) rfl rfl rfl rfl]
      rfl
  clear_value acts
  refine ⟨fun r w ls here step kind prepared => acts_of fun x pr gt jg programs => ?_,
    fun r p rest here step kind top => acts_of fun x pr gt jg programs => ?_,
    fun r here step => acts_of fun x pr gt jg programs => ?_, fun here => acts_of fun x pr gt jg programs => ?_,
    fun noPlace noRemove noPause => ⟨fun empty => request_of empty ?_, becomes_of rfl ?_⟩⟩
  · rw [State.confirmed_place (by rw [pr]; exact here.1) (by rw [pr]; exact here.2), State.placed, State.stepKind,
      State.currentStep_of_same pr programs, step, gt, prepared]
    dsimp only [Option.map_some]
    rw [kind]
    dsimp only
    rw [State.openWith_eq, State.slotEmptied, State.jg_setGt, gt, jg]
    cases s.jg.height <;> rfl
  · rw [State.confirmed_place (by rw [pr]; exact here.1) (by rw [pr]; exact here.2), State.placed, State.stepKind,
      State.currentStep_of_same pr programs, step]
    dsimp only [Option.map_some]
    rw [kind, State.recallTop, gt, top]
  · rw [State.confirmed_remove (by rw [pr]; exact here.1) (by rw [pr]; exact here.2), State.removed,
      State.currentStep_of_same pr programs, step]
    rfl
  · rw [State.confirmed_pause (by rw [pr]; exact here.1) (by rw [pr]; exact here.2), State.pauseConfirmed, pr]
  · unfold decideConfirm
    rw [State.confirmed_none (s := closed) noPlace noRemove noPause]
    rfl
  · rw [State.confirmed_none (s := s.sample m) noPlace noRemove noPause]
    rfl

end Sys2Proof.Machine
end

section
/-! PROOFS. LOCATE by index and by label (R88, R89). -/

namespace Sys2Proof.Machine

/-! ### What bars LOCATE (R88) -/

theorem State.turnUnfinished_iff (s : State) :
    s.turnUnfinished = true ↔ s.pt.state ≠ .parked ∧ s.pt.state ≠ .fault := by
  unfold State.turnUnfinished State.turnerMoving
  cases s.pt.state <;> simp

theorem State.cutPastHoldPoint_iff (s : State) :
    s.cutPastHoldPoint = true ↔
      s.cs.state = .clamping ∨ s.cs.state = .cutting ∨ s.cs.state = .returning ∨ s.cs.state = .abortReturn := by
  unfold State.cutPastHoldPoint
  cases s.cs.state <;> simp

theorem State.locateBarred_iff (s : State) :
    s.locateBarred = true ↔
      (s.pr.state ≠ .ready ∧ s.pr.state ≠ .held) ∨ (s.pt.state ≠ .parked ∧ s.pt.state ≠ .fault) ∨
        s.runnerMoveInFlight = true ∨
        (s.cs.state = .clamping ∨ s.cs.state = .cutting ∨ s.cs.state = .returning ∨ s.cs.state = .abortReturn ∨
          s.cs.pendingDone ≠ none) := by
  unfold State.locateBarred
  simp only [Bool.or_assoc]
  refine or_true_iff decide_eq_true_iff (or_true_iff s.turnUnfinished_iff (or_true_iff Iff.rfl ?_))
  rw [Bool.or_eq_true, State.cutPastHoldPoint_iff, isSome_iff_ne, or_assoc, or_assoc, or_assoc]

/-! ### By index -/

/-- LOCATE by index on its bytes, of a stored program. -/
theorem locateByIndex_eq {n : Nat} {p : Program} {s : State} (stored : s.program n = some p) (i follow : Nat) :
    locateByIndex n i follow s =
      if 1 < follow ∨ ¬(1 ≤ n ∧ n ≤ 99) then (s, [0x05])
      else if p.steps.length ≤ i then (s, [0x06])
      else if p.complete = false then (s, [0x0A])
      else if s.locateBarred = true then (s, [0x04])
      else (s.locateAt n i, 0x00 :: (leBytes 1 n ++ leBytes 1 i)) := by
  unfold locateByIndex
  rw [stored]
  dsimp only [Option.map_some, Option.any_some, Option.getD_some]
  rw [firstRefusal_step (or_true_iff decide_eq_true_iff (not_programNumber_iff n)),
    firstRefusal_step decide_eq_true_iff, firstRefusal_step (p := p.complete = false) (by simp),
    firstRefusal_step Iff.rfl, firstRefusal_nil]
  split_ifs <;> rfl

/-- LOCATE by index of a number without a program. -/
theorem locateByIndex_none {n : Nat} {s : State} (absent : s.program n = none) (i follow : Nat) :
    locateByIndex n i follow s = if 1 < follow ∨ ¬(1 ≤ n ∧ n ≤ 99) then (s, [0x05]) else (s, [0x06]) := by
  unfold locateByIndex
  rw [absent]
  dsimp only [Option.map_none, Option.getD_none]
  rw [firstRefusal_step (or_true_iff decide_eq_true_iff (not_programNumber_iff n)),
    firstRefusal_met (decide_eq_true (Nat.zero_le i))]
  split_ifs <;> rfl

/-! ### By label: the search (R89) -/

/-- The first step from an index that carries the label is found. -/
theorem findLabel_some {label a i : Nat} {l : List StepRec} {r : StepRec} (at_ : l[i]? = some r)
    (match_ : r.label = label) (from_ : a ≤ i)
    (first : ∀ (j : Nat) (x : StepRec), a ≤ j → j < i → l[j]? = some x → x.label ≠ label) :
    findLabel label a l = some i := by
  have found : (l.drop a).findIdx? (fun r => decide (r.label = label)) = some (i - a) := by
    obtain ⟨short, get⟩ := List.getElem?_eq_some_iff.mp at_
    rw [List.findIdx?_eq_some_iff_getElem]
    refine ⟨by rw [List.length_drop]; omega, ?_, fun j less => ?_⟩
    · simp only [List.getElem_drop, Nat.add_sub_cancel' from_, get]
      exact decide_eq_true match_
    · have shorter : a + j < l.length := by omega
      simp only [List.getElem_drop]
      exact (by simpa using first (a + j) l[a + j] (by omega) (by omega) (List.getElem?_eq_getElem shorter))
  unfold findLabel
  rw [found, Option.map_some, Nat.sub_add_cancel from_]

theorem findLabel_none {label a : Nat} {l : List StepRec} (no : ∀ r ∈ l.drop a, r.label ≠ label) :
    findLabel label a l = none := by
  have absent : (l.drop a).findIdx? (fun r => decide (r.label = label)) = none :=
    List.findIdx?_eq_none_iff.mpr fun r mem => decide_eq_false (no r mem)
  unfold findLabel
  rw [absent]
  rfl

/-- The search of a program that has the label ends there. -/
theorem searchLabel_found {s : State} {label n a i fuel : Nat} {p : Program} {follow : Bool}
    (stored : s.program n = some p) (found : findLabel label a p.steps = some i) :
    searchLabel s label follow (fuel + 1) n a = some (n, i) := by
  rw [searchLabel, stored]
  dsimp only
  rw [found]

/-- The search goes on to the linked complete program. -/
theorem searchLabel_linked {s : State} {label n a l fuel : Nat} {p q : Program} (stored : s.program n = some p)
    (absent : findLabel label a p.steps = none) (link : p.header.link = some l) (next : s.program l = some q)
    (whole : q.complete = true) :
    searchLabel s label true (fuel + 1) n a = searchLabel s label true fuel l 0 := by
  rw [searchLabel, stored]
  dsimp only
  rw [absent, link]
  dsimp only
  rw [next, Option.any_some, whole]
  rfl

/-- The search ends without a match where it may not go on. -/
theorem searchLabel_ends {s : State} {label n a fuel : Nat} {p : Program} {follow : Bool}
    (stored : s.program n = some p) (absent : findLabel label a p.steps = none)
    (ends : follow = false ∨ fuel = 0 ∨ p.header.link = none ∨
      ∃ l, p.header.link = some l ∧ ∀ q, s.program l = some q → q.complete = false) :
    searchLabel s label follow (fuel + 1) n a = none := by
  rw [searchLabel, stored]
  dsimp only
  rw [absent]
  dsimp only
  split
  · rename_i l link
    split
    · rename_i whole
      obtain ⟨q, next, complete⟩ := Option.any_eq_true _ _ |>.mp whole
      rcases ends with e | e | e | ⟨k, e, partly⟩
      · cases e
      · rw [e, searchLabel]
      · rw [e] at link
        cases link
      · rw [e] at link
        cases link
        rw [partly q next] at complete
        cases complete
    · rfl
  · rfl

/-- Through a chain of linked complete programs without a match, the search comes to the last. -/
theorem searchLabel_chain {s : State} {label n fuel : Nat} {p : Program} {follow : Bool}
    (earlier : List (Nat × Program)) (a : Nat) (m : Nat)
    (follows : earlier ≠ [] → follow = true)
    (head : ((earlier ++ [(n, p)]).head?.map Prod.fst) = some m)
    (stored : ∀ e ∈ earlier ++ [(n, p)], s.program e.1 = some e.2)
    (whole : ∀ e ∈ (earlier ++ [(n, p)]).tail, e.2.complete = true)
    (linked : ∀ (k : Nat) (x y : Nat × Program), (earlier ++ [(n, p)])[k]? = some x →
      (earlier ++ [(n, p)])[k + 1]? = some y → x.2.header.link = some y.1)
    (absent : ∀ (k : Nat) (x : Nat × Program), earlier[k]? = some x →
      ∀ r ∈ x.2.steps.drop (if k = 0 then a else 0), r.label ≠ label) :
    searchLabel s label follow (fuel + earlier.length) m a =
      searchLabel s label follow fuel n (if earlier.length = 0 then a else 0) := by
  induction earlier generalizing a m with
  | nil =>
    cases head
    rfl
  | cons x rest ih =>
    cases head
    cases follows (List.cons_ne_nil x rest)
    obtain ⟨y, next⟩ : ∃ y, (rest ++ [(n, p)]).head? = some y := by
      cases rest with
      | nil => exact ⟨_, rfl⟩
      | cons y _ => exact ⟨y, rfl⟩
    have mem : y ∈ rest ++ [(n, p)] := List.mem_of_head? next
    have link : x.2.header.link = some y.1 := linked 0 x y rfl (List.head?_eq_getElem?.symm.trans next)
    have step := searchLabel_linked (fuel := fuel + rest.length) (stored x List.mem_cons_self)
      (findLabel_none (absent 0 x rfl)) link (stored y (List.mem_cons_of_mem _ mem)) (whole y mem)
    refine step.trans ((ih 0 y.1 (fun _ => rfl) (by rw [next]; rfl)
      (fun e he => stored e (List.mem_cons_of_mem _ he)) (fun e he => whole e (List.mem_of_mem_tail he))
      (fun k u v hu hv => linked (k + 1) u v hu hv) fun k u hu => ?_).trans ?_)
    · rw [ite_self]
      exact absent (k + 1) u hu
    · rw [ite_self]
      rfl

/-! ### By label: the request (R88) -/

/-- LOCATE by label. -/
theorem locateLabel_eq (label follow : Nat) (s : State) :
    locateLabel label follow s =
      if ¬((1 ≤ label ∧ label ≤ 9999) ∧ follow ≤ 1) then (s, [0x05])
      else if s.pr.state = .idle then (s, [0x04])
      else
        match searchLabel s label (decide (follow = 1)) 8 s.pr.program (s.pr.step + 1) with
        | none => (s, [0x06])
        | some (n, i) =>
          if s.locateBarred = true then (s, [0x04])
          else (s.locateAt n i, 0x00 :: (leBytes 1 n ++ leBytes 1 i)) := by
  have fields : (¬(1 ≤ label ∧ label ≤ 9999) ∨ 1 < follow) ↔ ¬((1 ≤ label ∧ label ≤ 9999) ∧ follow ≤ 1) := by omega
  unfold locateLabel
  rw [if_congr fields rfl rfl]
  rfl

/-- Settles O37: by index, by another mode, and by label. -/
theorem locateMovesThePosition : Obligations.LocateMovesThePosition := by
  unfold Obligations.LocateMovesThePosition
  intro moved barred
  refine ⟨fun s m tag n i lo hi follow empty => ?_, fun s m tag mode rest empty five high => ?_,
    fun s m tag a b label follow empty => ?_⟩
  · intro c closed fields
    have bars : closed.locateBarred = true ↔ barred s := closed.locateBarred_iff
    have decides {t : State} {reply : List Byte}
        (e : locateByIndex n.toNat i.toNat follow.toNat closed = (t, reply)) : Decides c s t reply := by
      refine decides_owner (r := .locate) rfl empty rfl (Eq.trans ?_ e)
      change decideLocate [0, n, i, lo, hi, follow] closed = _
      unfold decideLocate
      rw [fieldAt_head, fieldAt_byte (b := n) rfl, fieldAt_byte (b := i) rfl, fieldAt_byte (b := follow) rfl]
      rfl
    have wrong : ¬fields ↔ 1 < follow.toNat ∨ ¬(1 ≤ n.toNat ∧ n.toNat ≤ 99) := by
      change ¬(follow.toNat ≤ 1 ∧ 1 ≤ n.toNat ∧ n.toNat ≤ 99) ↔ _
      omega
    refine ⟨fun bad => ?_, fun good => ⟨fun absent => ?_, fun p stored => ?_⟩⟩
    · cases stored : closed.program n.toNat with
      | none => exact decides ((locateByIndex_none stored _ _).trans (if_pos (wrong.mp bad)))
      | some p => exact decides ((locateByIndex_eq stored _ _).trans (if_pos (wrong.mp bad)))
    · exact decides ((locateByIndex_none (s := closed) absent _ _).trans (if_neg fun bad => wrong.mpr bad good))
    · have decided := (locateByIndex_eq (s := closed) stored i.toNat follow.toNat).trans
        (if_neg fun bad => wrong.mpr bad good)
      have within (short : i.toNat < p.steps.length) := decided.trans (if_neg (Nat.not_le.mpr short))
      have complete (short : i.toNat < p.steps.length) (whole : p.complete = true) :=
        (within short).trans (if_neg (ne_false_of_eq_true whole))
      refine ⟨fun past => decides (decided.trans (if_pos past)),
        fun short partly => decides ((within short).trans (if_pos partly)),
        fun short whole bar => decides ((complete short whole).trans (if_pos (bars.mpr bar))),
        fun short whole free => ?_⟩
      have reply : [0x00, n, i] = 0x00 :: (leBytes 1 n.toNat ++ leBytes 1 i.toNat) := by
        rw [leBytes_byte, leBytes_byte]
        rfl
      rw [reply]
      exact decides ((complete short whole).trans (if_neg fun e => free (bars.mp e)))
  · refine decides_owner (r := .locate) rfl empty (by rw [List.length_cons, five]; rfl) ?_
    change decideLocate (mode :: rest) _ = _
    unfold decideLocate
    rw [fieldAt_head]
    split
    · omega
    · omega
    · rfl
  · intro c closed fields first
    have bars : closed.locateBarred = true ↔ barred s := closed.locateBarred_iff
    have decides {t : State} {reply : List Byte}
        (e : locateLabel label.toNat follow.toNat closed = (t, reply)) : Decides c s t reply := by
      refine decides_owner (r := .locate) rfl empty rfl (Eq.trans ?_ e)
      change decideLocate ([1, a, b] ++ leBytes 2 label.toNat ++ [follow]) closed = _
      unfold decideLocate
      rw [fieldAt_code (v := 1) rfl (by decide), fieldAt_leBytes_lt (off := 3) (n := 2) rfl label.isLt,
        fieldAt_byte (off := 5) (b := follow) rfl]
      rfl
    have decided := locateLabel_eq label.toNat follow.toNat closed
    refine ⟨fun bad => decides (decided.trans (if_pos bad)),
      fun good idle => decides (decided.trans ((if_neg (not_not_intro good)).trans (if_pos idle))),
      fun good opened earlier n p => ?_⟩
    intro chain short alone head stored whole linked absent
    replace decided := decided.trans ((if_neg (not_not_intro good)).trans (if_neg opened))
    have length : chain.length = earlier.length + 1 := List.length_append
    obtain ⟨fuel, eight⟩ : ∃ fuel, 8 = fuel + 1 + earlier.length := ⟨7 - earlier.length, by omega⟩
    have follows (many : earlier ≠ []) : decide (follow.toNat = 1) = true := by
      have nonzero : follow.toNat ≠ 0 := fun zero => many (alone ((byte_eq_iff (n := 0) (by decide)).mpr zero))
      exact decide_eq_true (by omega)
    have searched := searchLabel_chain (s := closed) (label := label.toNat) (fuel := fuel + 1) earlier
      (s.pr.step + 1) s.pr.program follows head stored whole linked absent
    rw [← eight] at searched
    have last : closed.program n = some p := stored (n, p) (List.mem_append_right _ List.mem_cons_self)
    refine ⟨fun i r at_ matches_ from_ firstMatch => ?_, fun no ends => ?_⟩
    · rw [show closed.pr = s.pr from rfl, searched,
        searchLabel_found last (findLabel_some at_ matches_ from_ firstMatch)] at decided
      exact ⟨fun bar => decides (decided.trans (if_pos (bars.mpr bar))),
        fun free => decides (decided.trans (if_neg fun e => free (bars.mp e)))⟩
    · rw [show closed.pr = s.pr from rfl, searched, searchLabel_ends last (findLabel_none no) ?_] at decided
      · exact decides decided
      · rcases ends with zero | full | rest
        · exact .inl (by rw [zero]; rfl)
        · exact .inr (.inl (by omega))
        · exact .inr (.inr rest)

end Sys2Proof.Machine
end

section
/-! PROOFS. The back gauge: GAUGE_MOVE and its slot (R105 to R107), referencing (R98, R99), segments and dwells (R97,
R102, R104), faults and stops (R108 to R110). -/

namespace Sys2Proof.Machine

theorem and_true_iff {a b : Bool} {p q : Prop} (ha : a = true ↔ p) (hb : b = true ↔ q) : (a && b) = true ↔ p ∧ q := by
  rw [Bool.and_eq_true, ha, hb]

theorem not_true_iff {a : Bool} : (!a) = true ↔ a = false := by cases a <;> decide

/-! ### O42: GAUGE_MOVE and the stored move (R105 to R107) -/

/-- GAUGE_MOVE on its fields. -/
theorem decideGaugeMove_eq {body : List Byte} {t : Int} {q : Nat} (s : State) (et : signedAt body 0 4 = t)
    (eq : fieldAt body 4 1 = q) :
    decideGaugeMove body s = (
      if (t < 1800 ∨ 124000 < t) ∨ 1 < q then (s, [0x05])
      else if s.runOpen = true then (s, [0x03])
      else if s.manualInFlight = true ∨ (s.gaugeBusy = true ∧ (q = 0 ∨ s.bg.slot ≠ none)) ∨ s.turnerMoving = true then
        (s, [0x02])
      else if s.bg.referenced = false ∧ s.gaugeBusy = false then (s, [0x0B])
      else if s.sm.estopLatch = true ∨ (s.guardOpen = true ∧ s.gaugeBusy = false) then (s, [0x0C])
      else if s.gaugeBusy = true then (s.setBg { s.bg with slot := some t }, [0x00, 0x01])
      else
        match s.approach .gaugeMove false .approach t with
        | .moving s1 => (s1, [0x00, 0x00])
        | .completed s1 backward => (s1.gaugeDone false .completed backward false t, [0x00, 0x00]) :
          State × List Byte) := by
  subst et eq
  unfold decideGaugeMove
  dsimp only
  rw [firstRefusal_step (or_true_iff (outOfTravel_iff _) decide_eq_true_iff), firstRefusal_step Iff.rfl, Bool.or_assoc,
    firstRefusal_step (or_true_iff Iff.rfl (or_true_iff (and_true_iff Iff.rfl
      (or_true_iff decide_eq_true_iff (isSome_iff_ne _))) Iff.rfl)),
    firstRefusal_step (and_true_iff not_true_iff not_true_iff),
    firstRefusal_step (or_true_iff Iff.rfl (and_true_iff Iff.rfl not_true_iff)), firstRefusal_nil]
  cases s.approach .gaugeMove false .approach (signedAt body 0 4) <;> split_ifs <;> rfl

/-- GAUGE_DONE with its first three bytes (Table 45). -/
theorem State.gaugeDone_bytes (s : State) {reference backward fromSlot : Bool} {o : GaugeOutcome} {goal : Int}
    {kind outcome status : Byte} (hk : boolByte reference = kind) (ho : byteOf o.code = outcome)
    (hs : o.status = status) :
    s.gaugeDone reference o backward fromSlot goal =
      s.raise .gaugeDone
        ([kind, outcome, status, flagByte [backward, fromSlot, s.bg.inPos, s.bg.referenced]] ++ leInt 4 goal ++
          leInt 4 s.bg.actual) := by
  subst hk ho hs
  rfl

/-- The refusals of a stored move in order (R106). -/
theorem State.slotRefusal_eq (s : State) :
    s.slotRefusal =
      if s.runOpen = true then some .owned
      else if s.manualInFlight = true ∨ s.turnerMoving = true then some .busy
      else if s.bg.referenced = false then some .notReferenced
      else if s.sm.estopLatch = true ∨ s.guardOpen = true then some .safetyBlocked
      else none := by
  unfold State.slotRefusal
  rw [firstRefusal_step Iff.rfl, firstRefusal_step (or_true_iff Iff.rfl Iff.rfl), firstRefusal_step not_true_iff,
    firstRefusal_step (or_true_iff Iff.rfl Iff.rfl), firstRefusal_nil]

theorem State.slotNext_empty {s : State} (empty : s.bg.slot = none) : s.slotNext = s := by
  unfold State.slotNext
  rw [empty]

theorem State.slotCancel_empty {s : State} (empty : s.bg.slot = none) : s.slotCancel = s := by
  unfold State.slotCancel
  rw [empty]

theorem State.slotCancel_some {s : State} {t : Int} (stored : s.bg.slot = some t) :
    s.slotCancel = (s.setBg { s.bg with slot := none }).gaugeDone false .cancelled false true t := by
  unfold State.slotCancel
  rw [stored]

/-- The stored move is refused. -/
theorem State.slotNext_refused {s : State} {t : Int} {why : Status} (stored : s.bg.slot = some t)
    (refused : (s.setBg { s.bg with slot := none }).slotRefusal = some why) :
    s.slotNext = (s.setBg { s.bg with slot := none }).gaugeDone false (.refused why) false true t := by
  unfold State.slotNext
  rw [stored]
  dsimp only
  rw [refused]

/-- The stored move starts. -/
theorem State.slotNext_starts {s : State} {t : Int} (stored : s.bg.slot = some t)
    (free : (s.setBg { s.bg with slot := none }).slotRefusal = none) :
    (∀ x, (s.setBg { s.bg with slot := none }).approach .gaugeMove true .approach t = .moving x → s.slotNext = x) ∧
      ∀ x backward, (s.setBg { s.bg with slot := none }).approach .gaugeMove true .approach t = .completed x backward →
        s.slotNext = x.gaugeDone false .completed backward true t := by
  unfold State.slotNext
  rw [stored]
  dsimp only
  rw [free]
  constructor
  · intro x started
    rw [started]
  · intro x backward started
    rw [started]

/-- Settles O42: the request's refusals in order, the start or the storing, and the stored move. -/
theorem gaugeMoveIsHandedStoredOrRefused : Obligations.GaugeMoveIsHandedStoredOrRefused := by
  refine ⟨fun s m tag q d four empty => ?_, fun s => ⟨State.slotNext_empty, fun t stored => ?_⟩⟩
  · intro c closed t fields busy loose danger
    have decides {u : State} {reply : List Byte} (e : decideGaugeMove (d ++ [q]) closed = (u, reply)) :
        Decides c s u reply := decides_owner (r := .gaugeMove) rfl empty (by rw [List.length_append, four]; rfl) e
    have target : signedAt (d ++ [q]) 0 4 = t := congrArg (signedOf 4) (fieldAt_front four [q])
    have decided := decideGaugeMove_eq closed target (fieldAt_last four q)
    have wrong : ¬fields ↔ (t < 1800 ∨ 124000 < t) ∨ 1 < q.toNat := by
      change ¬(1800 ≤ t ∧ t ≤ 124000 ∧ q.toNat ≤ 1) ↔ _
      omega
    have zero : q = 0 ↔ q.toNat = 0 := byte_eq_iff (n := 0) (by decide)
    have eBusy : busy ↔ s.manualInFlight = true ∨ (s.gaugeBusy = true ∧ (q.toNat = 0 ∨ s.bg.slot ≠ none)) ∨
        s.turnerMoving = true := by rw [← zero]
    have passed (ok : fields) := decided.trans (if_neg fun bad => wrong.mpr bad ok)
    have free (ok : fields) (idle : s.runOpen = false) := (passed ok).trans (if_neg (ne_true_of_eq_false idle))
    have able (ok : fields) (idle : s.runOpen = false) (rest : ¬busy) :=
      (free ok idle).trans (if_neg fun e => rest (eBusy.mpr e))
    have known (ok : fields) (idle : s.runOpen = false) (rest : ¬busy) (held : ¬loose) :=
      (able ok idle rest).trans (if_neg held)
    have safe (ok : fields) (idle : s.runOpen = false) (rest : ¬busy) (held : ¬loose) (calm : ¬danger) :=
      (known ok idle rest held).trans (if_neg calm)
    refine ⟨fun bad => decides (decided.trans (if_pos (wrong.mp bad))),
      fun ok run => decides ((passed ok).trans (if_pos run)),
      fun ok idle work => decides ((free ok idle).trans (if_pos (eBusy.mp work))),
      fun ok idle rest lost => decides ((able ok idle rest).trans (if_pos lost)),
      fun ok idle rest held block => decides ((known ok idle rest held).trans (if_pos block)),
      fun ok idle rest held calm => ⟨fun moving => decides ((safe ok idle rest held calm).trans (if_pos moving)),
        fun still => ?_⟩⟩
    have starts := (safe ok idle rest held calm).trans (if_neg (ne_true_of_eq_false still))
    exact ⟨fun x started => decides (by rw [starts, started]),
      fun x backward started => decides ((starts.trans (by rw [started])).trans
        (congrArg (·, [0x00, 0x00]) (State.gaugeDone_bytes x rfl rfl rfl)))⟩
  · intro e ends busy danger
    have refusal : e.slotRefusal = _ := e.slotRefusal_eq
    have free (idle : s.runOpen = false) := refusal.trans (if_neg (ne_true_of_eq_false idle))
    have able (idle : s.runOpen = false) (rest : ¬busy) := (free idle).trans (if_neg rest)
    have known (idle : s.runOpen = false) (rest : ¬busy) (held : s.bg.referenced = true) :=
      (able idle rest).trans (if_neg (ne_false_of_eq_true held))
    have refused {why : Status} {status : Byte} (code : why.code = status) (h : e.slotRefusal = some why) :
        s.slotNext = ends e 0x05 status false :=
      (State.slotNext_refused stored h).trans (State.gaugeDone_bytes e rfl rfl code)
    refine ⟨(State.slotCancel_some stored).trans (State.gaugeDone_bytes e rfl rfl rfl),
      fun run => refused rfl (refusal.trans (if_pos run)),
      fun idle work => refused rfl ((free idle).trans (if_pos work)),
      fun idle rest lost => refused rfl ((able idle rest).trans (if_pos lost)),
      fun idle rest held block => refused rfl ((known idle rest held).trans (if_pos block)),
      fun idle rest held calm => ?_⟩
    obtain ⟨moves, completes⟩ := State.slotNext_starts stored ((known idle rest held).trans (if_neg calm))
    exact ⟨moves, fun x backward started => (completes x backward started).trans (State.gaugeDone_bytes x rfl rfl rfl)⟩

/-! ### O44: referencing (R98, R99) -/

/-- GAUGE_REFERENCE. -/
theorem decideGaugeReference_eq (s : State) :
    decideGaugeReference s =
      if s.runOpen = true then (s, [0x03])
      else if s.bg.state = .fault then (s, [0x04])
      else if s.gaugeBusy = true ∨ s.manualInFlight = true ∨ s.turnerMoving = true then (s, [0x02])
      else if s.sm.estopLatch = true ∨ s.guardOpen = true then (s, [0x0C])
      else (s.startReference, [0x00]) := by
  unfold decideGaugeReference
  rw [firstRefusal_step Iff.rfl, firstRefusal_step decide_eq_true_iff, Bool.or_assoc,
    firstRefusal_step (or_true_iff Iff.rfl (or_true_iff Iff.rfl Iff.rfl)),
    firstRefusal_step (or_true_iff Iff.rfl Iff.rfl), firstRefusal_nil]
  split_ifs <;> rfl

/-- Before a search segment: in REFERENCING, dwelled for when the direction changes (log 24). -/
theorem Gauge.beginSegment_search (g : Gauge) (x : Segment) (search : x = .offSwitches ∨ x = .ontoSwitch) (ms : Nat) :
    g.beginSegment x ms =
      { g with state := .referencing, dwell := if g.dir = x.dir then none else some ms } := by
  unfold Gauge.beginSegment Gauge.startSegment
  by_cases same : x.dir = g.dir
  · rw [if_pos same, if_pos same.symm, same]
    rcases search with e | e <;> rw [e] <;> rfl
  · rw [if_neg same, if_neg (fun e => same e.symm)]
    rcases search with e | e <;> rw [e] <;> rfl

/-- The search begins, off the switches first while one is made (R98, R99). -/
theorem State.startReference_eq (s : State) :
    let seeks : List Segment → Direction → State := fun plan dir =>
      s.setBg
        { s.bg with
          referenced := false
          inPos := false
          move := some ⟨.gaugeReference, .reference, plan, false, Config.gmax⟩
          state := .referencing
          dwell := if s.bg.dir = dir then none else some s.ps.settings.reversalDwell }
    let made : Prop := s.lines.refSwitch = true ∨ s.lines.rearOvertravel = true
    (made → s.startReference = seeks [.offSwitches, .ontoSwitch] .forward) ∧
      (¬made → s.startReference = seeks [.ontoSwitch] .backward) := by
  intro seeks made
  unfold State.startReference State.beginMove
  constructor
  · intro on
    rw [if_pos on]
    dsimp only [List.headD_cons]
    rw [Gauge.beginSegment_search _ _ (.inl rfl)]
    rfl
  · intro off
    rw [if_neg off]
    dsimp only [List.headD_cons]
    rw [Gauge.beginSegment_search _ _ (.inr rfl)]
    rfl

/-- An approach that has a motion begins its first segment. -/
theorem State.approach_of_plan {s : State} {i : MoveIssuer} {fromSlot : Bool} {k : MoveKind} {t : Int} {x : Segment}
    {xs : List Segment} (plan : s.approachPlan t = x :: xs) :
    s.approach i fromSlot k t =
      .moving ((s.setBg { s.bg with target := t }).beginMove ⟨i, k, x :: xs, fromSlot, t⟩ x) := by
  unfold State.approach
  rw [plan]

/-- From the reference position GMAX is approached forward (R99). -/
theorem State.switchFound_plan (s : State) :
    (s.setBg
        { s.bg with
          zero := (Config.refPosition : Int) - s.lines.encoder
          actual := Config.refPosition
          referenced := true
          target := Config.refPosition }).approachPlan Config.gmax =
      [.to .forward Config.gmax] := by
  unfold State.approachPlan
  rw [if_neg (fun ⟨_, _, same⟩ => absurd (show (124000 : Int) = 124500 from same) (by decide)),
      if_pos (by change (124000 : Int) < 124500; decide)]

theorem State.searchSegment_of {s : State} {v : Move} {x : Segment} {rest : List Segment} (move : s.bg.move = some v)
    (plan : v.plan = x :: rest) (running : s.bg.dwell = none) (search : x = .offSwitches ∨ x = .ontoSwitch) :
    s.searchSegment = some x := by
  unfold State.searchSegment
  rw [move, running]
  dsimp only
  rw [plan]
  rcases search with e | e <;> rw [e]

/-- A search segment under way is the front of the move's plan, and not dwelled for. -/
theorem State.searchSegment_some {s : State} {x : Segment} (h : s.searchSegment = some x) :
    s.bg.dwell = none ∧ ∃ v, s.bg.move = some v ∧ v.plan.head? = some x := by
  unfold State.searchSegment at h
  split at h
  · rename_i v move running
    split at h
    · rename_i plan
      cases h
      exact ⟨running, v, move, by rw [plan]; rfl⟩
    · rename_i plan
      cases h
      exact ⟨running, v, move, by rw [plan]; rfl⟩
    · cases h
  · cases h

/-- Settles O44: the request's refusals and its start, and the two switch events. -/
theorem referencingFindsTheSwitch : Obligations.ReferencingFindsTheSwitch := by
  refine ⟨fun s m tag empty => ?_, fun s m => ?_, fun s m => ?_⟩
  · intro c closed busy danger made seeks
    have decides {u : State} {reply : List Byte} (e : decideGaugeReference closed = (u, reply)) :
        Decides c s u reply := decides_owner (r := .gaugeReference) rfl empty rfl e
    have decided := decideGaugeReference_eq closed
    have free (idle : s.runOpen = false) := decided.trans (if_neg (ne_true_of_eq_false idle))
    have sound (idle : s.runOpen = false) (ok : s.bg.state ≠ .fault) := (free idle).trans (if_neg ok)
    have able (idle : s.runOpen = false) (ok : s.bg.state ≠ .fault) (rest : ¬busy) :=
        (sound idle ok).trans (if_neg rest)
    refine ⟨fun run => decides (decided.trans (if_pos run)),
        fun idle fault => decides ((free idle).trans (if_pos fault)),
      fun idle ok work => decides ((sound idle ok).trans (if_pos work)),
      fun idle ok rest block => decides ((able idle ok rest).trans (if_pos block)),
      fun idle ok rest calm => ?_⟩
    have taken := (able idle ok rest).trans (if_neg calm)
    obtain ⟨drivesOff, searches⟩ := closed.startReference_eq
    exact ⟨fun on => decides (by rw [taken, drivesOff on]; rfl), fun off => decides (by rw [taken, searches off]; rfl)⟩
  · intro c h
    refine ⟨fun v rest move plan running dir => becomes_of rfl ?_, fun other => becomes_of rfl ?_⟩
    · have searching : h.searchSegment = some .offSwitches := State.searchSegment_of move plan running (.inl rfl)
      change h.switchesReleased = _
      unfold State.switchesReleased
      rw [if_pos ⟨searching, rfl, rfl⟩, State.beginMove, Gauge.beginSegment_search _ _ (.inr rfl), if_neg]
      · rfl
      · change ¬s.bg.dir = .backward
        rw [dir]
        decide
    · change h.switchesReleased = _
      unfold State.switchesReleased
      refine if_neg fun ⟨searching, _⟩ => ?_
      obtain ⟨running, v, move, front⟩ := State.searchSegment_some searching
      exact other.elim (fun no => no v move front) (fun dwells => dwells running)
  · intro c h
    refine ⟨fun v rest move plan running dir => becomes_of rfl ?_, fun other => becomes_of rfl ?_⟩
    · have searching : h.searchSegment = some .ontoSwitch := State.searchSegment_of move plan running (.inr rfl)
      change h.switchFound = _
      unfold State.switchFound
      rw [if_pos searching]
      dsimp only
      rw [State.approach_of_plan (State.switchFound_plan h)]
      dsimp only
      unfold State.beginMove Gauge.beginSegment
      rw [if_neg]
      · rfl
      · change ¬.forward = s.bg.dir
        rw [dir]
        decide
    · change h.switchFound = _
      unfold State.switchFound
      refine if_neg fun searching => ?_
      obtain ⟨running, v, move, front⟩ := State.searchSegment_some searching
      exact other.elim (fun no => no v move front) (fun dwells => dwells running)

/-! ### O45: segments, dwells and completions (R97, R102, R104) -/

/-- A segment that goes to a position begins: it runs at once in the last direction, else it is dwelled for. -/
theorem Gauge.beginSegment_to (g : Gauge) (d : Direction) (p : Int) (ms : Nat) :
    g.beginSegment (.to d p) ms =
      { g with
        dwell := if d = g.dir then none else some ms
        state :=
          if d = g.dir then (match d with
            | .forward => .approaching
            | .backward => .movingBack)
          else .dwell } := by
  unfold Gauge.beginSegment Gauge.startSegment
  by_cases same : d = g.dir
  · rw [if_pos (show (Segment.to d p).dir = g.dir from same), if_pos same, if_pos same]
    have dir : (Segment.to d p).dir = g.dir := same
    rw [dir]
    cases d <;> rfl
  · rw [if_neg (show ¬(Segment.to d p).dir = g.dir from same), if_neg same, if_neg same]
    rfl

theorem State.segmentReached_iff {s : State} {v : Move} {d : Direction} {pos : Int} {rest : List Segment}
    (move : s.bg.move = some v) (plan : v.plan = .to d pos :: rest) :
    s.segmentReached = true ↔
      (s.bg.state = .movingBack ∨ s.bg.state = .approaching) ∧ (s.bg.actual - pos).natAbs ≤ 2 := by
  unfold State.segmentReached
  rw [move]
  cases s.bg.state <;> dsimp only <;> simp [plan, Config.tolerance]

/-- A segment's end that is not reached changes nothing. -/
theorem State.gaugeSegmentEnd_not_reached {s : State} (h : s.segmentReached = false) : s.gaugeSegmentEnd = s := by
  unfold State.gaugeSegmentEnd State.segmentEnded
  rw [h]

/-- The next segment begins. -/
theorem State.gaugeSegmentEnd_next {s : State} {v : Move} {x y : Segment} {more : List Segment}
    (h : s.segmentReached = true) (move : s.bg.move = some v) (plan : v.plan = x :: y :: more) :
    s.gaugeSegmentEnd = s.beginMove { v with plan := y :: more } y := by
  unfold State.gaugeSegmentEnd State.segmentEnded
  rw [h, move]
  dsimp only
  rw [plan]

/-- The move is at its end. -/
theorem State.gaugeSegmentEnd_last {s : State} {v : Move} {x : Segment} (h : s.segmentReached = true)
    (move : s.bg.move = some v) (plan : v.plan = [x]) :
    s.gaugeSegmentEnd =
      (s.moveCompleted v).moveDoneAt v (decide (v.kind ≠ .retract) && decide (s.bg.dir = .backward)) := by
  have backward : (s.moveCompleted v).endedBackward v =
      (decide (v.kind ≠ .retract) && decide (s.bg.dir = .backward)) := Bool.decide_and _ _
  rw [← backward]
  unfold State.gaugeSegmentEnd State.segmentEnded
  rw [h, move]
  dsimp only
  rw [plan]

/-- The dwell's segment starts. -/
theorem State.dwellEnded_starts {s : State} {v : Move} {x : Segment} {rest : List Segment} {ms : Nat}
    (move : s.bg.move = some v) (plan : v.plan = x :: rest) (dwells : s.bg.dwell = some ms) :
    s.dwellEnded = s.setBg (s.bg.startSegment x) := by
  unfold State.dwellEnded
  rw [dwells, move]
  dsimp only
  rw [plan]

theorem State.dwellEnded_idle {s : State} (no : s.bg.dwell = none) : s.dwellEnded = s := by
  unfold State.dwellEnded
  rw [no]

theorem boolByte_decide (p : Prop) [Decidable p] : boolByte (decide p) = if p then 0x01 else 0x00 := by
  unfold boolByte
  by_cases h : p <;> simp [h]

/-- Settles O45: the dwell's end, the segment's end, and the lost position. -/
theorem segmentsDwellAndComplete : Obligations.SegmentsDwellAndComplete := by
  refine ⟨fun s m => ?_, fun s m v d pos rest => ?_, fun s m => ?_⟩
  · intro c h
    refine ⟨fun v x rest ms move plan dwells => becomes_of rfl ?_, fun no => becomes_of rfl (State.dwellEnded_idle no)⟩
    refine (State.dwellEnded_starts (s := h) move plan dwells).trans ?_
    unfold Gauge.startSegment
    rcases x with ⟨_ | _, p⟩ | _ | _ <;> rfl
  · intro c h reached move plan
    have reached_iff : h.segmentReached = true ↔ reached := State.segmentReached_iff move plan
    refine ⟨fun no => becomes_of rfl (State.gaugeSegmentEnd_not_reached ?_), fun yes e p more next => ?_,
      fun yes last => ?_⟩
    · exact Bool.eq_false_iff.mpr fun e => no (reached_iff.mp e)
    · subst next
      refine becomes_of rfl ((State.gaugeSegmentEnd_next (reached_iff.mpr yes) move plan).trans ?_)
      unfold State.beginMove
      rw [Gauge.beginSegment_to]
      cases e <;> rfl
    · subst last
      intro t backward
      have done : h.gaugeSegmentEnd = t.moveDoneAt v backward :=
        State.gaugeSegmentEnd_last (reached_iff.mpr yes) move plan
      have ends {u : State} (e : t.moveDoneAt v backward = u) : Becomes c s u := becomes_of rfl (done.trans e)
      unfold State.moveDoneAt at ends
      refine ⟨fun host => ends ?_, fun runner run => ends ?_, fun runner idle => ends ?_, fun cut => ends ?_,
        fun turn => ends ?_⟩
      · rcases host with e | e <;> rw [e] <;> dsimp only <;>
          rw [State.gaugeDone_bytes t (boolByte_decide _) rfl rfl] <;> rfl
      · rw [runner]
        exact if_pos run
      · rw [runner]
        exact if_neg (ne_true_of_eq_false idle)
      · rw [cut]
      · rw [turn]
  · intro c h off
    exact ⟨fun far => becomes_of rfl (if_pos far), fun near => becomes_of rfl (if_neg near)⟩

/-! ### O46: faults and stops of the gauge (R108 to R110) -/

/-- What cancels the stored move leaves none to cancel. -/
theorem State.slotCancel_slotCancel (s : State) : s.slotCancel.slotCancel = s.slotCancel := by
  cases e : s.bg.slot with
  | none => rw [State.slotCancel_empty e, State.slotCancel_empty e]
  | some t =>
    rw [State.slotCancel_some e]
    exact State.slotCancel_empty rfl

theorem State.reportFault_runOpen (s : State) (k : FaultKind) (d : Int) : (s.reportFault k d).runOpen = s.runOpen := by
  have state : (s.reportFault k d).pr.state = if s.faultStops k then .faulted else s.pr.state := rfl
  unfold State.runOpen
  rw [state]
  unfold State.faultStops State.runOpen
  cases s.pr.state <;> cases k.isInfeed <;> cases decide (s.pr.phase = .infeedWait) <;> rfl

/-- A move cut short at its issuer, a slot that is then cancelled cancelled there too. -/
theorem State.moveCutAt_host {s : State} {v : Move} (host : v.issuer = .gaugeMove ∨ v.issuer = .gaugeReference)
    {e : MoveEnd} {outcome : Byte} (code : byteOf e.outcome.code = outcome) (status : e.outcome.status = 0x00) :
    s.moveCutAt v e =
      (s.raise .gaugeDone
        ([if v.kind = .reference then 0x01 else 0x00, outcome, 0x00,
            flagByte [false, v.fromSlot, s.bg.inPos, s.bg.referenced]] ++ leInt 4 v.goal ++
          leInt 4 s.bg.actual)).slotAfter e := by
  rw [← State.gaugeDone_bytes s (boolByte_decide (v.kind = .reference)) code status]
  unfold State.moveCutAt
  rcases host with i | i <;> rw [i]

theorem State.moveCutAt_runner {s : State} {v : Move} (runner : v.issuer = .runner) (e : MoveEnd) :
    s.moveCutAt v e = if s.runOpen then s.runnerMoveStopped (decide (e = .guard)) else s := by
  unfold State.moveCutAt
  rw [runner]

theorem State.moveCutAt_cut {s : State} {v : Move} (cut : v.issuer = .manualCut) (e : MoveEnd) :
    s.moveCutAt v e = s.manualCutFailed e.cutCause := by
  unfold State.moveCutAt
  rw [cut]

theorem State.moveCutAt_turn {s : State} {v : Move} (turn : v.issuer = .manualTurn) (e : MoveEnd) :
    s.moveCutAt v e = s.manualTurnEnds e.turnCause := by
  unfold State.moveCutAt
  rw [turn]

/-- What a fault of the gauge leads to (R108). -/
theorem State.gaugeFault_eq (s : State) (k : FaultKind) (d : Int) :
    let t := s.gaugeFaulted.reportFault k d
    s.gaugeFault k d =
      match s.bg.move with
      | none => t.slotCancel
      | some v =>
        match v.issuer with
        | .runner => (if s.runOpen then t.runnerMoveStopped false else t).slotCancel
        | .manualCut => (t.manualCutFailed 1).slotCancel
        | .manualTurn => (t.manualTurnEnds 1).slotCancel
        | .gaugeMove | .gaugeReference =>
          (t.raise .gaugeDone
            ([if v.kind = .reference then 0x01 else 0x00, 0x04, 0x00, flagByte [false, v.fromSlot, false, false]] ++
              leInt 4 v.goal ++ leInt 4 s.bg.actual)).slotCancel := by
  intro t
  have run : t.runOpen = s.runOpen := State.reportFault_runOpen _ k d
  have split : s.gaugeFault k d =
      match s.bg.move with
      | some m => (t.moveCutAt m .fault).slotCancel
      | none => t.slotCancel := rfl
  rw [split]
  have host {v : Move} (i : v.issuer = .gaugeMove ∨ v.issuer = .gaugeReference) :
      (t.moveCutAt v .fault).slotCancel =
        (t.raise .gaugeDone
          ([if v.kind = .reference then 0x01 else 0x00, 0x04, 0x00, flagByte [false, v.fromSlot, false, false]] ++
            leInt 4 v.goal ++ leInt 4 s.bg.actual)).slotCancel := by
    rw [State.moveCutAt_host i (e := .fault) rfl rfl]
    exact State.slotCancel_slotCancel _
  cases s.bg.move with
  | none => rfl
  | some v =>
    dsimp only
    cases i : v.issuer with
    | runner => rw [State.moveCutAt_runner i, run]; rfl
    | manualCut => rw [State.moveCutAt_cut i]; rfl
    | manualTurn => rw [State.moveCutAt_turn i]; rfl
    | gaugeMove => exact host (.inl i)
    | gaugeReference => exact host (.inr i)

theorem State.servoed_iff (s : State) :
    s.servoed = true ↔ s.gaugeBusy = true ∨ (s.bg.state = .standing ∧ s.bg.referenced = true) := by
  unfold State.servoed State.gaugeBusy
  cases s.bg.state <;> simp

/-- A busy gauge's move is cut short by a guard, an emergency stop or a soft reset (R109, R110). -/
theorem State.gaugeStops_busy {s : State} {v : Move} (busy : s.gaugeBusy = true) (move : s.bg.move = some v) :
    s.gaugeGuard = s.gaugeStopped.moveCutAt v .guard ∧
      s.gaugeEstop = (s.gaugeStopped.moveCutAt v .estop).slotCancel ∧
      s.gaugeReset = (s.gaugeStopped.moveCutAt v .reset).slotCancel := by
  unfold State.gaugeGuard State.gaugeEstop State.gaugeReset
  rw [if_pos busy, if_pos busy, if_pos busy, move]
  exact ⟨rfl, rfl, rfl⟩

/-- Settles O46: the two faults, and the three stops at rest and busy. -/
theorem gaugeFaultsStopTheMove : Obligations.GaugeFaultsStopTheMove := by
  refine ⟨fun s m => ?_, fun s => ?_⟩
  · intro h servo stops ends
    have ends_eq (k : FaultKind) (d : Int) : h.gaugeFault k d = ends k d := h.gaugeFault_eq k d
    have servo_iff : h.servoed = true ↔ servo := h.servoed_iff
    refine ⟨fun lag => ⟨fun servoed far => becomes_of rfl ?_, fun near => becomes_of rfl ?_⟩,
      fun ok => becomes_of rfl ?_, fun fault => becomes_of rfl (if_pos fault)⟩
    · exact (if_pos ⟨servo_iff.mpr servoed, far⟩).trans (ends_eq _ _)
    · refine if_neg fun ⟨servoed, far⟩ => near.elim (fun no => no (servo_iff.mp servoed)) (Nat.not_le.mpr far)
    · exact (if_neg ok).trans (ends_eq _ _)
  · intro stopped done
    refine ⟨fun still => ?_, fun v busy move => ?_⟩
    · unfold State.gaugeGuard State.gaugeEstop State.gaugeReset
      rw [still]
      exact ⟨rfl, rfl, rfl⟩
    · obtain ⟨guard, estop, reset⟩ := State.gaugeStops_busy busy move
      rw [show s.gaugeStopped = stopped from rfl] at guard estop reset
      rw [guard, estop, reset]
      refine ⟨fun i run => ?_, fun i idle => ?_, fun i => ?_, fun i => ?_, fun i => ?_⟩
      · have isOpen : stopped.runOpen = true := run
        rw [State.moveCutAt_runner i, State.moveCutAt_runner i, isOpen]
        exact ⟨rfl, rfl⟩
      · have isClosed : stopped.runOpen = false := idle
        rw [State.moveCutAt_runner i, State.moveCutAt_runner i, State.moveCutAt_runner i, isClosed]
        exact ⟨rfl, rfl, rfl⟩
      · rw [State.moveCutAt_cut i, State.moveCutAt_cut i, State.moveCutAt_cut i]
        exact ⟨rfl, rfl, rfl⟩
      · rw [State.moveCutAt_turn i, State.moveCutAt_turn i, State.moveCutAt_turn i]
        exact ⟨rfl, rfl, rfl⟩
      · rw [State.moveCutAt_host i (e := .guard) rfl rfl, State.moveCutAt_host i (e := .estop) rfl rfl,
          State.moveCutAt_host i (e := .reset) rfl rfl]
        exact ⟨rfl, State.slotCancel_slotCancel _, State.slotCancel_slotCancel _⟩

end Sys2Proof.Machine
end

section
/-! SUPPORT. What the supply's operations and the tracker's leave of the other blocks (R132, R133, R141; R46 to R50). -/

namespace Sys2Proof.Machine

/-! ### The supply -/

/-- What asking for, granting and giving back the grant leaves alone. -/
structure SupplyKeeps (s t : State) : Prop where
  pr : t.pr = s.pr
  gt : t.gt = s.gt
  bg : t.bg = s.bg
  ps : t.ps = s.ps
  sm : t.sm = s.sm
  lines : t.lines = s.lines
  manualTurn : t.pt.manual = s.pt.manual

theorem SupplyKeeps.refl (s : State) : SupplyKeeps s s := ⟨rfl, rfl, rfl, rfl, rfl, rfl, rfl⟩

theorem SupplyKeeps.trans {r s t : State} (h : SupplyKeeps r s) (k : SupplyKeeps s t) : SupplyKeeps r t :=
  ⟨k.pr.trans h.pr, k.gt.trans h.gt, k.bg.trans h.bg, k.ps.trans h.ps, k.sm.trans h.sm, k.lines.trans h.lines,
    k.manualTurn.trans h.manualTurn⟩

theorem supplyKeeps_setHs (s : State) (x : Supply) : SupplyKeeps s (s.setHs x) := by constructor <;> rfl

theorem supplyKeeps_setCs (s : State) (x : CutStation) : SupplyKeeps s (s.setCs x) := by constructor <;> rfl

theorem SupplyKeeps.runOpen {s t : State} (h : SupplyKeeps s t) : t.runOpen = s.runOpen := by
  unfold State.runOpen
  rw [h.pr]

theorem SupplyKeeps.loadId {s t : State} (h : SupplyKeeps s t) : t.loadId = s.loadId := by
  unfold State.loadId
  rw [h.gt]

theorem supplyKeeps_raiseMeasured (s : State) (m : Nat) : SupplyKeeps s (s.raiseMeasured m) := by
  unfold State.raiseMeasured State.takeOffMeasured State.slotNotice
  dsimp only
  split
  · split <;> (constructor <;> rfl)
  · constructor <;> rfl
  · constructor <;> rfl

theorem supplyKeeps_csGranted (s : State) : SupplyKeeps s s.csGranted := by
  unfold State.csGranted
  split <;> (constructor <;> rfl)

theorem supplyKeeps_ptGranted (s : State) : SupplyKeeps s s.ptGranted := by
  unfold State.ptGranted
  split
  · dsimp only
    split
    · unfold Turner.gripDone
      split <;> (constructor <;> rfl)
    · constructor <;> rfl
  · constructor <;> rfl
  · split <;> (constructor <;> rfl)
  · constructor <;> rfl

theorem supplyKeeps_liftGranted (s : State) : SupplyKeeps s s.liftGranted := by
  unfold State.liftGranted
  split <;> (constructor <;> rfl)

theorem supplyKeeps_grantOther (s : State) : SupplyKeeps s s.grantOther := by
  unfold State.grantOther
  split
  · exact (supplyKeeps_setHs s _).trans (supplyKeeps_csGranted _)
  · exact (supplyKeeps_setHs s _).trans (supplyKeeps_ptGranted _)
  · constructor <;> rfl
  · constructor <;> rfl

theorem supplyKeeps_releasedBy {next : State → State} (hn : ∀ t, SupplyKeeps t (next t)) (s : State) :
    SupplyKeeps s (s.releasedBy next) := by
  unfold State.releasedBy
  dsimp only
  split
  · constructor <;> rfl
  · split
    · exact (supplyKeeps_setHs s _).trans (hn _)
    · constructor <;> rfl

theorem supplyKeeps_decideGrant (s : State) : SupplyKeeps s s.decideGrant := by
  unfold State.decideGrant
  split
  · dsimp only
    split
    · exact ((supplyKeeps_setHs s _).trans (supplyKeeps_raiseMeasured _ _)).trans
        (supplyKeeps_releasedBy supplyKeeps_grantOther _)
    · exact (supplyKeeps_setHs s _).trans (supplyKeeps_liftGranted _)
  · exact supplyKeeps_grantOther s

theorem supplyKeeps_release (s : State) (c : Consumer) : SupplyKeeps s (s.release c) := by
  unfold State.release
  split
  · exact supplyKeeps_releasedBy supplyKeeps_decideGrant s
  · exact SupplyKeeps.refl s

theorem supplyKeeps_request (s : State) (c : Consumer) : SupplyKeeps s (s.request c) := by
  unfold State.request
  split
  · exact SupplyKeeps.refl s
  · dsimp only
    split
    · constructor <;> rfl
    · exact ((supplyKeeps_setHs s _).trans (supplyKeeps_setHs _ _)).trans (supplyKeeps_decideGrant _)
    · constructor <;> rfl

theorem supplyKeeps_giveUp (s : State) (c : Consumer) : SupplyKeeps s (s.giveUp c) :=
  (supplyKeeps_setHs s _).trans (supplyKeeps_release (s.withdrawRequest c) c)

/-! ### The tracker -/

/-- What the tracker's operations leave alone: all but its own record and the link. -/
structure TrackerKeeps (s t : State) : Prop where
  pr : t.pr = s.pr
  bg : t.bg = s.bg
  cs : t.cs = s.cs
  hs : t.hs = s.hs
  pl : t.pl = s.pl
  jg : t.jg = s.jg
  pt : t.pt = s.pt
  ps : t.ps = s.ps
  sm : t.sm = s.sm
  lines : t.lines = s.lines

theorem TrackerKeeps.refl (s : State) : TrackerKeeps s s := ⟨rfl, rfl, rfl, rfl, rfl, rfl, rfl, rfl, rfl, rfl⟩

theorem TrackerKeeps.trans {r s t : State} (h : TrackerKeeps r s) (k : TrackerKeeps s t) : TrackerKeeps r t :=
  ⟨k.pr.trans h.pr, k.bg.trans h.bg, k.cs.trans h.cs, k.hs.trans h.hs, k.pl.trans h.pl, k.jg.trans h.jg,
    k.pt.trans h.pt, k.ps.trans h.ps, k.sm.trans h.sm, k.lines.trans h.lines⟩

theorem TrackerKeeps.runOpen {s t : State} (h : TrackerKeeps s t) : t.runOpen = s.runOpen := by
  unfold State.runOpen
  rw [h.pr]

theorem trackerKeeps_raise (s : State) (k : NoticeKind) (b : List Byte) : TrackerKeeps s (s.raise k b) :=
  ⟨rfl, rfl, rfl, rfl, rfl, rfl, rfl, rfl, rfl, rfl⟩

theorem trackerKeeps_setGt (s : State) (x : Tracker) : TrackerKeeps s (s.setGt x) :=
  ⟨rfl, rfl, rfl, rfl, rfl, rfl, rfl, rfl, rfl, rfl⟩

theorem trackerKeeps_loadWarning (s : State) (k : WarningKind) (d : Int) : TrackerKeeps s (s.loadWarning k d) := by
  unfold State.loadWarning State.warn
  dsimp only
  split <;> (constructor <;> rfl)

theorem trackerKeeps_warnBackward (s : State) (backward tracked : Bool) (t : Int) :
    TrackerKeeps s (s.warnBackward backward tracked t) := by
  unfold State.warnBackward
  split
  · split
    · exact trackerKeeps_loadWarning s _ t
    · exact trackerKeeps_raise s _ _
  · exact TrackerKeeps.refl s

theorem trackerKeeps_checkSize (s : State) (l d : Nat) : TrackerKeeps s (s.checkSize l d) := by
  unfold State.checkSize
  split
  · exact TrackerKeeps.refl s
  · split
    · exact TrackerKeeps.refl s
    · exact trackerKeeps_loadWarning s _ _

theorem trackerKeeps_dispose (s : State) (d : Disposition) (p : Piece) : TrackerKeeps s (s.dispose d p) := by
  cases d with
  | waste => exact trackerKeeps_setGt s _
  | aside => exact trackerKeeps_setGt s _
  | finished => exact (trackerKeeps_setGt s _).trans (trackerKeeps_checkSize _ _ _)

theorem trackerKeeps_warnHeight (s : State) (t : TableLoad) (m : Nat) : TrackerKeeps s (s.warnHeight t m) := by
  unfold State.warnHeight
  split
  · exact trackerKeeps_loadWarning s _ _
  · split
    · exact trackerKeeps_loadWarning s _ _
    · exact TrackerKeeps.refl s

theorem trackerKeeps_cycleNotice (s : State) (c : Cycle) (o : Outcome) (r : Rect) (q : Fin 4) :
    TrackerKeeps s (s.cycleNotice c o r q) := trackerKeeps_raise s _ _

theorem trackerKeeps_cutStrip (s : State) (t : TableLoad) (c : Cycle) : TrackerKeeps s (s.cutStrip t c) :=
  (((trackerKeeps_warnHeight s t _).trans (trackerKeeps_setGt _ _)).trans (trackerKeeps_dispose _ _ _)).trans
    (trackerKeeps_cycleNotice _ _ _ _ _)

theorem trackerKeeps_applyCut (s : State) (c : Cycle) : TrackerKeeps s (s.applyCut c) := by
  unfold State.applyCut
  split
  · split
    · exact trackerKeeps_cutStrip s _ c
    · exact trackerKeeps_cycleNotice s _ _ _ _
  · exact trackerKeeps_cycleNotice s _ _ _ _

theorem trackerKeeps_applyAborted (s : State) (c : Cycle) : TrackerKeeps s (s.applyAborted c) := by
  unfold State.applyAborted
  dsimp only
  split
  · split
    · exact ((trackerKeeps_setGt s _).trans (trackerKeeps_loadWarning _ _ _)).trans (trackerKeeps_cycleNotice _ _ _ _ _)
    · exact trackerKeeps_cycleNotice s _ _ _ _
  · exact trackerKeeps_cycleNotice s _ _ _ _

theorem trackerKeeps_applyTurn (s : State) (tracked : Bool) (load n : Nat) :
    TrackerKeeps s (s.applyTurn tracked load n) := by
  unfold State.applyTurn
  split
  · split
    · exact trackerKeeps_setGt s _
    · exact TrackerKeeps.refl s
  · exact TrackerKeeps.refl s

end Sys2Proof.Machine
end

section
/-! PROOFS. The cut station: pedal and permission (R113 to R115), clamp and knife (R116, R117, R122), returns,
recoveries
and the emergency stop (R118, R119, R123, R126, R127). -/

namespace Sys2Proof.Machine

/-! ### O49: the pedal (R113 to R115) -/

/-- The pedal counts in ARMED: it no longer does, and asks under the clamp conditions. -/
theorem State.pedalDown_counts {s : State} (counts : s.cs.state = .armed ∧ s.cs.pedalCounts = true) :
    s.pedalDown =
      if s.sm.clampConditions then (s.setCs { s.cs with pedal := true, pedalCounts := false }).request .cut
      else s.setCs { s.cs with pedal := true, pedalCounts := false } := by
  unfold State.pedalDown
  rw [if_pos counts]
  rfl

theorem State.pedalDown_noted {s : State} (other : ¬(s.cs.state = .armed ∧ s.cs.pedalCounts = true)) :
    s.pedalDown = s.setCs { s.cs with pedal := true } := by
  unfold State.pedalDown
  rw [if_neg other]

/-- Settles O49: each event by the station's state. -/
theorem pedalPreclampsTheStack : Obligations.PedalPreclampsTheStack := by
  refine ⟨fun s m => ?_, fun s m => ?_, fun s m => ?_, fun s => ?_⟩
  · intro c h counts
    refine ⟨fun yes ok => becomes_of rfl ((State.pedalDown_counts (s := h) yes).trans (if_pos ok)),
      fun yes no => becomes_of rfl ((State.pedalDown_counts (s := h) yes).trans (if_neg (ne_true_of_eq_false no))),
      fun other => becomes_of rfl (State.pedalDown_noted (s := h) other)⟩
  · intro c h
    have effect {t : State} (e : h.pedalUp = t) : Becomes c s t := becomes_of rfl e
    have state : h.cs.state = s.cs.state := rfl
    unfold State.pedalUp at effect
    rw [state] at effect
    refine ⟨fun armed => effect ?_, fun waits => effect ?_, fun clamped => effect ?_, fun a w p => effect ?_⟩
    · rw [armed]
      rfl
    · rw [waits]
    · rw [clamped]
      rfl
    · split
      · exact absurd ‹_› a
      · exact absurd ‹_› w
      · exact absurd ‹_› p
      · rfl
  · intro c h
    exact ⟨fun clamped => becomes_of rfl (if_pos clamped), fun other => becomes_of rfl (if_neg other)⟩
  · refine ⟨fun armed => ?_, fun waits lapse => ?_, fun clamped => ?_, fun a p => ?_, fun armed => ?_, fun waits => ?_⟩
    · unfold State.permissionRises State.permissionFalls
      rw [armed]
      exact ⟨rfl, fun fall => rfl, fun fall => rfl⟩
    · unfold State.permissionFalls
      rw [waits]
      rfl
    · unfold State.permissionRises State.permissionFalls
      rw [clamped]
      exact ⟨rfl, fun fall => rfl⟩
    · unfold State.permissionRises
      split
      · exact absurd ‹_› a
      · exact absurd ‹_› p
      · rfl
    · unfold State.csGranted
      rw [armed]
    · unfold State.csGranted
      rw [waits]

/-! ### O50: clamp and knife (R116, R117, R122) -/

/-- With no pending abort or skip, the work's end goes on. -/
theorem State.afterWork_next {s : State} (abort : s.pr.abortPending = false) (skip : s.pr.skipPending = false)
    (next : State → State) : s.afterWork next = next s := by
  unfold State.afterWork
  rw [abort, skip]
  rfl

/-- A cycle of the Runner that ended before its knife left the top changes nothing more without a pending end. -/
theorem State.cycleDropped_runner {s : State} {c : Cycle} (runner : c.issuer = .runner)
    (calm : s.runOpen = false ∨ (s.pr.abortPending = false ∧ s.pr.skipPending = false)) (cause : Nat) :
    s.cycleDropped c cause = s := by
  unfold State.cycleDropped
  rw [runner]
  dsimp only
  rcases calm with closed | ⟨abort, skip⟩
  · rw [closed]
    rfl
  · rw [State.afterWork_next abort skip]
    exact ite_self s

theorem State.cycleDropped_manual {c : Cycle} (manual : c.issuer = .manual) (s : State) (cause : Nat) :
    s.cycleDropped c cause = s.plainWarning .cutNowEnded s.loadId cause := by
  unfold State.cycleDropped
  rw [manual]
  rfl

/-- A stroke below the warning level, or warned of before. -/
theorem State.countStroke_quiet {s : State}
    (quiet : s.cs.warn = true ∨ min 999999 (s.cs.counter + 1) < s.ps.settings.knifeWarn) :
    s.countStroke = s.setCs { s.cs with counter := min 999999 (s.cs.counter + 1) } := by
  refine if_neg fun ⟨reached, unwarned⟩ => quiet.elim (fun warned => ?_) (Nat.not_lt.mpr reached)
  rw [warned] at unwarned
  cases unwarned

/-- The stroke that first reaches the warning level. -/
theorem State.countStroke_warns {s : State} (unwarned : s.cs.warn = false)
    (reached : s.ps.settings.knifeWarn ≤ min 999999 (s.cs.counter + 1)) :
    s.countStroke =
      (s.setCs { s.cs with counter := min 999999 (s.cs.counter + 1), warn := true }).plainWarning .knifeWarnReached 0
        (min 999999 (s.cs.counter + 1) : Nat) :=
  if_pos ⟨reached, unwarned⟩

/-- Settles O50: each event in its state. -/
theorem clampAndKnifeRunTheirStroke : Obligations.ClampAndKnifeRunTheirStroke := by
  refine ⟨fun s => ⟨fun clamping lapse => ?_, fun cutting lapse x cycle => ?_, fun back fall lapse => ?_⟩,
    fun s m => ?_, fun s m => ?_, fun s m => ?_, fun s m => ?_⟩
  · unfold State.permissionFalls
    rw [clamping]
    rfl
  · unfold State.permissionFalls CutStation.abortedCycle
    rw [cutting, cycle]
    rfl
  · unfold State.permissionFalls
    rcases back with e | e <;> rw [e]
  · intro c h
    refine ⟨fun clamping x cycle => becomes_of rfl ((if_pos clamping).trans ?_),
      fun other => becomes_of rfl (if_neg other)⟩
    have same : h.cs.cycle = some x := cycle
    change h.setCs
      { h.cs with
        state := _, clampTimer := _, knifeTimer := _, knifeValve := _, cycle := h.cs.cycle.map _ } = _
    rw [same]
    rfl
  · intro c h stopped
    refine ⟨fun clamping x cycle => ?_, fun other => becomes_of rfl (if_neg other)⟩
    have ends : h.clampTimedOut = stopped.cycleDropped x 6 := by
      unfold State.clampTimedOut
      rw [if_pos (show h.cs.state = .clamping from clamping), show h.cs.cycle = some x from cycle]
      rfl
    have kept : stopped.pr.abortPending = s.pr.abortPending ∧ stopped.pr.skipPending = s.pr.skipPending := by
      have released := supplyKeeps_release (h.setCs (h.cs.rest .fault)) .cut
      exact ⟨(congrArg Runner.abortPending released.pr : _), (congrArg Runner.skipPending released.pr : _)⟩
    exact ⟨fun manual => becomes_of rfl (ends.trans (State.cycleDropped_manual manual _ 6)),
      fun runner abort skip => becomes_of rfl (ends.trans
        (State.cycleDropped_runner runner (.inr ⟨kept.1.trans abort, kept.2.trans skip⟩) 6))⟩
  · intro c h n up
    refine ⟨fun cutting quiet => becomes_of rfl ((if_pos cutting).trans ?_),
      fun cutting unwarned reached => becomes_of rfl ((if_pos cutting).trans ?_),
      fun other => becomes_of rfl (if_neg other)⟩
    · exact State.countStroke_quiet quiet
    · exact State.countStroke_warns unwarned reached
  · intro c h
    refine ⟨fun cutting x cycle => becomes_of rfl ((if_pos cutting).trans ?_),
      fun other => becomes_of rfl (if_neg other)⟩
    have same : h.cs.cycle = some x := cycle
    change h.setCs { h.cs with state := _, knifeTimer := _, knifeValve := _, cycle := h.cs.cycle.map _ } = _
    rw [same]
    rfl

/-! ### O51: returns, recoveries, BLADE_RESET and the emergency stop (R118, R119, R123, R126, R127) -/

/-- A completed cycle of an open run reaches the Runner. -/
theorem State.cycleCompleted_run {s : State} {c : Cycle} (run : c.issuer = .runner ∧ s.runOpen = true) :
    s.cycleCompleted c = (s.applyCut c).runnerCycleDone :=
  if_pos ⟨run.1, (trackerKeeps_applyCut s c).runOpen.trans run.2⟩

theorem State.cycleCompleted_alone {s : State} {c : Cycle} (alone : ¬(c.issuer = .runner ∧ s.runOpen = true)) :
    s.cycleCompleted c = s.applyCut c :=
  if_neg fun ⟨runner, opened⟩ => alone ⟨runner, (trackerKeeps_applyCut s c).runOpen.symm.trans opened⟩

/-- An aborted cycle with the fault of its timeout, before the Runner hears of it. -/
def State.cycleTold (s : State) (c : Cycle) : State :=
  if c.mark = .timedOut then (s.applyAborted c).reportFault .knifeTimeout (if c.tracked then c.nominal else 0)
  else s.applyAborted c

theorem State.cycleTold_runOpen (s : State) (c : Cycle) : (s.cycleTold c).runOpen = s.runOpen := by
  have kept := (trackerKeeps_applyAborted s c).runOpen
  unfold State.cycleTold
  split
  · exact (State.reportFault_runOpen _ _ _).trans kept
  · exact kept

/-- An aborted cycle of an open run reaches the Runner; another ends with its report. -/
theorem State.cycleAborted_run {s : State} {c : Cycle} (run : c.issuer = .runner ∧ s.runOpen = true) :
    s.cycleAborted c = (s.cycleTold c).runnerCycleAborted :=
  if_pos ⟨run.1, (s.cycleTold_runOpen c).trans run.2⟩

theorem State.cycleAborted_alone {s : State} {c : Cycle} (alone : ¬(c.issuer = .runner ∧ s.runOpen = true)) :
    s.cycleAborted c = s.cycleTold c :=
  if_neg fun ⟨runner, opened⟩ => alone ⟨runner, (s.cycleTold_runOpen c).symm.trans opened⟩

theorem State.cycleCut_left {c : Cycle} (left : c.leftTop = true) (s : State) (cause : Nat) :
    s.cycleCut (some c) cause = s.cycleAborted c := if_pos left

theorem State.cycleCut_home {c : Cycle} (home : c.leftTop = false) (s : State) (cause : Nat) :
    s.cycleCut (some c) cause = s.cycleDropped c cause := if_neg (ne_true_of_eq_false home)

theorem CutStation.timedOut_of {cs : CutStation} {x : Cycle} (cycle : cs.cycle = some x) :
    cs.timedOut = decide (x.mark = .timedOut) := by
  unfold CutStation.timedOut
  rw [cycle]
  rfl

/-- The end of RETURNING. -/
theorem State.returnEnded_returning {s : State} {x : Cycle} (returning : s.cs.state = .returning)
    (cycle : s.cs.cycle = some x) :
    s.returnEnded = ((s.setCs (s.cs.rest s.readyState)).release .cut).cycleCompleted x := by
  unfold State.returnEnded
  rw [returning, cycle]

/-- The end of ABORT_RETURN. -/
theorem State.returnEnded_abortReturn {s : State} {x : Cycle} (back : s.cs.state = .abortReturn)
    (cycle : s.cs.cycle = some x) :
    s.returnEnded =
      ((s.setCs (s.cs.rest (if x.mark = .timedOut then .fault else s.readyState))).release .cut).cycleCut
          (some x) 5 := by
  unfold State.returnEnded
  rw [back, CutStation.timedOut_of cycle, cycle]
  simp only [decide_eq_true_eq]

/-- What the station's end of a cycle leaves of the run. -/
theorem State.rest_release_runOpen (s : State) (x : CutStation) : ((s.setCs x).release .cut).runOpen = s.runOpen :=
  ((supplyKeeps_setCs s x).trans (supplyKeeps_release _ _)).runOpen

theorem State.waitingCutEnds_none {s : State} (none : s.cs.manual = none) (cause : Nat) :
    s.waitingCutEnds cause = s := by
  unfold State.waitingCutEnds
  rw [none]

/-- Under the latch the station asks for no recovery. -/
theorem State.recoverRequest_latched {s : State} (latched : s.sm.estopLatch = true) : s.recoverRequest = s :=
  if_neg fun ⟨_, clear⟩ => by
    rw [latched] at clear
    cases clear

theorem State.homeOrRecover_latched {s : State} (latched : s.sm.estopLatch = true) :
    s.homeOrRecover =
      s.setCs (s.cs.rest
        (if s.lines.clampUp = true ∧ s.lines.knifeTop = true then s.readyState else .recover)) := by
  unfold State.homeOrRecover State.enterRecover State.cutterHome
  rw [State.recoverRequest_latched (s := s.setCs (s.cs.rest .recover)) latched]
  simp only [Bool.and_eq_true]
  split_ifs <;> rfl

theorem State.stopKnife_latched {s : State} (latched : s.sm.estopLatch = true) :
    s.stopKnife = s.setCs s.cs.knifeStopped :=
  State.recoverRequest_latched (s := s.setCs s.cs.knifeStopped) latched

/-- Under the latch what the Runner does of an aborted cycle leaves the station alone (log 16). -/
theorem State.runnerCycleAborted_cs {s : State} (latched : s.sm.estopLatch = true) :
    s.runnerCycleAborted.cs = s.cs := by
  unfold State.runnerCycleAborted State.afterWork
  split
  · rfl
  · split
    · unfold State.doSkip
      dsimp only
      rw [latched]
      rfl
    · dsimp only
      split <;> rfl

theorem State.cycleTold_kept (s : State) (c : Cycle) :
    (s.cycleTold c).cs = s.cs ∧ (s.cycleTold c).sm = s.sm := by
  have kept := trackerKeeps_applyAborted s c
  unfold State.cycleTold
  split
  · exact ⟨kept.cs, kept.sm⟩
  · exact ⟨kept.cs, kept.sm⟩

/-- An aborted cycle under the latch, with no manual cut waiting. -/
theorem State.cycleAborted_waiting {s : State} {c : Cycle} (latched : s.sm.estopLatch = true)
    (none : s.cs.manual = none) :
    (c.issuer = .runner ∧ s.runOpen = true → (s.cycleAborted c).waitingCutEnds 4 = (s.cycleTold c).runnerCycleAborted) ∧
      (¬(c.issuer = .runner ∧ s.runOpen = true) → (s.cycleAborted c).waitingCutEnds 4 = s.cycleTold c) := by
  obtain ⟨cs, sm⟩ := s.cycleTold_kept c
  constructor
  · intro run
    rw [State.cycleAborted_run run]
    exact State.waitingCutEnds_none (by rw [State.runnerCycleAborted_cs (sm ▸ latched), cs, none]) 4
  · intro alone
    rw [State.cycleAborted_alone alone]
    exact State.waitingCutEnds_none (by rw [cs, none]) 4

/-- Settles O51: the two ends, BLADE_RESET, the sample, and the emergency stop by the station's state. -/
theorem returnsRecoveriesAndBladeReset : Obligations.ReturnsRecoveriesAndBladeReset := by
  unfold Obligations.ReturnsRecoveriesAndBladeReset
  intro atRest
  refine ⟨fun s m x cycle => ?_, fun s m r a => becomes_of rfl ?_, fun s m => ?_, fun s m tag empty => ?_,
      fun s m => ?_,
    fun s latched => ?_⟩
  · intro c h home ran done cut told
    have open_done : done.runOpen = s.runOpen := State.rest_release_runOpen h _
    refine ⟨fun returning => ?_, fun back left => ?_, fun back atTop clean => ?_⟩
    · have ends : h.returnEnded = done.cycleCompleted x := State.returnEnded_returning returning cycle
      exact ⟨fun run => becomes_of rfl (ends.trans (State.cycleCompleted_run ⟨run.1, open_done.trans run.2⟩)),
        fun alone => becomes_of rfl (ends.trans
          (State.cycleCompleted_alone fun run => alone ⟨run.1, open_done.symm.trans run.2⟩))⟩
    · have ends := State.returnEnded_abortReturn (s := h) back cycle
      rw [State.cycleCut_left left] at ends
      have open_back := State.rest_release_runOpen h (h.cs.rest (if x.mark = .timedOut then .fault else home))
      exact ⟨fun run => becomes_of rfl (ends.trans (State.cycleAborted_run ⟨run.1, open_back.trans run.2⟩)),
        fun alone => becomes_of rfl (ends.trans
          (State.cycleAborted_alone fun run => alone ⟨run.1, open_back.symm.trans run.2⟩))⟩
    · have ends := State.returnEnded_abortReturn (s := h) back cycle
      rw [State.cycleCut_home atTop, if_neg clean] at ends
      exact ⟨fun manual => becomes_of rfl (ends.trans (State.cycleDropped_manual manual _ 5)),
        fun runner closed => becomes_of rfl (ends.trans
          (State.cycleDropped_runner runner (.inl (open_done.trans closed)) 5))⟩
  · have state : (s.sample { m with knifeTop := true, clampUp := true }).cs.state = s.cs.state := rfl
    unfold State.returnEnded
    rw [state]
    split
    · exact absurd ‹_› r
    · exact absurd ‹_› a
    · rfl
  · intro c h home done
    have open_done : done.runOpen = s.runOpen := State.rest_release_runOpen h _
    refine ⟨fun recover holds => ?_, fun other => becomes_of rfl (if_neg fun ⟨recover, holds⟩ => ?_)⟩
    · have ends : h.recoverEnded =
          match s.cs.pendingDone with
          | some x => done.cycleCompleted x
          | none => done := if_pos ⟨recover, holds⟩
      refine ⟨fun none => becomes_of rfl (ends.trans (by rw [none])), fun x pending => ?_⟩
      rw [pending] at ends
      exact ⟨fun runner run => becomes_of rfl (ends.trans
          (State.cycleCompleted_run ⟨runner, open_done.trans run⟩)),
        fun alone => becomes_of rfl (ends.trans (State.cycleCompleted_alone fun ⟨runner, run⟩ =>
          alone.elim (· runner) (ne_false_of_eq_true (open_done.symm.trans run))))⟩
    · exact other.elim (· recover) (· holds)
  · intro c closed
    have decides {t : State} {body : List Byte} (e : decideBladeReset closed = (t, body)) : Decides c s t body :=
      decides_owner (r := .bladeReset) rfl empty rfl e
    exact ⟨fun change => decides (if_pos change), fun other => decides (if_neg other)⟩
  · intro t returning
    have sample : s.sample m =
        t.setCs { s.cs with clampValve := if returning ∧ m.knifeTop = true then .closed else s.cs.clampValve } := rfl
    refine ⟨fun back top => ?_, fun other => ?_⟩
    · rw [sample, if_pos ⟨back, top⟩]
    · rw [sample, if_neg]
      · rfl
      · rintro ⟨back, top⟩
        exact other.elim (· back) (ne_false_of_eq_true top)
  · intro rests home stops ran
    have homes : s.homeOrRecover = rests home := State.homeOrRecover_latched latched
    have knife : s.stopKnife = stops := State.stopKnife_latched latched
    refine ⟨fun alone x cycle => ⟨fun short atTop => ?_, fun cutting left => ?_, fun back left clean => ?_,
      fun back left late => ?_, fun returning => ?_⟩, fun alone recover => ?_,
      fun rest => ⟨fun alone => ?_, fun y waits => ?_⟩⟩
    · have ends : s.csEstop = ((rests home).cycleDropped x 4).waitingCutEnds 4 := by
        unfold State.csEstop
        rw [homes, cycle, ← State.cycleCut_home atTop]
        rcases short with e | e | e | e <;> rw [e]
      refine ⟨fun manual => ?_, fun runner calm => ?_⟩
      · rw [ends, State.cycleDropped_manual manual]
        exact State.waitingCutEnds_none (by exact alone) 4
      · rw [ends, State.cycleDropped_runner (s := rests home) runner calm]
        exact State.waitingCutEnds_none (by exact alone) 4
    · have ends : s.csEstop = (stops.cycleAborted { x with mark := .aborted }).waitingCutEnds 4 := by
        unfold State.csEstop CutStation.abortedCycle
        rw [cutting, knife, cycle]
        exact congrArg (State.waitingCutEnds · 4) (State.cycleCut_left (c := x.marked .aborted) left _ 4)
      have told : stops.cycleTold { x with mark := .aborted } = stops.applyAborted { x with mark := .aborted } :=
        if_neg (show ¬CycleMark.aborted = .timedOut by decide)
      rw [ends]
      intro t
      rw [show t = stops.cycleTold { x with mark := .aborted } from told.symm]
      exact State.cycleAborted_waiting (s := stops) (c := x.marked .aborted) latched alone
    · have ends : s.csEstop = (stops.cycleAborted x).waitingCutEnds 4 := by
        unfold State.csEstop
        rw [back, CutStation.timedOut_of cycle, decide_eq_false clean, knife, cycle, ← State.cycleCut_left left]
        rfl
      have told : stops.cycleTold x = stops.applyAborted x := if_neg clean
      rw [ends]
      intro t
      rw [show t = stops.cycleTold x from told.symm]
      exact State.cycleAborted_waiting (s := stops) latched alone
    · have ends : s.csEstop = ((rests .fault).cycleAborted x).waitingCutEnds 4 := by
        unfold State.csEstop
        rw [back, CutStation.timedOut_of cycle, decide_eq_true late, cycle, ← State.cycleCut_left left]
        rfl
      have told : (rests .fault).cycleTold x = _ := if_pos late
      rw [ends]
      intro t
      rw [show t = (rests .fault).cycleTold x from told.symm]
      exact State.cycleAborted_waiting (s := rests .fault) latched alone
    · unfold State.csEstop State.returnCut
      rw [returning, cycle]
      dsimp only
      rw [State.stopKnife_latched (by exact latched)]
      exact State.waitingCutEnds_none (by exact alone) 4
    · unfold State.csEstop
      rw [recover]
      exact State.waitingCutEnds_none (by exact alone) 4
    · unfold State.csEstop
      rcases rest with e | e | e <;> rw [e] <;> exact State.waitingCutEnds_none (by exact alone) 4
    · unfold State.csEstop State.waitingCutEnds
      rcases rest with e | e | e <;> rw [e, waits] <;> rfl

end Sys2Proof.Machine
end

section
/-! PROOFS. The hydraulic supply: PUMP_ON, PUMP_OFF, the pump's timers, a loss of pressure and an emergency stop (R129,
R130, R134 to R137, R121). -/

namespace Sys2Proof.Machine

/-! ### The pump (R129, R130, R136) -/

/-- An OFF pump starts when it is enabled, unlatched and asked for. -/
theorem Supply.tryStart_off {h : Supply} (off : h.pump = .off) (latched : Bool) :
    h.tryStart latched =
      if h.enable = true ∧ latched = false ∧ (h.reqCut = true ∨ h.reqLift = true ∨ h.reqTurn = true) then
        { h with pump := .runUp, contactor := true, runUpTimer := some 2000 }
      else h := by
  have asked : h.anyRequest = true ↔ h.reqCut = true ∨ h.reqLift = true ∨ h.reqTurn = true := by
    unfold Supply.anyRequest
    rw [Bool.or_eq_true, Bool.or_eq_true, or_assoc]
  refine if_congr ?_ rfl rfl
  rw [asked]
  exact ⟨fun ⟨_, enable, clear, ask⟩ => ⟨enable, clear, ask⟩, fun ⟨enable, clear, ask⟩ => ⟨off, enable, clear, ask⟩⟩

/-- PUMP_ON answers with the supply it leaves. -/
theorem decidePumpOn_eq {s : State} {h : Supply} (e : (decidePumpOn s).1 = s.setHs h) :
    decidePumpOn s = (s.setHs h, h.reply) :=
  Prod.ext e (congrArg (fun x : State => x.hs.reply) e)

/-- PUMP_ON with the flag clear, by the pump's state. -/
theorem decidePumpOn_state {s : State} (disabled : s.hs.enable = false) :
    (decidePumpOn s).1 =
      s.setHs
        (if s.hs.pump = .ready then { s.hs with enable := true, stopPending := false }
        else if s.hs.pump = .off then ({ s.hs with enable := true } : Supply).tryStart s.sm.estopLatch
        else { s.hs with enable := true }) := by
  refine (if_neg (ne_true_of_eq_false disabled)).trans ?_
  unfold State.pumpStart
  dsimp only [State.hs_setHs, State.sm_setHs]
  generalize s.hs = h
  obtain ⟨pump, _⟩ := h
  cases pump <;> rfl

/-- PUMP_OFF with the flag set, by the pump's state and the holder. -/
theorem decidePumpOff_state {s : State} (enabled : s.hs.enable = true) :
    (decidePumpOff s).1 =
      s.setHs
        (if s.hs.pump = .runUp ∨ (s.hs.pump = .ready ∧ s.hs.holder = none) then
          ({ s.hs with enable := false } : Supply).stop
        else if s.hs.pump = .ready then { s.hs with enable := false, stopPending := true }
        else { s.hs with enable := false }) := by
  refine (if_neg (ne_false_of_eq_true enabled)).trans ?_
  generalize s.hs = h
  obtain ⟨pump, _, _, _, _, _, holder, _⟩ := h
  cases pump <;> cases holder <;> rfl

/-- PUMP_OFF answers with the supply it leaves. -/
theorem decidePumpOff_eq {s : State} {h : Supply} (e : (decidePumpOff s).1 = s.setHs h) :
    decidePumpOff s = (s.setHs h, h.reply) :=
  Prod.ext e (congrArg (fun x : State => x.hs.reply) e)

/-- A loss of pressure outside READY changes nothing. -/
theorem State.pressureFails_other {s : State} (other : s.hs.pump ≠ .ready) (faultFirst : Bool) :
    s.pressureFails faultFirst = s := if_pos other

/-- A loss of pressure in READY, in the order given (log 37). -/
theorem State.pressureFails_ready {s : State} (ready : s.hs.pump = .ready) :
    s.pressureFails true =
        ((s.setHs s.hs.pressureGone).reportFault .pressureLost (holderCode s.hs.holder)).flush.holderRevoked
          s.hs.holder ∧
      s.pressureFails false =
        ((s.setHs s.hs.pressureGone).holderRevoked s.hs.holder).flush.reportFault .pressureLost
          (holderCode s.hs.holder) :=
  ⟨if_neg (not_not_intro ready), if_neg (not_not_intro ready)⟩

theorem supplyKeeps_recoverRequest (s : State) : SupplyKeeps s s.recoverRequest := by
  unfold State.recoverRequest
  split
  · exact supplyKeeps_request s .cut
  · exact SupplyKeeps.refl s

theorem supplyKeeps_stopKnife (s : State) : SupplyKeeps s s.stopKnife :=
  (supplyKeeps_setCs s _).trans (supplyKeeps_recoverRequest _)

/-- Settles O52: the two requests, the timers, the loss of pressure, and the station's part. -/
theorem pumpStartsStopsAndFaults : Obligations.PumpStartsStopsAndFaults := by
  unfold Obligations.PumpStartsStopsAndFaults
  intro reply stopped started
  have start (h : Supply) (off : h.pump = .off) (latched : Bool) : h.tryStart latched = started h latched :=
    Supply.tryStart_off off latched
  refine ⟨fun s m tag empty => ?_, fun s m tag empty => ?_, fun s m => ?_, fun s m => ?_, fun s m => ?_,
    fun s m faultFirst => ?_, fun h => ?_, fun s => ?_⟩
  · intro c closed leads on
    have leads_of {h : Supply} (e : (decidePumpOn closed).1 = closed.setHs h) : leads h :=
      decides_owner (r := .pumpOn) rfl empty rfl (decidePumpOn_eq e)
    refine ⟨fun enabled => leads_of (if_pos enabled), fun disabled => ?_⟩
    have set_of {h : Supply} := fun e => leads_of (h := h)
        ((decidePumpOn_state (s := closed) disabled).trans (congrArg closed.setHs e))
    exact ⟨fun ready => set_of (if_pos ready),
      fun off => set_of ((if_neg (by rw [show closed.hs.pump = _ from off]; decide)).trans
        ((if_pos off).trans (start on off _))),
      fun r o => set_of ((if_neg r).trans (if_neg o))⟩
  · intro c closed leads off
    have leads_of {h : Supply} (e : (decidePumpOff closed).1 = closed.setHs h) : leads h :=
      decides_owner (r := .pumpOff) rfl empty rfl (decidePumpOff_eq e)
    refine ⟨fun disabled => leads_of (if_pos disabled), fun enabled => ?_⟩
    have set_of {h : Supply} := fun e => leads_of (h := h)
        ((decidePumpOff_state (s := closed) enabled).trans (congrArg closed.setHs e))
    refine ⟨fun stops => set_of (if_pos stops), fun ready holds => set_of ((if_neg ?_).trans (if_pos ready)),
      fun r u => set_of ((if_neg ?_).trans (if_neg r))⟩
    · rintro (runUp | ⟨-, free⟩)
      · exact absurd (ready.symm.trans runUp) (by decide)
      · exact holds free
    · rintro (runUp | ⟨ready, -⟩)
      · exact u runUp
      · exact r ready
  · intro c h ready
    have effect {t : State} (e : h.runUpExpired = t) : Becomes c s t := becomes_of rfl e
    unfold State.runUpExpired at effect
    refine ⟨fun runUp => ?_, fun other => effect (if_pos other)⟩
    rw [if_neg (show ¬h.hs.pump ≠ .runUp from not_not_intro runUp)] at effect
    exact ⟨fun pressure asked => effect ((if_pos pressure).trans (if_pos asked)),
      fun pressure quiet => effect ((if_pos pressure).trans (if_neg (ne_true_of_eq_false quiet))),
      fun noPressure => effect (if_neg (ne_true_of_eq_false noPressure))⟩
  · intro c h
    refine ⟨fun lockout => becomes_of rfl ((if_neg (not_not_intro lockout)).trans ?_),
      fun other => becomes_of rfl (if_pos other)⟩
    exact congrArg h.setHs (start { s.hs with pump := .off, lockoutTimer := none } rfl s.sm.estopLatch)
  · intro c h runs
    have effect {t : State} (e : h.idleExpired = t) : Becomes c s t := becomes_of rfl e
    unfold State.idleExpired at effect
    rw [show h.hs = s.hs from rfl] at effect
    refine ⟨fun ⟨timed, ready, free⟩ => effect ?_, fun no => effect ?_⟩
    · obtain ⟨ms, e⟩ := Option.isSome_iff_exists.mp timed
      rw [e]
      exact if_pos ⟨ready, free⟩
    · split
      · rename_i ms e
        exact if_neg fun ⟨ready, free⟩ => no ⟨by rw [e]; rfl, ready, free⟩
      · rfl
  · intro c h lost
    refine ⟨fun ready => ?_, fun other => becomes_of rfl (State.pressureFails_other (s := h) other faultFirst)⟩
    obtain ⟨first, second⟩ := State.pressureFails_ready (s := h) ready
    rw [show h.hs = s.hs from rfl] at first second
    refine ⟨fun free => ?_, fun x held => ?_⟩
    · rw [free] at first second
      exact ⟨fun order => becomes_of rfl (by rw [order]; exact first),
        fun order => becomes_of rfl (by rw [order]; exact second)⟩
    · intro told
      have revoked (y : State) : y.holderRevoked s.hs.holder = told y := by
        rw [held]
        cases x <;> rfl
      rw [revoked] at first second
      exact ⟨fun order => becomes_of rfl (by rw [order]; exact first),
        fun order => becomes_of rfl (by rw [order]; exact second)⟩
  · rfl
  · intro armed rests asks stops ran
    have recovers (x : CutStation) (state : x.state = .recover) : (s.setCs x).recoverRequest = asks (s.setCs x) := by
      unfold State.recoverRequest
      by_cases latch : s.sm.estopLatch = true
      · rw [if_neg fun ⟨_, clear⟩ => absurd (show s.sm.estopLatch = false from clear) (ne_false_of_eq_true latch)]
        exact (if_pos latch).symm
      · rw [if_pos ⟨state, Bool.eq_false_iff.mpr latch⟩]
        exact (if_neg latch).symm
    have knife : s.stopKnife = stops := recovers s.cs.knifeStopped rfl
    have open_stops : stops.runOpen = s.runOpen := by
      rw [← knife]
      exact (supplyKeeps_stopKnife s).runOpen
    refine ⟨fun short => ?_, fun x cycle left => ⟨fun back clean => ?_, fun back late => ?_⟩, fun returning => ?_,
      fun recover => ?_, fun recover => ?_⟩
    · unfold State.csRevoked
      rcases short with e | e <;> rw [e] <;> rfl
    · have ends : s.csRevoked = stops.cycleAborted x := by
        unfold State.csRevoked
        rcases back with e | e
        · rw [e, knife, cycle, ← State.cycleCut_left left]
        · rw [e, CutStation.timedOut_of cycle, decide_eq_false clean, knife, cycle, ← State.cycleCut_left left]
          rfl
      have told : stops.cycleTold x = stops.applyAborted x := if_neg clean
      rw [ends, ← told]
      exact ⟨fun run => State.cycleAborted_run ⟨run.1, open_stops.trans run.2⟩,
        fun alone => State.cycleAborted_alone fun run => alone ⟨run.1, open_stops.symm.trans run.2⟩⟩
    · have ends : s.csRevoked = (rests .fault .closed s.cs.pendingDone).cycleAborted x := by
        unfold State.csRevoked
        rw [back, CutStation.timedOut_of cycle, decide_eq_true late, cycle, ← State.cycleCut_left left]
        rfl
      have told : (rests .fault .closed s.cs.pendingDone).cycleTold x = _ := if_pos late
      rw [ends]
      intro t
      rw [show t = (rests .fault .closed s.cs.pendingDone).cycleTold x from told.symm]
      exact ⟨fun run => State.cycleAborted_run run, fun alone => State.cycleAborted_alone alone⟩
    · unfold State.csRevoked State.returnCut
      rw [returning]
      exact recovers { s.cs.knifeStopped with pendingDone := s.cs.cycle } rfl
    · unfold State.csRevoked
      rw [recover]
      exact recovers { s.cs with knifeValve := .rest } recover
    · unfold State.csGranted
      rw [recover]

end Sys2Proof.Machine
end

section
/-! PROOFS. The pile lift: NEW_PILE, LIFT_LOWER, the ends of a raise (R141 to R145, R149). -/

namespace Sys2Proof.Machine

/-- A body that is one field. -/
theorem fieldAt_whole {b : List Byte} {n : Nat} (h : b.length = n) : fieldAt b 0 n = leNat b := by
  unfold fieldAt
  rw [List.drop_zero, List.take_of_length_le h.le]

/-! ### NEW_PILE and LIFT_LOWER (R143, R145) -/

/-- NEW_PILE on its fields. -/
theorem decideNewPile_eq {body : List Byte} {w ls : Nat} (s : State) (ew : fieldAt body 0 4 = w)
    (els : fieldAt body 4 4 = ls) :
    decideNewPile body s =
      if w = 0 ∨ 132000 < w ∨ ls = 0 ∨ 124000 < ls then (s, ([0x05] : List Byte))
      else if (s.pl.state ≠ .noPile ∧ s.pl.state ≠ .lowered ∧ s.pl.state ≠ .lowering) ∨ s.pr.lineHalt = true then
        (s, [0x04])
      else if s.pl.state = .lowering then (s, [0x02])
      else if s.sm.estopLatch = true then (s, [0x0C])
      else ((s.setPl { s.pl with pile := some ⟨w, ls, 0, 0, 0, 0, 0⟩ }).startRaise .initial, [0x00]) := by
  subst ew els
  unfold decideNewPile
  dsimp only
  rw [firstRefusal_step decide_eq_true_iff, firstRefusal_step (or_true_iff
      (p := s.pl.state ≠ .noPile ∧ s.pl.state ≠ .lowered ∧ s.pl.state ≠ .lowering)
      (by cases s.pl.state <;> simp) Iff.rfl),
    firstRefusal_step decide_eq_true_iff, firstRefusal_step Iff.rfl, firstRefusal_nil]
  simp only [Config.lmax, Config.gmax]
  split_ifs <;> rfl

theorem Lift.moving_iff (l : Lift) : l.moving = true ↔ l.state = .raising ∨ l.state = .lowering := decide_eq_true_iff

/-- LIFT_LOWER. -/
theorem decideLiftLower_eq (s : State) :
    let t :=
      (s.setPl { s.pl with state := .lowering, raising := none, pile := none, lowerValve := true }).setJg s.slotForLower
    decideLiftLower s =
      if s.pl.state = .raising ∨ s.pl.state = .lowering ∨ s.jg.state = .waitHeight then (s, [0x02])
      else if s.sm.estopLatch = true then (s, [0x0C])
      else (if s.lines.floorStop then t.reachedFloor else t, [0x00]) := by
  intro t
  unfold decideLiftLower
  rw [firstRefusal_step ((or_true_iff (Lift.moving_iff _) decide_eq_true_iff).trans or_assoc),
      firstRefusal_step Iff.rfl,
    firstRefusal_nil]
  cases s.lines.floorStop <;> split_ifs <;> rfl

/-! ### The ends of a raise (R141, R142) -/

/-- A raise under the grant ends. -/
theorem State.raiseEnded_under {s : State} (raising : s.pl.state = .raising) (holds : s.hs.holder = some .lift)
    (m : Nat) :
    s.raiseEnded m = (s.raiseMeasured m).release .lift := if_pos ⟨raising, holds⟩

theorem State.raiseEnded_other {s : State} (other : s.pl.state ≠ .raising ∨ s.hs.holder ≠ some .lift) (m : Nat) :
    s.raiseEnded m = s := if_neg fun ⟨raising, holds⟩ => other.elim (· raising) (· holds)

/-- A take-off times out: fault, the slot with an unknown height, and the notices. -/
theorem State.raiseTimedOut_takeOff {s : State} (takeOff : s.pl.raising = some .takeOff) :
    s.raiseTimedOut =
      (((((s.setPl { s.pl with state := .fault, raising := none, raiseTimer := none, raiseValve := false }).setJg
        (s.jg.withHeight .unknown)).reportFault .liftTimeout s.pl.platform).infeedNotice .liftFault 0)).slotNotice
          (decide (s.jg.state = .waitHeight)) .slotReady := by
  unfold State.raiseTimedOut
  rw [decide_eq_true takeOff]
  rfl

theorem State.raiseTimedOut_initial {s : State} (initial : s.pl.raising = some .initial) :
    s.raiseTimedOut =
      (((s.setPl { s.pl with state := .fault, raising := none, raiseTimer := none, raiseValve := false }).reportFault
        .liftTimeout s.pl.platform).infeedNotice .liftFault 0) := by
  unfold State.raiseTimedOut
  rw [decide_eq_false (p := s.pl.raising = some .takeOff) (by rw [initial]; decide)]
  rfl

/-- Settles O55: the two requests, the floor stop, the measured ends and the timed-out one. -/
theorem pilesAreDeclaredRaisedAndLowered : Obligations.PilesAreDeclaredRaisedAndLowered := by
  unfold Obligations.PilesAreDeclaredRaisedAndLowered
  intro settled
  have settled_eq (j : Jogger) (h : SlotHeight) : j.withHeight h = settled j h := by
    obtain ⟨state, _⟩ := j
    cases state <;> rfl
  refine ⟨fun s m tag a b four four' empty => ?_, fun s m tag empty => ?_, fun s m => ?_, fun s m c h n row => ?_,
    fun s m => ?_⟩
  · intro c closed w ls fields barred
    have decides {t : State} {reply : List Byte} (e : decideNewPile (a ++ b) closed = (t, reply)) :
        Decides c s t reply := decides_owner (r := .newPile) rfl empty (by rw [List.length_append, four, four']; rfl) e
    have behind : fieldAt (a ++ b) 4 4 = ls := (fieldAt_behind four b 0 4).trans (fieldAt_whole four')
    have decided := decideNewPile_eq closed (fieldAt_front four b) behind
    have wrong : ¬fields ↔ w = 0 ∨ 132000 < w ∨ ls = 0 ∨ 124000 < ls := by
      change ¬(w ≠ 0 ∧ w ≤ 132000 ∧ ls ≠ 0 ∧ ls ≤ 124000) ↔ _
      omega
    have passed (ok : fields) := decided.trans (if_neg fun bad => wrong.mpr bad ok)
    have free (ok : fields) (able : ¬barred) := (passed ok).trans (if_neg able)
    have still (ok : fields) (able : ¬barred) (stands : s.pl.state ≠ .lowering) := (free ok able).trans (if_neg stands)
    exact ⟨fun bad => decides (decided.trans (if_pos (wrong.mp bad))),
      fun ok bar => decides ((passed ok).trans (if_pos bar)),
      fun ok able moves => decides ((free ok able).trans (if_pos moves)),
      fun ok able stands latch => decides ((still ok able stands).trans (if_pos latch)),
      fun ok able stands clear => decides ((still ok able stands).trans (if_neg (ne_true_of_eq_false clear)))⟩
  · intro c closed busy t
    have decides {u : State} {reply : List Byte} (e : decideLiftLower closed = (u, reply)) :
        Decides c s u reply := decides_owner (r := .liftLower) rfl empty rfl e
    have decided := decideLiftLower_eq closed
    dsimp only at decided
    have lowered : (closed.setPl
        { closed.pl with state := .lowering, raising := none, pile := none, lowerValve := true }).setJg
          closed.slotForLower = t := by
      unfold State.slotForLower
      rw [settled_eq]
      rfl
    rw [lowered] at decided
    have free (rest : ¬busy) := decided.trans (if_neg rest)
    have taken (rest : ¬busy) (clear : s.sm.estopLatch = false) :=
        (free rest).trans (if_neg (ne_true_of_eq_false clear))
    refine ⟨fun work => decides (decided.trans (if_pos work)),
      fun rest latch => decides ((free rest).trans (if_pos latch)),
      fun rest clear up => decides ((taken rest clear).trans ?_),
      fun rest clear down => decides ((taken rest clear).trans ?_)⟩
    · rw [show closed.lines.floorStop = false from up]
      rfl
    · rw [show closed.lines.floorStop = true from down]
      rfl
  · intro c h
    exact ⟨fun lowering => becomes_of rfl (if_pos lowering), fun other => becomes_of rfl (if_neg other)⟩
  · intro raised
    have blocks : h.pl.state = s.pl.state ∧ h.hs = s.hs ∧ h.pl.raising = s.pl.raising ∧ h.pl.pile = s.pl.pile ∧
        h.jg = s.jg := by
      rcases row with ⟨-, e, -⟩ | ⟨-, e, -⟩ <;> rw [e] <;> exact ⟨rfl, rfl, rfl, rfl, rfl⟩
    obtain ⟨state, hs, kind, record, slot⟩ := blocks
    have ends {t : State} (e : h.raiseEnded n = t) : Becomes c s t := by
      rcases row with ⟨rfl, rfl, rfl⟩ | ⟨rfl, rfl, rfl⟩
      · exact becomes_of rfl e
      · exact becomes_of rfl e
    refine ⟨fun raising holds p pile => ?_, fun other =>
      ends (State.raiseEnded_other (by rw [state, hs]; exact other) n)⟩
    have measured := State.raiseEnded_under (state.trans raising) (by rw [hs]; exact holds) n
    refine ⟨fun initial => ends (measured.trans ?_), fun takeOff => ?_⟩
    · rw [State.raiseMeasured_initial n (record.trans pile) (kind.trans initial)]
      rfl
    · intro known q t
      have height : p.takeOffHeight n = if known then .known (p.hc - n) else .unknown := rfl
      rw [State.raiseMeasured_takeOff n (record.trans pile) (kind.trans takeOff), settled_eq, height, slot] at measured
      refine ⟨fun waits => ends (measured.trans ?_), fun other => ends (measured.trans ?_)⟩
      · rw [State.slotNotice_changed _ _ waits]
        rfl
      · rw [State.slotNotice_unchanged _ _ other]
        rfl
  · intro c h fault
    have effect {t : State} (e : h.raiseExpired = t) : Becomes c s t := becomes_of rfl e
    refine ⟨fun raising holds => ?_, fun other => effect (if_neg fun ⟨raising, holds⟩ =>
      other.elim (· raising) (· holds))⟩
    have expired : h.raiseExpired = h.raiseTimedOut.release .lift := if_pos ⟨raising, holds⟩
    refine ⟨fun initial => effect (expired.trans ?_), fun takeOff => ?_⟩
    · rw [State.raiseTimedOut_initial (s := h) initial]
      rfl
    · intro t
      rw [State.raiseTimedOut_takeOff (s := h) takeOff, settled_eq] at expired
      refine ⟨fun waits => effect (expired.trans ?_), fun other => effect (expired.trans ?_)⟩
      · rw [State.slotNotice_changed _ _ (show h.jg.state = .waitHeight from waits)]
        rfl
      · rw [State.slotNotice_unchanged _ _ (show ¬h.jg.state = .waitHeight from other)]
        rfl

end Sys2Proof.Machine
end

section
/-! PROOFS. The jogger: JOG_START by request and button, a jog cycle's end, the discard, an emergency stop, and the
INFEED
notice (R147 to R151, R154). -/

namespace Sys2Proof.Machine

/-! ### JOG_START (R147) -/

theorem decideJog_other {mode : Byte} (high : 1 < mode.toNat) (s : State) : decideJog [mode] s = (s, [0x05]) := by
  unfold decideJog
  rw [fieldAt_head]
  split
  · omega
  · omega
  · rfl

/-- A start the table has a row for. -/
theorem decideJogStart_row {s t : State} (row : s.jogStarted = some t) :
    decideJogStart s =
      if s.pr.lineHalt = true then (s, [0x04])
      else if s.sm.estopLatch = true then (s, [0x0C])
      else (t, 0x00 :: (leBytes 1 t.jg.state.code ++ leBytes 1 t.pl.state.code)) := by
  unfold decideJogStart
  rw [row]
  rfl

/-- A start the table has no row for. -/
theorem decideJogStart_none {s : State} (none : s.jogStarted = none) :
    decideJogStart s = (s, [if s.pr.lineHalt then 0x04 else 0x02]) := by
  unfold decideJogStart
  rw [none]
  cases s.pr.lineHalt <;> rfl

theorem State.jogButton_eq (s : State) :
    s.jogButton = if s.pr.lineHalt = true ∨ s.sm.estopLatch = true then s else s.jogStarted.getD s :=
  if_congr (by rw [Bool.or_eq_true]) rfl rfl

/-- The jog that starts, with a height. -/
def State.jogsWith (s : State) (h : SlotHeight) : State :=
  s.setJg
    { s.jg with
      height := h
      state := .jogging
      retries := 0
      cycles := 1
      vibrator := true
      timer := some (s.ps.settings.jogTime * 1000) }

/-- The rows of an EMPTY slot. -/
theorem State.jogStarted_empty {s : State} (empty : s.jg.state = .empty) :
    s.jogStarted =
      if s.pl.state = .atTransfer then some ((s.jogsWith .pending).startRaise .takeOff)
      else if s.pl.state = .noPile ∨ s.pl.state = .exhausted ∨ s.pl.state = .lowering ∨ s.pl.state = .lowered then
        some (s.jogsWith .unknown)
      else none := by
  unfold State.jogStarted
  rw [empty]
  cases s.pl.state <;> rfl

/-- The row of a STOPPED slot. -/
theorem State.jogStarted_stopped {s : State} (stopped : s.jg.state = .stopped) :
    s.jogStarted =
      some
        (if s.jg.height = .pending ∧ s.pl.state = .stopped ∧ s.pl.raising = some .takeOff then
          (s.jogsWith s.jg.height).startRaise .takeOff
        else s.jogsWith s.jg.height) := by
  unfold State.jogStarted
  rw [stopped]
  cases s.pl.state <;> rfl

theorem State.jogStarted_none {s : State} (empty : s.jg.state ≠ .empty) (stopped : s.jg.state ≠ .stopped) :
    s.jogStarted = none := by
  unfold State.jogStarted
  cases slot : s.jg.state
  case empty => exact absurd slot empty
  case stopped => exact absurd slot stopped
  all_goals rfl

/-! ### The discard (R150) -/

theorem State.loadStands_iff (s : State) :
    s.loadStands = true ↔
      s.runOpen = true ∧ (s.pr.phase = .retract ∨ s.pr.phase = .placeWait) ∧
        ∃ r, s.currentStep = some r ∧ r.kind = .load := by
  unfold State.loadStands State.stepKind
  rw [Bool.and_eq_true, decide_eq_true_iff, Option.map_eq_some_iff]

/-- The discard of JOG_START. -/
theorem decideDiscard_eq (s : State) :
    decideDiscard s =
      if (s.jg.state = .ready ∨ s.jg.state = .stopped ∨ s.jg.state = .failed) ∧ s.jg.height ≠ .pending ∧
          ¬s.loadStands = true then
        (s.slotEmptied, 0x00 :: 0x00 :: leBytes 1 s.pl.state.code)
      else (s, [0x04]) := by
  unfold decideDiscard
  cases s.jg.state <;> cases s.loadStands <;> by_cases pending : s.jg.height = .pending <;> simp [pending] <;> rfl

/-! ### The end of a jog cycle (R148) -/

theorem edgePattern_eq (m : Lines) :
    edgePattern m =
      if m.sideAligned = true then (if m.backAligned = true then 0 else 2)
      else if m.backAligned = true then 1 else 3 := by
  unfold edgePattern
  cases m.sideAligned <;> cases m.backAligned <;> rfl

/-! ### The emergency stop (R151) and the notice (R154) -/

theorem Lift.stopped_eq (l : Lift) :
    l.stopped =
      if l.state = .raising then { l with state := .stopped, raiseTimer := none, raiseValve := false }
      else if l.state = .lowering then { l with state := .stopped, lowerValve := false }
      else l := by
  obtain ⟨state, _⟩ := l
  cases state <;> rfl

/-- A lift that does not move is not changed by an emergency stop. -/
theorem Lift.stopped_still {l : Lift} (still : ¬(l.state = .raising ∨ l.state = .lowering)) : l.stopped = l := by
  rw [Lift.stopped_eq, if_neg fun e => still (.inl e), if_neg fun e => still (.inr e)]

/-! ### O56 -/

/-- Settles O56: the start row by row, the discard, the cycle's end, the emergency stop, and the notice. -/
theorem jogsStartRunAndEnd : Obligations.JogsStartRunAndEnd := by
  refine ⟨fun s m tag => ?_, fun s m tag empty => ?_, fun s m tag mode empty high => ?_, fun s m => ?_, fun s => ?_,
    fun s e x => ?_⟩
  · intro request button closed jogs raises acts still again
    have request_of {t : State} {body : List Byte} (empty : s.li.queue = []) (e : decideJogStart closed = (t, body)) :
        Decides request s t body := decides_owner (r := .jogStart) rfl empty rfl e
    have acts_of {g : State → State} (h : ∀ x : State, x.jg = s.jg → x.pl.state = s.pl.state →
        x.pl.raising = s.pl.raising → x.ps.settings = s.ps.settings → x.jogStarted = some (g x)) : acts g := by
      have decided := decideJogStart_row (h closed rfl rfl rfl rfl)
      have pressed := (s.sample m).jogButton_eq
      rw [h (s.sample m) rfl rfl rfl rfl] at pressed
      refine ⟨fun empty => ⟨fun halted => request_of empty (decided.trans (if_pos halted)), fun free latch => ?_,
        fun free clear => ?_⟩, fun off => becomes_of rfl (pressed.trans (if_pos off)), fun free clear => ?_⟩
      · exact request_of empty (decided.trans ((if_neg (ne_true_of_eq_false free)).trans (if_pos latch)))
      · exact request_of empty (decided.trans ((if_neg (ne_true_of_eq_false free)).trans
          (if_neg (ne_true_of_eq_false clear))))
      · exact becomes_of rfl (pressed.trans (if_neg (not_or.mpr ⟨ne_true_of_eq_false free, ne_true_of_eq_false clear⟩)))
    clear_value acts
    have jogsWith {x : State} (jg : x.ps.settings = s.ps.settings) (h : SlotHeight) : x.jogsWith h = jogs x h := by
      unfold State.jogsWith
      rw [jg]
    refine ⟨fun empty atTransfer => acts_of fun x jg lift raising settings => ?_,
      fun empty stands => acts_of fun x jg lift raising settings => ?_,
      fun stopped pending => acts_of fun x jg lift raising settings => ?_,
      fun stopped other => acts_of fun x jg lift raising settings => ?_, fun noRow stopped => ?_⟩
    · rw [State.jogStarted_empty (by rw [jg, empty]), lift, if_pos atTransfer, jogsWith settings]
      rfl
    · rw [State.jogStarted_empty (by rw [jg, empty]), lift, if_neg, if_pos stands, jogsWith settings]
      rintro e
      rcases stands with k | k | k | k <;> exact absurd (k.symm.trans e) (by decide)
    · rw [State.jogStarted_stopped (by rw [jg, stopped]), lift, raising, jg, if_pos pending, jogsWith settings]
      rfl
    · rw [State.jogStarted_stopped (by rw [jg, stopped]), lift, raising, jg, if_neg other, jogsWith settings]
    · have none (x : State) (jg : x.jg = s.jg) (lift : x.pl.state = s.pl.state) : x.jogStarted = none := by
        by_cases empty : s.jg.state = .empty
        · rw [State.jogStarted_empty (by rw [jg, empty]), lift, if_neg fun e => noRow ⟨empty, .inl e⟩,
            if_neg fun e => noRow ⟨empty, .inr e⟩]
        · exact State.jogStarted_none (by rw [jg]; exact empty) (by rw [jg]; exact stopped)
      refine ⟨fun empty => request_of empty (decideJogStart_none (none closed rfl rfl)), becomes_of rfl ?_⟩
      rw [State.jogButton_eq, none (s.sample m) rfl rfl]
      exact ite_self _
  · intro c closed stands free
    have decides {t : State} {body : List Byte} (e : decideDiscard closed = (t, body)) : Decides c s t body :=
      decides_owner (r := .jogStart) rfl empty rfl e
    have stands_iff : closed.loadStands = true ↔ stands := closed.loadStands_iff
    have decided := decideDiscard_eq closed
    have free_iff : ((s.jg.state = .ready ∨ s.jg.state = .stopped ∨ s.jg.state = .failed) ∧ s.jg.height ≠ .pending ∧
        ¬closed.loadStands = true) ↔ free := by rw [stands_iff]
    exact ⟨fun ok => decides (decided.trans (if_pos (free_iff.mpr ok))),
      fun bad => decides (decided.trans (if_neg (mt free_iff.mp bad)))⟩
  · exact decides_owner (r := .jogStart) rfl empty rfl (decideJog_other high _)
  · intro c h pattern still
    have pattern_eq : edgePattern h.lines = pattern := edgePattern_eq m
    have effect {t : State} (e : h.jogExpired = t) : Becomes c s t := becomes_of rfl e
    refine ⟨fun jogging => ?_, fun other => effect (if_pos other)⟩
    have running : h.jogExpired = _ := if_neg (not_not_intro jogging)
    rw [pattern_eq] at running
    refine ⟨fun aligned pending => effect (running.trans ((if_pos aligned).trans (if_pos pending))),
      fun aligned known => effect (running.trans ((if_pos aligned).trans (if_neg known))),
      fun askew left => effect (running.trans ((if_neg askew).trans (if_pos left))),
      fun askew spent => effect (running.trans ((if_neg askew).trans (if_neg (Nat.not_lt.mpr spent))))⟩
  · intro moves stops lift slot
    have moves_iff : s.pl.moving = true ↔ moves := Lift.moving_iff s.pl
    have stops_iff : s.slotStops = true ↔ stops := decide_eq_true_iff
    have lift_eq : s.pl.stopped = lift := Lift.stopped_eq s.pl
    unfold State.infeedEstop State.slotNotice
    refine ⟨fun m st => ?_, fun m st => ?_, fun m st => ?_, fun m st => ?_⟩
    · rw [lift_eq, if_pos (moves_iff.mpr m), if_pos (stops_iff.mpr st), if_pos (stops_iff.mpr st)]
      rfl
    · rw [lift_eq, if_pos (moves_iff.mpr m), if_neg (mt stops_iff.mp st), if_neg (mt stops_iff.mp st)]
      rfl
    · rw [Lift.stopped_still m, if_neg (mt moves_iff.mp m), if_pos (stops_iff.mpr st), if_pos (stops_iff.mpr st)]
      rfl
    · rw [Lift.stopped_still m, if_neg (mt moves_iff.mp m), if_neg (mt stops_iff.mp st), if_neg (mt stops_iff.mp st)]
      rfl
  · intro p
    unfold State.infeedNotice Jogger.heightOnLink
    cases s.jg.height <;> rfl

end Sys2Proof.Machine
end

section
/-! PROOFS. The turner's requests: TURN_NOW (R160) and TURNER_PARK (R162). -/

namespace Sys2Proof.Machine

/-! ### Handing and resuming (R156, R159) -/

/-- A handing short of its position checks. -/
theorem State.handRefusal_calm {s : State} (free : s.pr.lineHalt = false) (clear : s.sm.estopLatch = false)
    (guard : s.guardOpen = false) (r : Int) : s.handRefusal r = s.clearRefusal r :=
  (if_neg (ne_true_of_eq_false free)).trans
    ((if_neg (ne_true_of_eq_false clear)).trans (if_neg (ne_true_of_eq_false guard)))

theorem State.clearRefusal_notReferenced {s : State} (unknown : s.bg.referenced = false) (r : Int) :
    s.clearRefusal r = some .notReferenced := if_pos unknown

theorem State.clearRefusal_notClear {s : State} {r : Int} (known : s.bg.referenced = true)
    (short : s.gaugeBusy = true ∨ s.bg.actual < r - 2) : s.clearRefusal r = some .notClear :=
  (if_neg (ne_false_of_eq_true known)).trans (if_pos short)

theorem State.clearRefusal_none {s : State} {r : Int} (known : s.bg.referenced = true) (still : s.gaugeBusy = false)
    (room : r - 2 ≤ s.bg.actual) : s.clearRefusal r = none :=
  (if_neg (ne_false_of_eq_true known)).trans
    (if_neg (not_or.mpr ⟨ne_true_of_eq_false still, Int.not_lt.mpr room⟩))

theorem State.cutterHome_iff (s : State) : s.cutterHome = true ↔ s.lines.clampUp = true ∧ s.lines.knifeTop = true := by
  unfold State.cutterHome
  rw [Bool.and_eq_true]

/-- A turn that grips asks for the grant with clamp and knife up. -/
theorem State.gripRequest_gripping {s : State} (gripping : s.pt.state = .gripping) :
    s.gripRequest = if s.lines.clampUp = true ∧ s.lines.knifeTop = true then s.request .turn else s := by
  refine if_congr ?_ rfl rfl
  rw [State.cutterHome_iff]
  exact ⟨And.right, And.intro gripping⟩

theorem Turner.releaseCut_iff {t : Turner} {r : TurnRec} (record : t.record = some r) :
    t.releaseCut = true ↔ r.interrupted = some .release := by
  unfold Turner.releaseCut
  rw [record]
  exact decide_eq_true_iff

/-! ### TURN_NOW (R160) -/

/-- The clearance position of a tracked TURN_NOW. -/
theorem State.turnNowClearance_tracked {s : State} (tracked : s.gt.openLoad.isSome = true) :
    (∀ t, s.gt.table = some t → max t.len t.depth + s.ps.settings.turnClearance ≤ 124000 →
      s.turnNowClearance = .ok ((max t.len t.depth + s.ps.settings.turnClearance : Nat) : Int)) ∧
    ((∀ t, s.gt.table = some t → 124000 < max t.len t.depth + s.ps.settings.turnClearance) →
      s.turnNowClearance.isOk = false) := by
  unfold State.turnNowClearance State.checkTurn
  rw [if_pos tracked]
  constructor
  · intro t table room
    rw [table]
    exact if_neg (by simp only [Config.gmax]; omega)
  · intro high
    cases table : s.gt.table with
    | none => rfl
    | some t =>
      dsimp only
      rw [if_pos]
      · rfl
      · have := high t table
        simp only [Config.gmax]
        omega

theorem State.turnNowClearance_untracked {s : State} (untracked : s.gt.openLoad.isSome = false) :
    s.turnNowClearance = .ok 124000 := by
  unfold State.turnNowClearance
  rw [untracked]
  rfl

/-- The checks of a TURN_NOW fail exactly when its load cannot be turned. -/
theorem State.turnNowClearance_fails (s : State) :
    s.turnNowClearance.isOk = false ↔
      s.gt.openLoad.isSome = true ∧
        ∀ t, s.gt.table = some t → 124000 < max t.len t.depth + s.ps.settings.turnClearance := by
  cases tracked : s.gt.openLoad.isSome with
  | false =>
    rw [State.turnNowClearance_untracked tracked]
    exact ⟨fun e => (by cases e), fun e => (by cases e.1)⟩
  | true =>
    obtain ⟨passes, fails⟩ := State.turnNowClearance_tracked tracked
    refine ⟨fun e => ⟨rfl, fun t table => Nat.not_le.mp fun room => ?_⟩, fun e => fails e.2⟩
    rw [passes t table room] at e
    cases e

/-- TURN_NOW on its byte. -/
theorem decideTurnNow_eq (n : Byte) (s : State) :
    decideTurnNow [n] s =
      if n.toNat < 1 ∨ 3 < n.toNat then (s, ([0x05] : List Byte))
      else if s.runOpen = true then (s, [0x03])
      else if s.pr.lineHalt = true ∨ s.turnNowClearance.isOk = false then (s, [0x04])
      else if s.pt.state ≠ .parked ∨ s.manualInFlight = true ∨ s.cs.state ≠ .ready ∨ s.gaugeBusy = true ∨
          s.bg.slot ≠ none then (s, [0x02])
      else if s.bg.referenced = false then (s, [0x0B])
      else if s.sm.estopLatch = true ∨ s.guardOpen = true then (s, [0x0C])
      else
        match s.turnNowClearance with
        | .ok r => (s.turnNowTaken n.toNat r, 0x00 :: (leInt 4 r ++ leBytes 2 s.loadId))
        | .error _ => (s, [0x04]) := by
  unfold decideTurnNow
  rw [fieldAt_head]
  dsimp only
  simp only [Bool.or_assoc]
  rw [firstRefusal_step decide_eq_true_iff, firstRefusal_step Iff.rfl,
    firstRefusal_step (or_true_iff Iff.rfl not_true_iff),
    firstRefusal_step (or_true_iff decide_eq_true_iff (or_true_iff Iff.rfl (or_true_iff decide_eq_true_iff
      (or_true_iff Iff.rfl (isSome_iff_ne _))))),
    firstRefusal_step not_true_iff, firstRefusal_step (or_true_iff Iff.rfl Iff.rfl), firstRefusal_nil]
  generalize s.turnNowClearance = x
  cases x <;> split_ifs <;> rfl

/-- The retract of a TURN_NOW is complete and nothing refuses its turn: the turn is gripped (R161 point 1). -/
theorem State.manualTurnRetracted_taken {s : State} {m : ManualTurn} (manual : s.pt.manual = some m)
    (able : s.handRefusal m.clearance = none) (parked : s.pt.state = .parked) :
    s.manualTurnRetracted =
      (s.setPt
        { s.pt with
          manual := some { m with stage := .turn }
          state := .gripping
          record := some ⟨.turnNow, m.tracked, m.loadId, m.quarters, 0, m.clearance, none⟩ }).gripRequest := by
  unfold State.manualTurnRetracted
  rw [manual]
  dsimp only
  rw [able]
  exact if_pos parked

/-- The retract of a TURN_NOW that is to move. -/
theorem State.turnNowTaken_moves {s : State} {n : Nat} {r : Int} (short : s.bg.actual < r - 2) :
    ∃ v, (s.setPt { s.pt with manual := some ⟨n, r, s.gt.openLoad.isSome, s.loadId, .retract, false⟩ }).retract
        .manualTurn r = .moving v ∧ s.turnNowTaken n r = v := by
  have moves : (s.setPt
      { s.pt with manual := some ⟨n, r, s.gt.openLoad.isSome, s.loadId, .retract, false⟩ }).retract .manualTurn r = _ :=
    if_pos short
  refine ⟨_, moves, ?_⟩
  unfold State.turnNowTaken
  dsimp only
  rw [moves]

/-- The retract of a TURN_NOW that completes at once: the turn is gripped. -/
theorem State.turnNowTaken_grips {s : State} {n : Nat} {r : Int} (room : r - 2 ≤ s.bg.actual)
    (parked : s.pt.state = .parked) (able : (s.setBg { s.bg with inPos := false }).handRefusal r = none) :
    let x : ManualTurn := ⟨n, r, s.gt.openLoad.isSome, s.loadId, .retract, false⟩
    let w := s.setPt { s.pt with manual := some x }
    let g := (w.setBg { w.bg with inPos := false }).setPt
      { s.pt with
        manual := some { x with stage := .turn }
        state := .gripping
        record := some ⟨.turnNow, x.tracked, x.loadId, x.quarters, 0, x.clearance, none⟩ }
    s.turnNowTaken n r = g.gripRequest := by
  intro x w g
  have completes : w.retract .manualTurn r = .completed (w.setBg { w.bg with inPos := false }) false :=
    if_neg (Int.not_lt.mpr room)
  have grips : (w.setBg { w.bg with inPos := false }).manualTurnRetracted = _ :=
    State.manualTurnRetracted_taken (m := x) rfl able parked
  unfold State.turnNowTaken
  dsimp only
  rw [show s.setPt _ = w from rfl, completes]
  exact grips

/-! ### TURNER_PARK (R162) -/

/-- TURNER_PARK. -/
theorem decideTurnerPark_eq (s : State) :
    decideTurnerPark s =
      if s.runOpen = true then (s, ([0x03] : List Byte))
      else if (s.pt.state ≠ .interrupted ∧ s.pt.state ≠ .fault) ∨ (s.pt.state = .interrupted ∧ s.pr.lineHalt = true)
      then
        (s, [0x04])
      else if s.manualInFlight = true ∨ s.gaugeBusy = true then (s, [0x02])
      else if s.sm.estopLatch = true ∨ s.guardOpen = true then (s, [0x0C])
      else if s.pt.state = .interrupted then
        match s.pt.record.bind fun r => s.handRefusal r.clearance with
        | some why => (s, [why.status.code])
        | none => (s.turnResumed, [0x00, byteOf s.turnResumed.pt.state.code])
      else
        let t := (s.setPt { s.pt with state := .releasing, parkFromFault := true }).request .turn
        (t, [0x00, byteOf t.pt.state.code]) := by
  unfold decideTurnerPark
  dsimp only
  rw [firstRefusal_step Iff.rfl, firstRefusal_step (or_true_iff
      (p := s.pt.state ≠ .interrupted ∧ s.pt.state ≠ .fault) (by cases s.pt.state <;> simp)
      (and_true_iff decide_eq_true_iff Iff.rfl)),
    firstRefusal_step (or_true_iff Iff.rfl Iff.rfl), firstRefusal_step (or_true_iff Iff.rfl Iff.rfl), firstRefusal_nil]
  simp only [decide_eq_true_eq]
  split_ifs <;> rfl

/-- Settles O57: the refusals in order, and what the two requests start. -/
theorem turnNowAndTurnerParkAreTakenOrRefused : Obligations.TurnNowAndTurnerParkAreTakenOrRefused := by
  refine ⟨fun s m tag n empty => ?_, fun s m tag empty => ?_⟩
  · intro c closed tracked fails barred busy danger fields
    have decides {t : State} {body : List Byte} (e : decideTurnNow [n] closed = (t, body)) : Decides c s t body :=
      decides_owner (r := .turnNow) rfl empty rfl e
    have decided := decideTurnNow_eq n closed
    have wrong : ¬fields ↔ n.toNat < 1 ∨ 3 < n.toNat := by
      change ¬(1 ≤ n.toNat ∧ n.toNat ≤ 3) ↔ _
      omega
    have barred_iff : barred ↔ closed.pr.lineHalt = true ∨ closed.turnNowClearance.isOk = false := by
      rw [State.turnNowClearance_fails]
      exact Iff.rfl
    have passed (ok : fields) := decided.trans (if_neg fun bad => wrong.mpr bad ok)
    have free (ok : fields) (idle : s.runOpen = false) := (passed ok).trans (if_neg (ne_true_of_eq_false idle))
    have able (ok : fields) (idle : s.runOpen = false) (may : ¬barred) :=
      (free ok idle).trans (if_neg fun bar => may (barred_iff.mpr bar))
    have still (ok : fields) (idle : s.runOpen = false) (may : ¬barred) (rest : ¬busy) :=
      (able ok idle may).trans (if_neg rest)
    have known (ok : fields) (idle : s.runOpen = false) (may : ¬barred) (rest : ¬busy)
        (held : s.bg.referenced = true) :=
      (still ok idle may rest).trans (if_neg (ne_false_of_eq_true held))
    refine ⟨fun bad => decides (decided.trans (if_pos (wrong.mp bad))),
      fun ok run => decides ((passed ok).trans (if_pos run)),
      fun ok idle bar => decides ((free ok idle).trans (if_pos (barred_iff.mp bar))),
      fun ok idle may work => decides ((able ok idle may).trans (if_pos work)),
      fun ok idle may rest lost => decides ((still ok idle may rest).trans (if_pos lost)),
      fun ok idle may rest held block => decides ((known ok idle may rest held).trans (if_pos block)),
      fun ok idle may rest held calm r clearance => ?_⟩
    have position : closed.turnNowClearance = .ok (r : Int) := by
      rcases clearance with ⟨untracked, rfl⟩ | ⟨isTracked, t, table, rfl⟩
      · exact State.turnNowClearance_untracked untracked
      · refine (State.turnNowClearance_tracked (s := closed) isTracked).1 t table (Nat.not_lt.mp fun high => ?_)
        refine may (.inr ⟨isTracked, fun t' table' => ?_⟩)
        cases table.symm.trans table'
        exact high
    have taken := (known ok idle may rest held).trans (if_neg calm)
    rw [position] at taken
    dsimp only at taken
    intro reply x w
    refine ⟨fun short => ?_, fun room => ?_⟩
    · obtain ⟨v, moves, gives⟩ := State.turnNowTaken_moves (s := closed) (n := n.toNat) short
      exact ⟨v, moves, decides (taken.trans (congrArg (·, reply) gives))⟩
    · intro g
      have halt : s.pr.lineHalt = false := Bool.eq_false_iff.mpr fun e => may (.inl e)
      have latch : s.sm.estopLatch = false := Bool.eq_false_iff.mpr fun e => calm (.inl e)
      have guard : s.guardOpen = false := Bool.eq_false_iff.mpr fun e => calm (.inr e)
      have at_rest : s.gaugeBusy = false := Bool.eq_false_iff.mpr fun e => rest (.inr (.inr (.inr (.inl e))))
      have parked : s.pt.state = .parked := by_contra fun e => rest (.inl e)
      have able : (closed.setBg { closed.bg with inPos := false }).handRefusal (r : Int) = none :=
        (State.handRefusal_calm (by exact halt) (by exact latch) (by exact guard) _).trans
          (State.clearRefusal_none (by exact held) (by exact at_rest) (by exact room))
      have grips := State.turnNowTaken_grips (s := closed) (n := n.toNat) room parked able
      have asks : g.gripRequest = _ := State.gripRequest_gripping rfl
      exact decides (taken.trans (congrArg (·, reply) (grips.trans asks)))
  · intro c closed barred busy danger free
    have decides {t : State} {body : List Byte} (e : decideTurnerPark closed = (t, body)) : Decides c s t body :=
      decides_owner (r := .turnerPark) rfl empty rfl e
    have decided := decideTurnerPark_eq closed
    have idle (run : s.runOpen = false) := decided.trans (if_neg (ne_true_of_eq_false run))
    have able (run : s.runOpen = false) (may : ¬barred) := (idle run).trans (if_neg may)
    have still (run : s.runOpen = false) (may : ¬barred) (rest : ¬busy) := (able run may).trans (if_neg rest)
    have taken (ok : free) := by
      obtain ⟨run, may, rest, calm⟩ := ok
      exact (still run may rest).trans (if_neg calm)
    refine ⟨fun run => decides (decided.trans (if_pos run)), fun run bar => decides ((idle run).trans (if_pos bar)),
      fun run may work => decides ((able run may).trans (if_pos work)),
      fun run may rest block => decides ((still run may rest).trans (if_pos block)), fun ok fault => ?_,
      fun ok stopped r record => ?_⟩
    · intro t
      have other : ¬closed.pt.state = .interrupted := by
        change ¬s.pt.state = .interrupted
        rw [fault]
        decide
      exact decides ((taken ok).trans (if_neg other))
    · replace taken := (taken ok).trans (if_pos stopped)
      obtain ⟨run, may, rest, calm⟩ := ok
      have halt : s.pr.lineHalt = false := Bool.eq_false_iff.mpr fun e => may (.inr ⟨stopped, e⟩)
      have latch : s.sm.estopLatch = false := Bool.eq_false_iff.mpr fun e => calm (.inl e)
      have guard : s.guardOpen = false := Bool.eq_false_iff.mpr fun e => calm (.inr e)
      have at_rest : s.gaugeBusy = false := Bool.eq_false_iff.mpr fun e => rest (.inr e)
      have refusal : (closed.pt.record.bind fun x => closed.handRefusal x.clearance) =
          closed.clearRefusal r.clearance := by
        rw [show closed.pt.record = some r from record]
        exact State.handRefusal_calm (s := closed) halt latch guard _
      rw [refusal] at taken
      refine ⟨fun unknown => ?_, fun known short => ?_, fun known room => ?_⟩
      · rw [State.clearRefusal_notReferenced (s := closed) unknown] at taken
        exact decides taken
      · rw [State.clearRefusal_notClear (s := closed) known (.inr short)] at taken
        exact decides taken
      · rw [State.clearRefusal_none (s := closed) known at_rest room] at taken
        intro gripping
        have cut_iff : closed.pt.releaseCut = true ↔ r.interrupted = some .release := Turner.releaseCut_iff record
        refine ⟨fun release => ?_, fun other => ?_⟩
        · have resumed : closed.turnResumed = closed.request .turn := if_pos (cut_iff.mpr release)
          rw [resumed] at taken
          exact decides taken
        · intro t
          have resumed : closed.turnResumed = t := by
            refine (if_neg (mt cut_iff.mp other)).trans ?_
            have again : closed.pt.resumed = { s.pt with record := some { r with interrupted := none } } := by
              unfold Turner.resumed
              rw [show closed.pt = s.pt from rfl, record]
              rfl
            rw [again]
            exact State.gripRequest_gripping rfl
          rw [resumed] at taken
          exact decides taken

end Sys2Proof.Machine
end

section
/-! PROOFS. The Runner at work: the step boundary (R71 to R73), the start of a step (R74), the look at the slot (R77),
and the ends of its operations (R75 to R80, R85, R91). -/

namespace Sys2Proof.Machine

/-! ### O32: the step boundary (R71 to R73) -/

/-- A hold is taken for the first standing reason (R83). -/
theorem State.holdOr_eq (s : State) (next : State → State) :
    s.holdOr next =
      if s.keyOn = true then s.toHeld .bladeChange
      else if s.pr.lineHalt = true then s.toHeld .lineHalt
      else if s.pr.holdReq = true then s.toHeld .hostHold
      else next s := by
  unfold State.holdOr State.standingReason
  split_ifs <;> rfl

theorem State.holdOr_free {s : State} (key : s.keyOn = false) (halt : s.pr.lineHalt = false)
    (hold : s.pr.holdReq = false) (next : State → State) : s.holdOr next = next s := by
  rw [State.holdOr_eq, if_neg (ne_true_of_eq_false key), if_neg (ne_true_of_eq_false halt),
    if_neg (ne_true_of_eq_false hold)]

/-- Points 2 to 5 of the boundary in their order. -/
theorem State.boundaryLimit_points (s : State) :
    s.boundaryLimit State.boundaryHold =
      if s.pr.limit ≠ 0 ∧ s.pr.done = s.pr.limit then s.endReady .stepLimit s.pr.step
      else if s.keyOn = true then s.toHeld .bladeChange
      else if s.pr.lineHalt = true then s.toHeld .lineHalt
      else if s.pr.holdReq = true then s.toHeld .hostHold
      else if s.pr.mode = .single ∧ s.pr.singleStep = true then s.toHeld .singleDone
      else s.startStep :=
  if_congr decide_eq_true_iff rfl (State.holdOr_eq s _)

theorem State.atEnd_iff (s : State) :
    s.atEnd = true ↔ ∃ p, s.currentProgram = some p ∧ s.pr.step = p.steps.length := by
  unfold State.atEnd
  rw [Option.any_eq_true]
  simp only [decide_eq_true_eq]

/-- The link at the end position, by the program it leads to. -/
theorem State.followLink_linked {s : State} {p q : Program} {n : Nat} (current : s.currentProgram = some p)
    (link : p.header.link = some n) (stored : s.program n = some q) (whole : q.complete = true)
    (next : State → State) :
    s.followLink next =
      (s.setPr { s.pr with program := n, step := 0, iter := 0, noticeDue := true }).boundaryLimit next := by
  unfold State.followLink
  rw [current, Option.bind_some, link]
  dsimp only
  rw [stored]
  exact if_pos whole

theorem State.followLink_none {s : State} {p : Program} (current : s.currentProgram = some p)
    (link : p.header.link = none) (next : State → State) : s.followLink next = s.endReady .programEnd 0 := by
  unfold State.followLink
  rw [current, Option.bind_some, link]

theorem State.followLink_invalid {s : State} {p : Program} {n : Nat} (current : s.currentProgram = some p)
    (link : p.header.link = some n) (partly : ∀ q, s.program n = some q → q.complete = false) (next : State → State) :
    s.followLink next = s.reportFault .linkInvalid n := by
  unfold State.followLink
  rw [current, Option.bind_some, link]
  dsimp only
  cases stored : s.program n with
  | none => rfl
  | some q => exact if_neg (ne_true_of_eq_false (partly q stored))

/-- Settles O32: the end position by its link, and the points elsewhere. -/
theorem boundaryTakesItsPointsInOrder : Obligations.BoundaryTakesItsPointsInOrder := by
  intro s ends holds points
  have points_eq (x : State) : x.boundaryLimit State.boundaryHold = points x := x.boundaryLimit_points
  refine ⟨fun p current at_ => ?_, fun inside => ?_⟩
  · have ended : s.boundary = s.followLink State.boundaryHold := if_pos (s.atEnd_iff.mpr ⟨p, current, at_⟩)
    exact ⟨fun link => ended.trans (State.followLink_none current link _),
      fun n link => ⟨fun ⟨q, stored, whole⟩ =>
        ended.trans ((State.followLink_linked current link stored whole _).trans (points_eq _)),
        fun partly => ended.trans (State.followLink_invalid current link partly _)⟩⟩
  · refine (if_neg fun e => ?_).trans (points_eq s)
    obtain ⟨p, current, at_⟩ := s.atEnd_iff.mp e
    exact inside p current at_

/-! ### O33: the start of a step (R74) -/

theorem State.startStep_of {s : State} {r : StepRec} (step : s.currentStep = some r) :
    s.startStep =
      match r.kind with
      | .cut => s.startIteration r
      | .turn => s.startTurn
      | .load => s.startLoad
      | .eject => s.startEject r.disposition
      | .recall => s.startRecall
      | .pause => s.startPause := by
  unfold State.startStep
  rw [step] <;> rfl

/-- An iteration whose check fails. -/
theorem State.startIteration_error {s : State} {r : StepRec} {k : FaultKind} {d : Int} (known : s.bg.referenced = true)
    (error : s.checkCut r.disposition (s.iterationBase r - s.pr.iter * r.pitch) = .error (k, d)) :
    s.startIteration r = s.iterationFault (s.iterationBase r - s.pr.iter * r.pitch) k d := by
  unfold State.startIteration
  dsimp only
  rw [if_neg (ne_false_of_eq_true known), error]

theorem State.startIteration_ok {s : State} {r : StepRec} {x : Target} (known : s.bg.referenced = true)
    (ok : s.checkCut r.disposition (s.iterationBase r - s.pr.iter * r.pitch) = .ok x) :
    s.startIteration r = (s.fixIteration r (s.iterationBase r) x).handPositioning := by
  unfold State.startIteration
  dsimp only
  rw [if_neg (ne_false_of_eq_true known), ok]

/-- A step that asks for the reference first. -/
theorem State.startLoad_referenced {s : State} (known : s.bg.referenced = true) :
    s.startLoad =
      match s.checkLoad with
      | .error (k, d) => s.checkFault k d
      | .ok _ => s.enterWait .infeedWait := if_neg (ne_false_of_eq_true known)

theorem State.startTurn_referenced {s : State} (known : s.bg.referenced = true) :
    s.startTurn =
      match s.checkTurn with
      | .error (k, d) => s.checkFault k d
      | .ok r => (s.setPr { s.pr with phase := .retract, retractPos := r }).handRetract :=
  if_neg (ne_false_of_eq_true known)

theorem State.startRecall_referenced {s : State} (known : s.bg.referenced = true) :
    s.startRecall =
      match s.checkRecall with
      | .error (k, d) => s.checkFault k d
      | .ok p => (s.setPr { s.pr with phase := .retract, retractPos := s.clearOf p.depth }).handRetract :=
  if_neg (ne_false_of_eq_true known)

/-- The checks of a LOAD step on an empty table (R74). -/
theorem State.checkLoad_empty {s : State} (empty : s.gt.table = none) :
    s.checkLoad =
      if s.gt.aside ≠ [] then .error (.asideNotEmpty, s.gt.aside.length)
      else if s.knifeLimit ≤ s.cs.counter then .error (.knifeLimit, s.cs.counter)
      else
        match s.formatMismatch with
        | some d => .error (.formatMismatch, d)
        | none => .ok () := by
  unfold State.checkLoad
  rw [empty] <;> rfl

theorem State.formatMismatch_some {s : State} {f : Nat × Nat} {p : Pile}
    (header : (s.currentProgram.bind fun q => q.header.format) = some f) (pile : s.pl.pile = some p)
    (differ : f ≠ (p.w, p.ls)) : s.formatMismatch = some (f.1 : Int) := by
  unfold State.formatMismatch State.headerFormat State.pileFormat
  rw [header, pile]
  exact if_neg differ

theorem State.formatMismatch_none {s : State}
    (agree : ∀ f p, (s.currentProgram.bind fun q => q.header.format) = some f → s.pl.pile = some p → f = (p.w, p.ls)) :
    s.formatMismatch = none := by
  unfold State.formatMismatch State.headerFormat State.pileFormat
  cases header : s.currentProgram.bind fun q => q.header.format with
  | none => rfl
  | some f =>
    cases pile : s.pl.pile with
    | none => rfl
    | some p => exact if_pos (agree f p header pile)

/-- Settles O33: each kind's checks in order. -/
theorem stepsStartWithTheirChecks : Obligations.StepsStartWithTheirChecks := by
  intro s r step stop wait retract clearance
  have starts := State.startStep_of step
  refine ⟨fun kind unknown => ?_, fun kind known => ?_, fun kind known => ?_, fun kind known => ?_, fun kind => ?_,
    fun kind known => ?_, fun kind => ?_⟩
  · rw [starts]
    rcases kind with e | e | e | e <;> rw [e] <;> exact if_pos unknown
  · rw [kind] at starts
    intro base
    refine ⟨fun k d error other => ?_, fun t d table error => ?_, fun x ok => ?_⟩
    · rw [starts]
      refine (State.startIteration_error known error).trans ?_
      unfold State.iterationFault
      rw [if_neg other]
      rfl
    · intro x y
      rw [starts]
      refine (State.startIteration_error known error).trans ?_
      unfold State.iterationFault State.warnFailed
      rw [if_pos rfl, table]
      have pr : y.pr = s.pr := by
        change (if x.comp = x.raw then s else s.warn .compSaturated s.loadId s.warnStep s.warnIter x.raw).pr = s.pr
        split <;> rfl
      change (y.setPr { y.pr with phase := .none }).reportFault .outOfTravel d = _
      rw [pr]
    · rw [starts]
      exact State.startIteration_ok known ok
  · rw [kind] at starts
    dsimp only at starts
    rw [State.startLoad_referenced known] at starts
    refine ⟨fun t table => ?_, fun empty => ?_⟩
    · rw [starts, State.checkLoad, table]
      rfl
    · rw [State.checkLoad_empty empty] at starts
      refine ⟨fun aside => by rw [starts, if_pos aside]; rfl, fun none => ?_⟩
      rw [if_neg (not_not_intro none)] at starts
      refine ⟨fun worn => by rw [starts, if_pos worn]; rfl, fun sharp => ?_⟩
      rw [if_neg (Nat.not_le.mpr sharp)] at starts
      exact ⟨fun f p header pile differ => by rw [starts, State.formatMismatch_some header pile differ]; rfl,
        fun agree => by rw [starts, State.formatMismatch_none agree]; rfl⟩
  · rw [kind] at starts
    dsimp only at starts
    rw [State.startTurn_referenced known] at starts
    unfold State.checkTurn at starts
    refine ⟨fun empty => by rw [starts, empty]; rfl, fun t table => ?_⟩
    intro x
    rw [table] at starts
    dsimp only at starts
    refine ⟨fun high => ?_, fun low => ?_⟩
    · rw [starts, if_pos (by simp only [Config.gmax]; omega)]
      rfl
    · rw [starts, if_neg (by simp only [Config.gmax]; omega)]
  · rw [kind] at starts
    dsimp only at starts
    unfold State.startEject State.checkEject at starts
    refine ⟨fun empty => by rw [starts, empty]; rfl, fun full aside many => ?_, fun full room => ?_⟩
    · rw [starts, if_neg (mt Option.isNone_iff_eq_none.mp full), if_pos ⟨aside, many⟩]
      rfl
    · rw [starts, if_neg (mt Option.isNone_iff_eq_none.mp full), if_neg (show ¬(_ ∧ _ ≤ _) from room)]
      rfl
  · rw [kind] at starts
    dsimp only at starts
    rw [State.startRecall_referenced known] at starts
    unfold State.checkRecall at starts
    refine ⟨fun t table => by rw [starts, table]; rfl, fun empty none => by rw [starts, empty, none]; rfl,
      fun p rest empty top => by rw [starts, empty, top]; rfl⟩
  · rw [kind] at starts
    intro a
    have reached : a.limitReached = true ↔ s.pr.limit ≠ 0 ∧ a.pr.done = s.pr.limit := decide_eq_true_iff
    refine ⟨fun limited done => starts.trans (if_pos (reached.mpr ⟨limited, done⟩)),
      fun free => starts.trans (if_neg fun e => ?_)⟩
    obtain ⟨limited, done⟩ := reached.mp e
    exact free.elim limited (· done)

/-! ### O34: the look at the slot (R77) -/

theorem State.infeedLook_waits {s : State} (waits : s.pr.state = .running ∧ s.pr.phase = .infeedWait) :
    s.infeedLook =
      match s.jg.state with
      | .ready =>
        match s.checkReady with
        | .error (k, d) => s.checkFault k d
        | .ok (w, ls) =>
          ((s.setGt { s.gt with prepared := some (w, ls) }).setPr
            { s.pr with phase := .retract, retractPos := s.clearOf ls }).handRetract
      | .empty => if s.pl.spent then s.toHeld .pileEmpty else s
      | _ => s := if_pos waits

theorem Lift.spent_iff (l : Lift) : l.spent = true ↔ l.state = .exhausted ∨ l.state = .noPile := decide_eq_true_iff

/-- The format a ready load is prepared with. -/
theorem State.loadFormat_some {s : State} {w ls : Nat}
    (format : (∃ p, s.pl.pile = some p ∧ p.w = w ∧ p.ls = ls) ∨
      (s.pl.pile = none ∧ (s.currentProgram.bind fun q => q.header.format) = some (w, ls))) :
    s.loadFormat = some (w, ls) := by
  unfold State.loadFormat State.pileFormat State.headerFormat
  rcases format with ⟨p, pile, rfl, rfl⟩ | ⟨pile, header⟩
  · rw [pile]
    rfl
  · rw [pile, header]
    rfl

theorem State.loadFormat_none {s : State} (pile : s.pl.pile = none)
    (header : (s.currentProgram.bind fun q => q.header.format) = none) : s.loadFormat = none := by
  unfold State.loadFormat State.pileFormat State.headerFormat
  rw [pile, header]
  rfl

/-- The ready-load checks of a known format in order (R55, R56). -/
theorem State.checkReady_format {s : State} {w ls : Nat} (format : s.loadFormat = some (w, ls)) :
    s.checkReady =
      if 1650 < s.jg.height.toOption.getD 0 then .error (.tooTall, (s.jg.height.toOption.getD 0 : Nat))
      else if 124000 < ls then .error (.loadTooDeep, ls)
      else .ok (w, ls) := by
  unfold State.checkReady
  rw [format]

/-- Settles O34: the ready slot's checks, the spent infeed, and all the rest. -/
theorem infeedWaitLooksAtTheSlot : Obligations.InfeedWaitLooksAtTheSlot := by
  intro s waits stop
  refine ⟨fun wait ready => ?_, fun wait empty spent => ?_, fun idle => ?_⟩
  · have looks := State.infeedLook_waits wait
    rw [ready] at looks
    dsimp only at looks
    intro h
    have height : s.jg.height.toOption.getD 0 = h := by
      cases e : s.jg.height <;> simp only [h, e] <;> rfl
    refine ⟨fun pile header => ?_, fun w ls format => ?_⟩
    · rw [looks, State.checkReady, State.loadFormat_none pile header]
      rfl
    · rw [State.checkReady_format (State.loadFormat_some format), height] at looks
      refine ⟨fun tall => ?_, fun low deep => ?_, fun low fits => ?_⟩
      · rw [looks, if_pos tall]
        rfl
      · rw [looks, if_neg (Nat.not_lt.mpr low), if_pos deep]
        rfl
      · rw [looks, if_neg (Nat.not_lt.mpr low), if_neg (Nat.not_lt.mpr fits)]
        rfl
  · rw [State.infeedLook_waits wait, empty]
    exact if_pos ((Lift.spent_iff s.pl).mpr spent)
  · rcases idle with other | ⟨notReady, notSpent⟩
    · exact if_neg other
    · by_cases wait : waits
      · rw [State.infeedLook_waits wait]
        cases slot : s.jg.state
        case ready => exact absurd slot notReady
        case empty => exact if_neg fun spent => notSpent ⟨slot, (Lift.spent_iff s.pl).mp spent⟩
        all_goals rfl
      · exact if_neg wait

/-! ### O41: the ends of the run's operations (R75 to R80, R85, R91) -/

theorem State.runnerMoveDone_calm {s : State} (abort : s.pr.abortPending = false) (skip : s.pr.skipPending = false) :
    s.runnerMoveDone =
      match s.pr.phase, decide (s.pr.state = .running) with
      | .positioning, true => s.positioned
      | .retract, true => s.retracted
      | .contact, true => s.finishStep
      | .retract, false => if s.stepKind = some .turn then s.inPhase .turning else s.enterWait .placeWait
      | .contact, false => s.advance
      | _, _ => s := State.afterWork_next abort skip _

/-- The end of an iteration (R75). -/
theorem State.runnerCycleDone_calm {s : State} {r : StepRec} (step : s.currentStep = some r)
    (abort : s.pr.abortPending = false) (skip : s.pr.skipPending = false) :
    let y := s.setPr { s.pr with iter := s.pr.iter + 1, singleStep := true, noticeDue := true }
    s.runnerCycleDone =
      if r.count ≤ s.pr.iter + 1 then (if s.pr.state = .running then y.finishStep else y.advance)
      else if s.pr.state = .running then y.nextIteration r
      else y.inPhase .positioning := by
  intro y
  refine (State.afterWork_next abort skip _).trans ?_
  dsimp only
  rw [step]
  rfl

/-- A stopped move of the run: only the rear guard holds a RUNNING Runner (R85). -/
theorem State.runnerMoveStopped_calm {s : State} (abort : s.pr.abortPending = false)
    (skip : s.pr.skipPending = false) (guard : Bool) :
    s.runnerMoveStopped guard = if guard = true ∧ s.pr.state = .running then s.toHeld .guardOpen else s := by
  unfold State.runnerMoveStopped
  rw [if_neg (ne_true_of_eq_false abort)]
  dsimp only
  have calm : (if guard = true ∧ s.pr.state = .running then s.toHeld .guardOpen else s).pr.skipPending = false := by
    split_ifs
    · exact skip
    · exact skip
  exact if_neg (ne_true_of_eq_false calm)

/-- A READY station takes the cycle of the iteration's figures (R75, R112). -/
theorem State.handCycle_ready {s : State} {c : Cycle} (figures : s.pr.figures = some c)
    (ready : s.cs.state = .ready) :
    s.handCycle = (s.setPr { s.pr with phase := .cutting, waits := .nothing }).csTake c := by
  unfold State.handCycle
  rw [figures]
  exact if_pos ready

/-- The next iteration with no reason to hold (R75, R83; log 15). -/
theorem State.nextIteration_free {s : State} (key : s.keyOn = false) (halt : s.pr.lineHalt = false)
    (hold : s.pr.holdReq = false) (r : StepRec) :
    s.nextIteration r =
      let p := s.inPhase .positioning
      if s.pr.mode = .single then p.toHeld .singleDone else p.startIteration r := by
  unfold State.nextIteration
  exact State.holdOr_free (s := s.inPhase .positioning) key halt hold _

theorem State.stepKind_of {s : State} {r : StepRec} (step : s.currentStep = some r) : s.stepKind = some r.kind := by
  unfold State.stepKind
  rw [step]
  rfl

/-- Settles O41: the contact, the stops, and the completions running and not. -/
theorem contactsAndFinishedStepsGoOn : Obligations.ContactsAndFinishedStepsGoOn := by
  refine ⟨fun s t table => ?_, fun s abort skip => ?_, fun s r step abort skip => ?_⟩
  · unfold State.contactPosition
    rw [table]
    rfl
  · intro held
    have turn (guard : Bool) :
        s.runnerTurnStopped guard = if guard = true ∧ s.pr.state = .running then s.toHeld .guardOpen else s :=
      State.afterWork_next abort skip _
    have move (guard : Bool) :
        s.runnerMoveStopped guard = if guard = true ∧ s.pr.state = .running then s.toHeld .guardOpen else s :=
      State.runnerMoveStopped_calm abort skip guard
    refine ⟨fun running => ?_, fun other => ?_, ?_, ?_⟩
    · exact ⟨(move true).trans (if_pos ⟨rfl, running⟩), (turn true).trans (if_pos ⟨rfl, running⟩)⟩
    · exact ⟨(move true).trans (if_neg fun e => other e.2), (turn true).trans (if_neg fun e => other e.2)⟩
    · exact (move false).trans (if_neg fun e => Bool.false_ne_true e.1)
    · exact (turn false).trans (if_neg fun e => Bool.false_ne_true e.1)
  · intro done y p free
    have kind := State.stepKind_of step
    have moved := State.runnerMoveDone_calm abort skip
    have cycled := State.runnerCycleDone_calm step abort skip
    dsimp only at cycled
    refine ⟨fun running => ?_, fun other => ?_⟩
    · rw [decide_eq_true running] at moved
      rw [if_pos running, if_pos running] at cycled
      refine ⟨fun c phase stands figures ready => ?_, fun phase place => ?_, fun phase turn => ?_, fun phase => ?_,
        fun last => ?_, fun more stands mode => ?_, fun more stands mode => ?_, ?_, ?_⟩
      · obtain ⟨key, halt, hold⟩ := stands
        rw [moved, phase]
        dsimp only
        rw [State.positioned, State.holdOr_free key halt hold, State.handCycle_ready figures ready]
        rfl
      · rw [moved, phase]
        dsimp only
        rw [State.retracted, kind, if_neg (by simpa using place)]
        rfl
      · rw [moved, phase]
        dsimp only
        rw [State.retracted, kind, if_pos (congrArg some turn)]
        rfl
      · rw [moved, phase]
        rfl
      · rw [cycled, if_pos last]
        rfl
      · obtain ⟨key, halt, hold⟩ := stands
        rw [cycled, if_neg (Nat.not_le.mpr more)]
        refine (State.nextIteration_free (s := y) key halt hold r).trans (if_neg fun single => ?_)
        exact absurd (mode.symm.trans single) (by decide)
      · obtain ⟨key, halt, hold⟩ := stands
        rw [cycled, if_neg (Nat.not_le.mpr more)]
        exact (State.nextIteration_free (s := y) key halt hold r).trans (if_pos mode)
      · exact (State.afterWork_next abort skip _).trans (if_pos running)
      · exact (State.afterWork_next abort skip _).trans (if_pos running)
    · rw [decide_eq_false other] at moved
      rw [if_neg other, if_neg other] at cycled
      refine ⟨fun phase => ?_, fun phase place => ?_, fun phase turn => ?_, fun phase => ?_, fun last => ?_,
        fun more => ?_, ?_, ?_⟩
      · rw [moved, phase]
      · rw [moved, phase]
        dsimp only
        rw [kind, if_neg (by simpa using place)]
        rfl
      · rw [moved, phase]
        dsimp only
        rw [kind, if_pos (congrArg some turn)]
        rfl
      · rw [moved, phase]
        rfl
      · rw [cycled, if_pos last]
        rfl
      · rw [cycled, if_neg (Nat.not_le.mpr more)]
        rfl
      · exact (State.afterWork_next abort skip _).trans (if_neg other)
      · exact (State.afterWork_next abort skip _).trans (if_neg other)

end Sys2Proof.Machine
end

section
/-! PROOFS. The turner: grip, quarters, release and park, interruptions, and the ends of a manual turn (R155 to
R163). -/

namespace Sys2Proof.Machine

/-! ### Quarters (R157) -/

theorem Turner.allMade_iff {t : Turner} {r : TurnRec} (record : t.record = some r) :
    t.allMade = true ↔ r.commanded ≤ r.completed := by
  unfold Turner.allMade
  rw [record]
  exact decide_eq_true_iff

theorem Turner.gripDone_turns {t : Turner} {r : TurnRec} (record : t.record = some r)
    (more : r.completed < r.commanded) : t.gripDone = { t with state := .turning, rotate := .clockwise } :=
  if_neg fun made => absurd ((Turner.allMade_iff record).mp made) (Nat.not_le.mpr more)

theorem Turner.gripDone_parks {t : Turner} {r : TurnRec} (record : t.record = some r)
    (made : r.commanded ≤ r.completed) : t.gripDone = t.toPark := if_pos ((Turner.allMade_iff record).mpr made)

/-- A quarter of the turn in hand is made. -/
theorem State.quarterMade_turning {s : State} {r : TurnRec} (turning : s.pt.state = .turning)
    (record : s.pt.record = some r) :
    s.quarterMade =
      let t : Turner := { s.pt with record := some { r with completed := r.completed + 1 } }
      s.setPt (if t.allMade then t.toPark else t) := by
  unfold State.quarterMade
  rw [if_pos turning, record]
  rfl

/-! ### The grant at the turner (R157, R159) -/

theorem State.ptGranted_gripping {s : State} (gripping : s.pt.state = .gripping) :
    s.ptGranted =
      s.setPt
        (if s.lines.gripClosed = true then ({ s.pt with gripValve := .close } : Turner).gripDone
        else { s.pt with gripValve := .close }) := by
  unfold State.ptGranted
  split
  case h_1 => rfl
  case h_2 e => cases gripping.symm.trans e
  case h_3 e => cases gripping.symm.trans e
  case h_4 other _ _ => exact absurd gripping other

theorem State.ptGranted_releasing {s : State} (releasing : s.pt.state = .releasing) :
    s.ptGranted = s.setPt { s.pt with gripValve := .release, rotate := .toPark } := by
  unfold State.ptGranted
  split
  case h_1 e => cases releasing.symm.trans e
  case h_2 =>
    unfold Turner.toPark
    rw [← releasing]
  case h_3 e => cases releasing.symm.trans e
  case h_4 _ other _ => exact absurd releasing other

theorem State.ptGranted_interrupted {s : State} (cut : s.pt.state = .interrupted) :
    s.ptGranted = if s.pt.releaseCut = true then s.setPt s.pt.resumed.toPark else s := by
  unfold State.ptGranted
  split
  case h_1 e => cases cut.symm.trans e
  case h_2 e => cases cut.symm.trans e
  case h_3 => rfl
  case h_4 _ _ other => exact absurd cut other

theorem State.ptGranted_still {s : State}
    (still : s.pt.state = .parked ∨ s.pt.state = .turning ∨ s.pt.state = .fault) : s.ptGranted = s := by
  unfold State.ptGranted
  split
  case h_1 e => simp [e] at still
  case h_2 e => simp [e] at still
  case h_3 e => simp [e] at still
  case h_4 => rfl

/-! ### Parking (R157, R162) -/

theorem State.parkMade_held {s : State} (held : s.pt.state = .releasing ∧ s.hs.holder = some .turn) :
    s.parkMade =
      let s1 := (s.setPt s.pt.parked).release .turn
      match s.pt.record with
      | some r => (s1.applyTurn r.tracked r.loadId r.commanded).turnReported r
      | none => s1.turnEnded 0 := if_pos held

theorem State.turnReported_runner {s : State} {r : TurnRec} (runner : r.issuer = .runner) :
    s.turnReported r = if s.runOpen = true then s.runnerTurnDone else s := by
  unfold State.turnReported
  rw [runner]

theorem State.turnReported_manual {s : State} {r : TurnRec} {m : ManualTurn} (issuer : r.issuer = .turnNow)
    (manual : s.pt.manual = some m) : s.turnReported r = s.manualTurnMade m := by
  unfold State.turnReported
  rw [issuer, manual]

theorem State.turnReported_nobody {s : State} {r : TurnRec}
    (nobody : r.issuer = .nobody ∨ (r.issuer = .turnNow ∧ s.pt.manual = none)) :
    s.turnReported r = s.turnEnded 0 := by
  unfold State.turnReported
  rcases nobody with issuer | ⟨issuer, manual⟩
  · rw [issuer]
  · rw [issuer, manual]

theorem trackerKeeps_applyTurn_pt (s : State) (tracked : Bool) (id n : Nat) :
    (s.applyTurn tracked id n).pt = s.pt := by
  unfold State.applyTurn
  split
  · split <;> rfl
  · rfl

/-! ### The ends of a manual turn (R161) -/

theorem State.manualTurnEnds_none {s : State} (manual : s.pt.manual = none) (cause : Int) :
    s.manualTurnEnds cause = s := by
  unfold State.manualTurnEnds
  rw [manual]

theorem State.manualTurnEnds_some {s : State} {m : ManualTurn} (manual : s.pt.manual = some m) (cause : Int) :
    s.manualTurnEnds cause = (s.setPt { s.pt with manual := none }).plainWarning .turnEnded s.loadId cause := by
  unfold State.manualTurnEnds
  rw [manual]
  rfl

theorem State.manualTurnContacted_some {s : State} {m : ManualTurn} (manual : s.pt.manual = some m)
    (backward : Bool) :
    s.manualTurnContacted backward =
      (let w := if backward then s.loadWarning .backwardApproach s.bg.target else s
      (w.setPt { w.pt with manual := none }).plainWarning .turnEnded w.loadId 0) := by
  unfold State.manualTurnContacted
  cases backward with
  | false => exact State.manualTurnEnds_some manual 0
  | true =>
    obtain ⟨_, _, pt, _, _⟩ := s.loadWarning_blocks .backwardApproach s.bg.target
    exact State.manualTurnEnds_some (s := s.loadWarning .backwardApproach s.bg.target)
      ((congrArg Turner.manual pt).trans manual) 0

theorem State.manualTurnMoved_retract {s : State} {m : ManualTurn} (manual : s.pt.manual = some m)
    (stage : m.stage = .retract) (backward : Bool) : s.manualTurnMoved backward = s.manualTurnRetracted := by
  unfold State.manualTurnMoved
  rw [manual, Option.map_some, stage]

theorem State.manualTurnMoved_contact {s : State} {m : ManualTurn} (manual : s.pt.manual = some m)
    (stage : m.stage = .contact) (backward : Bool) :
    s.manualTurnMoved backward = s.manualTurnContacted backward := by
  unfold State.manualTurnMoved
  rw [manual, Option.map_some, stage]

/-- The handing of a manual turn refused ends it with the refusal's cause. -/
theorem State.manualTurnRetracted_refused {s : State} {m : ManualTurn} {why : HandRefusal}
    (manual : s.pt.manual = some m) (refused : s.handRefusal m.clearance = some why) :
    s.manualTurnRetracted =
      (s.setPt { s.pt with manual := none }).plainWarning .turnEnded s.loadId why.cause := by
  unfold State.manualTurnRetracted
  rw [manual]
  dsimp only
  rw [refused]
  exact State.manualTurnEnds_some manual _

theorem State.manualTurnRetracted_notParked {s : State} {m : ManualTurn} (manual : s.pt.manual = some m)
    (able : s.handRefusal m.clearance = none) (away : s.pt.state ≠ .parked) :
    s.manualTurnRetracted =
      (s.setPt { s.pt with manual := none }).plainWarning .turnEnded s.loadId
        (Config.notParkedCause m.clearance).toInt := by
  unfold State.manualTurnRetracted
  rw [manual]
  dsimp only
  rw [able]
  exact (if_neg away).trans (State.manualTurnEnds_some manual _)

/-- An approach complete at once stands at its target, with the manual turn as it was. -/
theorem State.approach_completed_at {s v : State} {i : MoveIssuer} {fromSlot backward : Bool} {k : MoveKind} {t : Int}
    (h : s.approach i fromSlot k t = .completed v backward) : v.pt.manual = s.pt.manual ∧ v.bg.target = t := by
  unfold State.approach at h
  split at h
  · cases h
    exact ⟨rfl, rfl⟩
  · cases h

/-- A tracked manual turn hands its contact, or ends with the cause of its refusal (R161 point 3). -/
theorem State.manualTurnMade_contact {s : State} {m : ManualTurn} (inTime : m.afterReset = false)
    (tracked : m.tracked = true) :
    s.manualTurnMade m =
      let k := s.setPt { s.pt with manual := some { m with stage := .contact } }
      match s.moveRefusal with
      | some why => k.manualTurnEnds why.turnCause
      | none =>
        match k.approach .manualTurn false .approach s.contactPosition with
        | .moving v => v
        | .completed v backward => v.manualTurnContacted backward := by
  unfold State.manualTurnMade
  rw [if_neg (ne_true_of_eq_false inTime), if_neg (ne_false_of_eq_true tracked)]
  rfl

/-! ### Interruptions (R158, R162) -/

/-- The turner a turn in hand leaves where it is stopped. -/
theorem Turner.interrupt_eq {t : Turner} {r : TurnRec} (record : t.record = some r) (runOpen : Bool) :
    t.interrupt runOpen =
      { t with
        state := .interrupted
        rotate := .stopped
        gripValve := if t.state = .releasing then .rest else t.gripValve
        record :=
          some
            { r with
              interrupted := some t.state.phase
              issuer := if r.issuer = .runner ∧ runOpen = false then .nobody else r.issuer } } := by
  unfold Turner.interrupt
  rw [record]
  rfl

theorem State.turnerMoving_iff (s : State) :
    s.turnerMoving = true ↔ s.pt.state = .gripping ∨ s.pt.state = .turning ∨ s.pt.state = .releasing := by
  unfold State.turnerMoving
  cases s.pt.state <;> decide

/-- A turn in hand is interrupted, and its issuer told. -/
theorem State.turnInterrupted_turn {s : State} {r : TurnRec} {cause : Nat} (moving : s.turnerMoving = true)
    (turn : s.pt.parkFromFault = false) (record : s.pt.record = some r) :
    s.turnInterrupted cause =
      let s1 := (s.setPt (s.pt.interrupt s.runOpen)).turnGivenUp cause
      match r.issuer, s.pt.manual with
      | .runner, _ => if s.runOpen then s1.runnerTurnStopped (decide (cause = 3)) else s1
      | _, some _ => s1.manualTurnEnds cause
      | _, none => s1.turnEnded cause := by
  unfold State.turnInterrupted
  rw [if_pos moving, if_neg (ne_true_of_eq_false turn), record, Option.map_some]
  cases s.pt.manual <;> cases r.issuer <;> rfl

/-- Settles O58, clause by clause as the statement lists them. -/
theorem turnsGripRotateReleaseAndPark : Obligations.TurnsGripRotateReleaseAndPark := by
  refine ⟨fun s m => ?_, fun s m => ?_, fun s m => ?_, fun s m => ?_, fun s => ?_, fun s cause park => ?_,
    fun s => ?_, fun s cause r turn record => ?_⟩
  · intro c h held
    refine ⟨fun hold r record => ⟨fun more => becomes_of rfl ?_, fun made => becomes_of rfl ?_⟩,
      fun other => becomes_of rfl (if_neg other)⟩
    · exact (if_pos hold).trans (congrArg h.setPt (Turner.gripDone_turns record more))
    · exact (if_pos hold).trans (congrArg h.setPt (Turner.gripDone_parks record made))
  · intro c h
    refine ⟨fun turning r record => ?_, fun other => becomes_of rfl (if_neg other)⟩
    intro t
    have made := State.quarterMade_turning (s := h) turning record
    exact ⟨fun more => becomes_of rfl (made.trans (congrArg h.setPt
        (if_neg fun e => absurd ((Turner.allMade_iff (t := t) rfl).mp e) (Nat.not_le.mpr more)))),
      fun all => becomes_of rfl (made.trans (congrArg h.setPt (if_pos ((Turner.allMade_iff (t := t) rfl).mpr all))))⟩
  · intro c h held parked
    have keeps : SupplyKeeps (h.setPt h.pt.parked) parked := supplyKeeps_release _ _
    have manual : parked.pt.manual = s.pt.manual := keeps.manualTurn
    have run : parked.runOpen = s.runOpen := keeps.runOpen
    refine ⟨fun hold record => becomes_of rfl ?_, fun hold r record => ?_, fun other => becomes_of rfl (if_neg other)⟩
    · have made := State.parkMade_held (s := h) hold
      rw [show h.pt.record = none from record] at made
      exact made
    · intro turned
      have made := State.parkMade_held (s := h) hold
      rw [show h.pt.record = some r from record] at made
      have same : turned = parked.applyTurn r.tracked r.loadId r.commanded := rfl
      have turnedRun : turned.runOpen = s.runOpen := by
        rw [same]
        exact (trackerKeeps_applyTurn _ _ _ _).runOpen.trans run
      have turnedManual : turned.pt.manual = s.pt.manual := by
        rw [same, trackerKeeps_applyTurn_pt]
        exact manual
      have reported : h.parkMade = turned.turnReported r := made
      clear_value turned
      refine ⟨fun runner opened => becomes_of rfl (reported.trans ?_),
        fun runner closed => becomes_of rfl (reported.trans ?_),
        fun x issuer same => becomes_of rfl (reported.trans ?_), fun nobody => becomes_of rfl (reported.trans ?_)⟩
      · exact (State.turnReported_runner runner).trans (if_pos (turnedRun.trans opened))
      · exact (State.turnReported_runner runner).trans (if_neg (ne_true_of_eq_false (turnedRun.trans closed)))
      · exact State.turnReported_manual issuer (turnedManual.trans same)
      · exact State.turnReported_nobody (nobody.imp_right fun e => ⟨e.1, turnedManual.trans e.2⟩)
  · intro c h
    exact ⟨fun parked => becomes_of rfl (if_pos parked), fun other => becomes_of rfl (if_neg other)⟩
  · refine ⟨fun gripping opened => ?_, fun releasing => ?_, fun r gripping made record => ?_,
      fun r cut record => ?_, fun still => ?_⟩
    · exact (State.ptGranted_gripping gripping).trans (congrArg s.setPt (if_neg (ne_true_of_eq_false opened)))
    · exact State.ptGranted_releasing releasing
    · rw [State.ptGranted_gripping gripping, if_pos made]
      by_cases all : r.commanded ≤ r.completed
      · rw [if_pos all, Turner.gripDone_parks (t := { s.pt with gripValve := .close }) record all]
        rfl
      · rw [if_neg all, Turner.gripDone_turns (t := { s.pt with gripValve := .close }) record (Nat.not_le.mp all)]
    · rw [State.ptGranted_interrupted cut]
      refine if_congr (Turner.releaseCut_iff record) ?_ rfl
      unfold Turner.resumed
      rw [record]
      rfl
    · exact State.ptGranted_still still
  · intro stopped y moving
    unfold State.turnInterrupted
    rw [if_pos ((State.turnerMoving_iff s).mpr moving), if_pos park]
    rfl
  · refine ⟨fun manual cause => State.manualTurnEnds_none manual cause, fun x manual => ?_⟩
    intro ended gripping t k toContact made
    refine ⟨State.manualTurnEnds_some manual, fun stage => ?_, fun stage => ?_, fun reset => ?_,
      fun inTime untracked => ?_, fun ⟨inTime, tracked⟩ refused => ?_, fun ⟨inTime, tracked⟩ still known => ?_⟩
    · exact ⟨(State.manualTurnMoved_contact manual stage false).trans (State.manualTurnContacted_some manual false),
        (State.manualTurnMoved_contact manual stage true).trans (State.manualTurnContacted_some manual true)⟩
    · have same (b : Bool) := State.manualTurnMoved_retract manual stage b
      have retracts : t = s.manualTurnRetracted := same false
      refine ⟨fun b => (same b).trans retracts.symm, fun halt => ?_, fun halt latch => ?_, fun halt latch guard => ?_,
        fun halt latch guard => ⟨fun refused => ?_, fun known still room => ⟨fun parked => ?_, fun away => ?_⟩⟩⟩
      · exact retracts.trans (State.manualTurnRetracted_refused (why := .halted) manual (if_pos halt))
      · exact retracts.trans (State.manualTurnRetracted_refused (why := .safetyBlocked) manual
          ((if_neg (ne_true_of_eq_false halt)).trans (if_pos latch)))
      · exact retracts.trans (State.manualTurnRetracted_refused (why := .guard) manual
          ((if_neg (ne_true_of_eq_false halt)).trans ((if_neg (ne_true_of_eq_false latch)).trans (if_pos guard))))
      · have calm := State.handRefusal_calm halt latch guard x.clearance
        by_cases known : s.bg.referenced = false
        · exact retracts.trans (State.manualTurnRetracted_refused (why := .notReferenced) manual
            (calm.trans (State.clearRefusal_notReferenced known _)))
        · exact retracts.trans (State.manualTurnRetracted_refused (why := .notClear) manual
            (calm.trans (State.clearRefusal_notClear (eq_true_of_ne_false known) (refused.resolve_left known))))
      · have able := (State.handRefusal_calm halt latch guard x.clearance).trans
          (State.clearRefusal_none known still room)
        exact retracts.trans ((State.manualTurnRetracted_taken manual able parked).trans
          (State.gripRequest_gripping rfl))
      · have able := (State.handRefusal_calm halt latch guard x.clearance).trans
          (State.clearRefusal_none known still room)
        exact retracts.trans (State.manualTurnRetracted_notParked manual able away)
    · exact (if_pos reset).trans (State.manualTurnEnds_some manual _)
    · exact (if_neg (ne_true_of_eq_false inTime)).trans ((if_pos untracked).trans (State.manualTurnEnds_some manual _))
    · have contact := State.manualTurnMade_contact (s := s) inTime tracked
      obtain ⟨why, refusal, cause⟩ : ∃ why, s.moveRefusal = some why ∧ why.turnCause = 1 := by
        by_cases busy : s.gaugeBusy = true
        · exact ⟨.busy, if_pos busy, rfl⟩
        · exact ⟨.notReferenced, (if_neg busy).trans (if_pos (refused.resolve_left busy)), rfl⟩
      rw [refusal] at contact
      refine contact.trans ((State.manualTurnEnds_some (s := k) rfl _).trans ?_)
      rw [cause]
      rfl
    · have contact := State.manualTurnMade_contact (s := s) inTime tracked
      have served : s.moveRefusal =
          if s.sm.estopLatch = true then some .latch else if s.guardOpen = true then some .guard else none :=
        (if_neg (ne_true_of_eq_false still)).trans (if_neg (ne_false_of_eq_true known))
      refine ⟨fun latch => ?_, fun latch guard => ?_, fun latch guard => ⟨fun v moves => ?_, fun v b completes => ?_⟩⟩
      · rw [served, if_pos latch] at contact
        exact contact.trans (State.manualTurnEnds_some (s := k) rfl _)
      · rw [served, if_neg (ne_true_of_eq_false latch), if_pos guard] at contact
        exact contact.trans (State.manualTurnEnds_some (s := k) rfl _)
      · rw [served, if_neg (ne_true_of_eq_false latch), if_neg (ne_true_of_eq_false guard)] at contact
        rw [show made = _ from contact, show s.setPt _ = k from rfl]
        dsimp only
        rw [moves]
      · rw [served, if_neg (ne_true_of_eq_false latch), if_neg (ne_true_of_eq_false guard)] at contact
        rw [show made = _ from contact, show s.setPt _ = k from rfl]
        dsimp only
        rw [completes]
        obtain ⟨manual, target⟩ := State.approach_completed_at completes
        refine (State.manualTurnContacted_some manual b).trans ?_
        rw [target]
  · intro stopped told
    have interrupts (moving : s.turnerMoving = true) :
        s.turnInterrupted cause = told (s.setPt (s.pt.interrupt s.runOpen)) :=
      State.turnInterrupted_turn moving turn record
    rw [Turner.interrupt_eq record] at interrupts
    refine ⟨fun gripping => ?_, fun turning => ?_, fun releasing => ?_, fun still => if_neg fun moving => ?_⟩
    · have told := interrupts ((State.turnerMoving_iff s).mpr (.inl gripping))
      rw [gripping] at told
      exact told
    · have told := interrupts ((State.turnerMoving_iff s).mpr (.inr (.inl turning)))
      rw [turning] at told
      exact told
    · have told := interrupts ((State.turnerMoving_iff s).mpr (.inr (.inr releasing)))
      rw [releasing] at told
      exact told
    · have state := (State.turnerMoving_iff s).mp moving
      generalize s.pt.state = x at still state
      revert still state
      cases x <;> decide

end Sys2Proof.Machine
end

section
/-! PROOFS. Power-on (R164) and what each block starts with (R17, R36, R66, R96, R111, R139, R155, R176). -/

namespace Sys2Proof.Machine

/-- Right after power-on nothing waits to be done, whatever fault is recorded: RECOVER waits for the latch (R126), the
rest is at rest. -/
theorem State.powerOnBlocks_quiet (s : State) (m : Lines) (pedal : Bool) (x : AllReadings) (f : Option FaultRec)
    (halt : Bool) :
    ((s.powerOnBlocks m pedal x).setPr { Runner.powerOn with fault := f, lineHalt := halt }).quiet = true := by
  unfold State.powerOnBlocks
  generalize (if m.knifeTop = false ∨ m.clampUp = false then CutState.recover
    else if (x.bladeKey.a || x.bladeKey.b) = true then .bladeChange else .ready) = cut
  cases m.park <;> cases cut <;> rfl

/-- The report of a turner not parked: the first fault, of no run (R155, R90). -/
theorem State.notParked_runner (s : State) (m : Lines) (pedal : Bool) (x : AllReadings) :
    (s.powerOnBlocks m pedal x).faultedRunner .notParked 0 =
      { Runner.powerOn with fault := some ⟨.notParked, 0, 0, 0, 0, 0⟩, lineHalt := s.ps.settings.haltOnFault } := rfl

/-- The mask of power-on lets every notice through (R9). -/
theorem Link.softReset_mask (k : NoticeKind) : Link.softReset.mask.getLsbD k.position = true := by
  cases k <;> decide

theorem Link.softReset_raise (xs : List Frame) (room : xs.length < 16) (k : NoticeKind) (body : List Byte) :
    ({ Link.softReset with notices := xs } : Link).raise k body =
      { Link.softReset with notices := xs ++ [noticeFrame k body] } :=
  Link.raise_room (l := { Link.softReset with notices := xs }) (Link.softReset_mask k) room body

/-- The POWER_ON notice (R164, Table 61). -/
def Monitor.powerOnNotice (x : AllReadings) : Frame :=
  ⟨0x46, 0, [0x00, 0xFF, (Monitor.powerOn x).flags, 0x00] ++ (Monitor.powerOn x).channels⟩

theorem State.powerOnBlocks_notice (s : State) (m : Lines) (pedal : Bool) (x : AllReadings) :
    (s.powerOnBlocks m pedal x).safetyNotice .powerOn =
      (s.powerOnBlocks m pedal x).setLi { Link.softReset with notices := [Monitor.powerOnNotice x] } :=
  congrArg (s.powerOnBlocks m pedal x).setLi (Link.softReset_raise [] (by decide) _ _)

/-- A fault reported with one notice waiting after a reset is noticed behind it. -/
theorem State.reportFault_second (s : State) (f : Frame) (k : FaultKind) (d : Int) :
    ∃ g, (s.setLi { Link.softReset with notices := [f] }).reportFault k d =
      (s.setPr (s.faultedRunner k d)).setLi { Link.softReset with notices := [f, g] } := by
  unfold State.reportFault State.raise
  exact ⟨_, congrArg (State.setLi (s.setPr (s.faultedRunner k d))) (Link.softReset_raise [f] (by decide : 1 < 16) _ _)⟩

/-- Power-on's notices: POWER_ON, and the fault of a turner not parked. -/
theorem State.powerOnReports_eq (s : State) (m : Lines) (pedal : Bool) (x : AllReadings) :
    ∃ rest, s.powerOnReports m pedal x =
      ((s.powerOnBlocks m pedal x).setPr
        (if m.park then Runner.powerOn
        else
          { Runner.powerOn with
            fault := some ⟨.notParked, 0, 0, 0, 0, 0⟩, lineHalt := s.ps.settings.haltOnFault })).setLi
        { Link.softReset with notices := Monitor.powerOnNotice x :: rest } ∧
      rest.length = if m.park then 0 else 1 := by
  unfold State.powerOnReports
  dsimp only
  rw [State.powerOnBlocks_notice]
  cases m.park
  · obtain ⟨g, e⟩ := (s.powerOnBlocks m pedal x).reportFault_second (Monitor.powerOnNotice x) .notParked 0
    rw [State.notParked_runner] at e
    exact ⟨[g], e, rfl⟩
  · exact ⟨[], rfl, rfl⟩

/-- Settling adds nothing to power-on's reports: no RUN_STATE is owed. -/
theorem State.powerOnReports_settle (s : State) (m : Lines) (pedal : Bool) (x : AllReadings) :
    (s.powerOnReports m pedal x).settle = s.powerOnReports m pedal x := by
  obtain ⟨rest, e, _⟩ := s.powerOnReports_eq m pedal x
  rw [e]
  refine (State.quiet_settle ?_).trans (State.flush_quiet ?_)
  · rw [State.quiet_setLi]
    cases m.park
    · exact s.powerOnBlocks_quiet m pedal x _ _
    · exact s.powerOnBlocks_quiet m pedal x none false
  · cases m.park <;> rfl

theorem flagByte_reads {bits : List Bool} (h : bits.length ≤ 8) (n : Nat) :
    (flagByte bits).getLsbD n = bits.getD n false := flagByte_testBit h n

/-- Settles O13: the reports of power-on are settled; the flags are bit fields. -/
theorem powerOnStartsEveryBlock : Obligations.PowerOnStartsEveryBlock := by
  refine ⟨fun s m pedal x => ?_, rfl, fun k => ?_⟩
  · obtain ⟨rest, reports, count⟩ := s.powerOnReports_eq m pedal x
    refine ⟨(s.powerOnReports m pedal x).kick, ?_, ?_⟩
    · exact congrArg (fun t : State => Host.Outcome.next t.kick) (s.powerOnReports_settle m pedal x)
    · rw [reports]
      refine ⟨rfl, ⟨rfl, rfl, rfl, rfl, rfl⟩, ⟨rfl, rfl, ?_⟩, rfl, rfl, rfl, rfl, rfl, ?_, rfl, rfl, rfl, rfl, rfl⟩
      · refine (congrArg Nat.succ count).trans ?_
        cases m.park <;> rfl
      · simp only [← Bool.or_eq_true]
        rfl
  · intro reads bad latches
    refine ⟨fun n => ?_, fun n => ?_, _, _, rfl, fun n => ?_, fun n => ?_⟩
    · rw [Monitor.flags_eq]
      exact flagByte_reads (Nat.le_of_ble_eq_true rfl) n
    · exact flagByte_reads (Nat.le_of_ble_eq_true rfl) n
    · exact flagByte_reads (Nat.le_of_ble_eq_true rfl) n
    · exact flagByte_reads (Nat.le_of_ble_eq_true rfl) n

end Sys2Proof.Machine
end

section
/-! PROOFS. The soft reset: RESET, its reply, and the blocks' responses (R16, R66, R110, R127, R138, R152, R163). -/

namespace Sys2Proof.Machine

/-! ### The gauge's response (R110) -/

/-- What the stop of a move tells its issuer, when no run is open: Runner, tracker and gauge stay as they are, and so
does the cycle in hand. -/
structure MoveTold (s t : State) : Prop where
  pr : t.pr = s.pr
  gt : t.gt = s.gt
  bg : t.bg = s.bg
  state : t.cs.state = s.cs.state
  cycle : t.cs.cycle = s.cs.cycle

theorem moveTold_manualCutFailed (s : State) (cause : Nat) : MoveTold s (s.manualCutFailed cause) := by
  unfold State.manualCutFailed
  split <;> exact ⟨rfl, rfl, rfl, rfl, rfl⟩

theorem moveTold_manualTurnEnds (s : State) (cause : Int) : MoveTold s (s.manualTurnEnds cause) := by
  unfold State.manualTurnEnds
  split <;> exact ⟨rfl, rfl, rfl, rfl, rfl⟩

/-- The stored move cancelled empties the slot (R106). -/
theorem State.slotCancel_clears (s : State) :
    s.slotCancel.pr = s.pr ∧ s.slotCancel.gt = s.gt ∧ s.slotCancel.bg = { s.bg with slot := none } ∧
      s.slotCancel.cs = s.cs := by
  cases e : s.bg.slot with
  | none =>
    rw [State.slotCancel_empty e]
    refine ⟨rfl, rfl, ?_, rfl⟩
    rw [← e]
  | some t =>
    rw [State.slotCancel_some e]
    exact ⟨rfl, rfl, rfl, rfl⟩

/-- A move stopped by a reset and told its issuer, with the slot emptied. -/
theorem State.moveCutAt_reset {s : State} (idle : s.runOpen = false) (v : Move) :
    let t := (s.moveCutAt v .reset).slotCancel
    t.pr = s.pr ∧ t.gt = s.gt ∧ t.bg = { s.bg with slot := none } ∧ t.cs.state = s.cs.state ∧
      t.cs.cycle = s.cs.cycle := by
  have told {w : State} (k : MoveTold s w) :
      let t := w.slotCancel
      t.pr = s.pr ∧ t.gt = s.gt ∧ t.bg = { s.bg with slot := none } ∧ t.cs.state = s.cs.state ∧
        t.cs.cycle = s.cs.cycle := by
    obtain ⟨pr, gt, bg, cs⟩ := w.slotCancel_clears
    exact ⟨pr.trans k.pr, gt.trans k.gt, bg.trans (by rw [k.bg]), (congrArg _ cs).trans k.state,
      (congrArg _ cs).trans k.cycle⟩
  unfold State.moveCutAt
  split
  · rw [if_neg (ne_true_of_eq_false idle)]
    exact told ⟨rfl, rfl, rfl, rfl, rfl⟩
  · exact told (moveTold_manualCutFailed s _)
  · exact told (moveTold_manualTurnEnds s _)
  all_goals
    dsimp only [State.slotAfter]
    rw [State.slotCancel_slotCancel]
    exact told ⟨rfl, rfl, rfl, rfl, rfl⟩

/-- The gauge's response to a soft reset once the Runner is IDLE (R110). -/
theorem State.gaugeReset_idle {s : State} (idle : s.runOpen = false) :
    s.gaugeReset.pr = s.pr ∧ s.gaugeReset.gt = s.gt ∧
      s.gaugeReset.bg =
        (if s.gaugeBusy = true then
          { s.bg with
            slot := none
            state := if s.bg.state = .referencing then .unreferenced else .standing
            move := none
            dwell := none
            inPos := false }
        else { s.bg with slot := none }) ∧
      s.gaugeReset.cs.state = s.cs.state ∧ s.gaugeReset.cs.cycle = s.cs.cycle := by
  by_cases busy : s.gaugeBusy = true
  · rw [if_pos busy]
    cases move : s.bg.move with
    | some v =>
      rw [(State.gaugeStops_busy busy move).2.2]
      exact State.moveCutAt_reset (s := s.gaugeStopped) idle v
    | none =>
      have resets : s.gaugeReset = s.gaugeStopped.slotCancel := by
        unfold State.gaugeReset
        rw [if_pos busy, move]
      obtain ⟨pr, gt, bg, cs⟩ := s.gaugeStopped.slotCancel_clears
      rw [resets]
      exact ⟨pr, gt, bg, congrArg _ cs, congrArg _ cs⟩
  · have resets : s.gaugeReset = s.slotCancel := congrArg State.slotCancel (if_neg busy)
    obtain ⟨pr, gt, bg, cs⟩ := s.slotCancel_clears
    rw [resets, if_neg busy]
    exact ⟨pr, gt, bg, congrArg _ cs, congrArg _ cs⟩

/-! ### The station's response (R127) -/

theorem supplyKeeps_plainWarning (s : State) (k : WarningKind) (l : Nat) (d : Int) :
    SupplyKeeps s (s.plainWarning k l d) := by constructor <;> rfl

theorem supplyKeeps_waitingCutEnds (s : State) (cause : Nat) : SupplyKeeps s (s.waitingCutEnds cause) := by
  unfold State.waitingCutEnds
  split
  · split <;> (constructor <;> rfl)
  · exact SupplyKeeps.refl s

theorem supplyKeeps_csWithdraw (s : State) : SupplyKeeps s s.csWithdraw :=
  (supplyKeeps_setCs s _).trans (supplyKeeps_giveUp _ _)

/-- A cycle that ends before its knife left the top, of no open run, changes no block the supply keeps. -/
theorem supplyKeeps_cycleDropped {s : State} (idle : s.runOpen = false) (c : Cycle) (cause : Nat) :
    SupplyKeeps s (s.cycleDropped c cause) := by
  unfold State.cycleDropped
  split
  · exact supplyKeeps_plainWarning _ _ _ _
  · rw [if_neg (ne_true_of_eq_false idle)]
    exact SupplyKeeps.refl s

theorem supplyKeeps_csReset {s : State} (idle : s.runOpen = false)
    (home : s.cutAtHoldPoint = true → ∀ c, s.cs.cycle = some c → c.leftTop = false) : SupplyKeeps s s.csReset := by
  have withdrawn (held : s.cutAtHoldPoint = true) : SupplyKeeps s (s.csWithdraw.cycleCut s.cs.cycle 5) := by
    have keeps := supplyKeeps_csWithdraw s
    cases cycle : s.cs.cycle with
    | none => exact keeps
    | some c =>
      unfold State.cycleCut
      dsimp only
      rw [if_neg (ne_true_of_eq_false (home held c cycle))]
      exact keeps.trans (supplyKeeps_cycleDropped (keeps.runOpen.trans idle) c 5)
  unfold State.csReset
  refine SupplyKeeps.trans ?_ (supplyKeeps_waitingCutEnds _ _)
  unfold State.cutAtHoldPoint at withdrawn
  split
  case h_1 e => exact withdrawn (by rw [e])
  case h_2 e => exact withdrawn (by rw [e])
  case h_3 e => exact withdrawn (by rw [e])
  case h_4 => exact supplyKeeps_setCs _ _
  case h_5 => exact supplyKeeps_setCs _ _
  case h_6 => exact SupplyKeeps.refl s

theorem supplyKeeps_jogReset (s : State) : SupplyKeeps s s.jogReset := by
  unfold State.jogReset
  split <;> (constructor <;> rfl)

/-! ### The manual cut and the grant -/

theorem State.raiseMeasured_manual (s : State) (m : Nat) : (s.raiseMeasured m).cs.manual = s.cs.manual := by
  rw [State.raiseMeasured_cs]

theorem State.grantOther_manual (s : State) : s.grantOther.cs.manual = s.cs.manual := by
  have station (t : State) : t.csGranted.cs.manual = t.cs.manual := by
    unfold State.csGranted
    split <;> rfl
  have turner (t : State) : t.ptGranted.cs.manual = t.cs.manual := by
    unfold State.ptGranted
    split
    · rfl
    · rfl
    · split <;> rfl
    · rfl
  unfold State.grantOther
  split
  · exact station _
  · exact turner _
  · rfl
  · rfl

theorem State.releasedBy_manual {next : State → State} (hn : ∀ t, (next t).cs.manual = t.cs.manual) (s : State) :
    (s.releasedBy next).cs.manual = s.cs.manual := by
  unfold State.releasedBy
  dsimp only
  split
  · rfl
  · split
    · exact hn _
    · rfl

/-- Granting changes nothing of a manual cut. -/
theorem State.decideGrant_manual (s : State) : s.decideGrant.cs.manual = s.cs.manual := by
  unfold State.decideGrant
  split
  · dsimp only
    split
    · exact (State.releasedBy_manual State.grantOther_manual _).trans (State.raiseMeasured_manual _ _)
    · unfold State.liftGranted
      split <;> rfl
  · exact State.grantOther_manual s

theorem State.release_manual (s : State) (c : Consumer) : (s.release c).cs.manual = s.cs.manual := by
  unfold State.release
  split
  · exact State.releasedBy_manual State.decideGrant_manual s
  · rfl

theorem State.csWithdraw_manual (s : State) : s.csWithdraw.cs.manual = s.cs.manual := State.release_manual _ _

/-- The station's response short of the clamp: the cycle is withdrawn and cut. -/
theorem State.csReset_short {s : State}
    (short : s.cs.state = .armed ∨ s.cs.state = .grantWait ∨ s.cs.state = .preclamped) :
    s.csReset = (s.csWithdraw.cycleCut s.cs.cycle 5).waitingCutEnds 5 := by
  unfold State.csReset
  rcases short with e | e | e <;> rw [e]

theorem State.csReset_still {s : State}
    (away : ¬(s.cs.state = .armed ∨ s.cs.state = .grantWait ∨ s.cs.state = .preclamped))
    (clamping : s.cs.state ≠ .clamping) (cutting : s.cs.state ≠ .cutting) : s.csReset = s.waitingCutEnds 5 := by
  unfold State.csReset
  split
  case h_1 e => exact absurd (.inl e) away
  case h_2 e => exact absurd (.inr (.inl e)) away
  case h_3 e => exact absurd (.inr (.inr e)) away
  case h_4 e => exact absurd e clamping
  case h_5 e => exact absurd e cutting
  case h_6 => rfl

theorem State.waitingCutEnds_some {s : State} {m : ManualCut} (manual : s.cs.manual = some m) (cause : Nat) :
    s.waitingCutEnds cause =
      if m.approachDone = true then
        (s.setCs { s.cs with manual := none }).plainWarning .cutNowEnded s.loadId cause
      else s := by
  unfold State.waitingCutEnds
  rw [manual]
  rfl

/-! ### The turner's response (R163) -/

/-- The turn record of an interrupted turn of the run goes to nobody. -/
theorem Turner.orphan_record (t : Turner) :
    t.orphan.record =
      t.record.map fun r =>
        if t.state = .interrupted ∧ r.issuer = .runner then { r with issuer := .nobody } else r := by
  unfold Turner.orphan
  by_cases cut : t.state = .interrupted
  · rw [if_pos cut]
    refine congrArg (Option.map · t.record) (funext fun r => ?_)
    by_cases runner : r.issuer = .runner
    · rw [if_pos runner, if_pos ⟨cut, runner⟩]
    · rw [if_neg runner, if_neg fun e => runner e.2]
  · rw [if_neg cut]
    have same : (fun r : TurnRec =>
        if t.state = .interrupted ∧ r.issuer = .runner then { r with issuer := .nobody } else r) = id :=
      funext fun r => if_neg fun e => cut e.1
    rw [same, Option.map_id, id]

/-- Only its record is changed. -/
theorem Turner.orphan_eq (t : Turner) : t.orphan = { t with record := t.orphan.record } := by
  unfold Turner.orphan
  split <;> rfl

theorem State.ptReset_eq (s : State) :
    s.ptReset =
      s.setPt
        { s.pt with
          record :=
            s.pt.record.map fun r =>
              if s.pt.state = .interrupted ∧ r.issuer = .runner then { r with issuer := .nobody } else r
          manual := s.pt.manual.map fun x => if x.stage = .turn then { x with afterReset := true } else x } := by
  unfold State.ptReset
  rw [Turner.orphan_eq, Turner.orphan_record]

/-! ### Settling with the Runner IDLE -/

theorem supplyKeeps_csFollow (s : State) : SupplyKeeps s s.csFollow := by
  have keeps := supplyKeeps_csWithdraw s
  unfold State.csFollow
  split
  · split
    · split
      · split
        · exact SupplyKeeps.refl s
        · exact keeps
      · split
        · exact keeps.trans (supplyKeeps_plainWarning _ _ _ _)
        · exact SupplyKeeps.refl s
    · exact SupplyKeeps.refl s
  · exact SupplyKeeps.refl s

theorem supplyKeeps_manualCutNext (s : State) : SupplyKeeps s s.manualCutNext := by
  unfold State.manualCutNext
  split
  · split
    · split
      · constructor <;> rfl
      · split <;> (constructor <;> rfl)
    · exact SupplyKeeps.refl s
  · exact SupplyKeeps.refl s

theorem supplyKeeps_gripRequest (s : State) : SupplyKeeps s s.gripRequest := by
  unfold State.gripRequest
  split
  · exact supplyKeeps_request _ _
  · exact SupplyKeeps.refl s

theorem supplyKeeps_renewRequests (s : State) : SupplyKeeps s s.renewRequests := by
  have lift (t : State) : SupplyKeeps t (if t.pl.state = .raising then t.request .lift else t) := by
    split
    · exact supplyKeeps_request _ _
    · exact SupplyKeeps.refl t
  have last (t : State) :
      SupplyKeeps t (if t.pt.state = .releasing then t.request .turn else t.gripRequest) := by
    split
    · exact supplyKeeps_request _ _
    · exact supplyKeeps_gripRequest t
  exact ((supplyKeeps_recoverRequest s).trans (lift _)).trans (last _)

/-- An IDLE Runner with nothing to hand and nothing pending has no part in settling; the notice it owes is raised. -/
theorem State.settle_idle {s : State} (idle : s.pr = { Runner.powerOn with noticeDue := true }) :
    s.settle.pr = Runner.powerOn ∧ s.settle.gt = s.gt ∧ s.settle.bg = s.bg := by
  have pending : s.pendingAtArmed = s := State.pendingAtArmed_quiet (by rw [idle]; exact Bool.and_false _)
  have again : s.handAgain = s := State.handAgain_quiet (by rw [idle]; rfl)
  have hold : s.takeHold = s := State.takeHold_quiet (.inl (by unfold State.atHoldPoint; rw [idle]; rfl))
  have look : s.infeedLook = s := State.infeedLook_quiet (.inl fun e => by
    rw [idle] at e
    exact absurd e.1 (by decide))
  have keeps : SupplyKeeps s s.csFollow.manualCutNext.renewRequests :=
    ((supplyKeeps_csFollow s).trans (supplyKeeps_manualCutNext _)).trans (supplyKeeps_renewRequests _)
  unfold State.settle
  rw [pending, again, hold, look]
  generalize s.csFollow.manualCutNext.renewRequests = t at keeps
  have owed : t.pr = { Runner.powerOn with noticeDue := true } := keeps.pr.trans idle
  unfold State.flush
  rw [if_pos (by rw [owed])]
  refine ⟨?_, keeps.gt, keeps.bg⟩
  exact congrArg (fun r : Runner => { r with noticeDue := false }) owed

theorem State.kick_receiver (s : State) : s.kick.li.receiver = s.li.receiver := by
  obtain ⟨x, e⟩ := s.kick_eq
  rw [e]
  rfl

/-- What a soft reset leaves of Runner, tracker and gauge once settled. -/
theorem State.resetBlocks_idle {s : State}
    (home : s.cutAtHoldPoint = true → ∀ c, s.cs.cycle = some c → c.leftTop = false) :
    s.resetBlocks.pr = { Runner.powerOn with noticeDue := true } ∧
      s.resetBlocks.gt = { s.gt with prepared := none, stepBase := none } ∧
      s.resetBlocks.bg =
        (if s.gaugeBusy = true then
          { s.bg with
            slot := none
            state := if s.bg.state = .referencing then .unreferenced else .standing
            move := none
            dwell := none
            inPos := false }
        else { s.bg with slot := none }) := by
  obtain ⟨pr, gt, bg, state, cycle⟩ := State.gaugeReset_idle (s := (s.setLi Link.softReset).runnerReset) rfl
  unfold State.resetBlocks
  generalize (s.setLi Link.softReset).runnerReset.gaugeReset = t at pr gt bg state cycle
  have idle : t.runOpen = false := by
    unfold State.runOpen
    rw [pr]
    rfl
  have away : t.cutAtHoldPoint = true → ∀ c, t.cs.cycle = some c → c.leftTop = false := by
    unfold State.cutAtHoldPoint
    rw [state, cycle]
    exact home
  have keeps : SupplyKeeps t t.csReset.supplyReset.jogReset :=
    ((supplyKeeps_csReset idle away).trans (supplyKeeps_setHs _ _)).trans (supplyKeeps_jogReset _)
  exact ⟨keeps.pr.trans pr, keeps.gt.trans gt, keeps.bg.trans bg⟩

/-- Settles O12: the request, the end of its reply, what stays, and the responses in their order. -/
theorem softResetOfTheBlocks : Obligations.SoftResetOfTheBlocks := by
  refine ⟨fun s m tag empty => ?_, fun s m tag line => ?_, fun s m home => ?_, fun s m => ?_, fun s => ?_⟩
  · exact decides_owner (r := .reset) rfl empty rfl rfl
  · have sent : (s.sample m).frameSent = (s.sample m).softReset := by
      unfold State.frameSent
      rw [show (s.sample m).li.line = _ from line]
      exact if_pos (decide_eq_true ⟨rfl, rfl⟩)
    exact congrArg Host.Outcome.next sent
  · obtain ⟨pr, gt, bg⟩ := State.resetBlocks_idle (s := s.sample m) home
    obtain ⟨settled, sameGt, sameBg⟩ := State.settle_idle pr
    obtain ⟨t, e, keeps⟩ := kept_softReset (s.sample m)
    have same : (s.sample m).resetBlocks.settle.kick = t.kick := e
    generalize (s.sample m).resetBlocks.settle = u at same settled sameGt sameBg
    refine ⟨t.kick, congrArg Host.Outcome.next e, ⟨?_, ?_, ?_, ?_⟩, ⟨?_, ?_, ?_, ?_⟩, ?_, ?_, ?_⟩
    · exact (State.kick_receiver t).trans keeps.receiver
    · exact (State.kick_queue t).trans keeps.queue
    · exact (State.kick_busy t).trans keeps.busy
    · exact (State.kick_mask t).trans keeps.mask
    · exact keeps.ps
    · exact keeps.sm
    · exact keeps.lines
    · exact keeps.pending
    · rw [← same]
      exact sameGt.trans gt
    · rw [← same]
      exact settled
    · rw [← same]
      exact sameBg.trans bg
  · exact becomes_of (effect := State.resetBlocks) rfl rfl
  · refine ⟨rfl, rfl, rfl, s.ptReset_eq, ?_⟩
    · intro home withdrawn short
      have withdraws : s.csWithdraw = withdrawn := rfl
      have manual : withdrawn.cs.manual = s.cs.manual := s.csWithdraw_manual
      have run : withdrawn.runOpen = s.runOpen := (supplyKeeps_csWithdraw s).runOpen
      clear_value withdrawn
      refine ⟨fun alone c cycle => ⟨fun brief top runner idle => ?_, fun brief top issuer => ?_, fun clamping => ?_,
        fun cutting => ?_⟩, fun away clamping cutting => ⟨fun alone => ?_, fun x waiting => ?_⟩⟩
      · rw [State.csReset_short brief, cycle, withdraws, State.cycleCut_home top,
          State.cycleDropped_runner runner (.inl (run.trans idle))]
        exact State.waitingCutEnds_none (manual.trans alone) 5
      · rw [State.csReset_short brief, cycle, withdraws, State.cycleCut_home top, State.cycleDropped_manual issuer]
        exact State.waitingCutEnds_none
          (s := withdrawn.plainWarning .cutNowEnded withdrawn.loadId 5) (manual.trans alone) 5
      · unfold State.csReset CutStation.abortedCycle
        rw [clamping, cycle]
        dsimp only
        apply State.waitingCutEnds_none
        exact alone
      · unfold State.csReset CutStation.abortedCycle
        rw [cutting, cycle]
        dsimp only
        apply State.waitingCutEnds_none
        exact alone
      · exact (State.csReset_still away clamping cutting).trans (State.waitingCutEnds_none alone 5)
      · exact (State.csReset_still away clamping cutting).trans (State.waitingCutEnds_some waiting 5)

end Sys2Proof.Machine
end

section
/-! PROOFS. Cuts, aborts, ejects and warnings at the tracker (R43, R45 to R50, R54, R65). -/

namespace Sys2Proof.Machine

/-! ### Notices and warnings, byte by byte (Tables 29 and 35) -/

theorem leBytes_one (v : Nat) : leBytes 1 v = [byteOf v] := rfl

theorem State.cycleNotice_bytes (s : State) (c : Cycle) (o : Outcome) (strip : Rect) (q : Fin 4) :
    s.cycleNotice c o strip q =
      s.raise .cycle
        (leBytes 1 o.code ++ [if c.tracked then 0x01 else 0x00] ++ leBytes 2 c.loadId ++ leBytes 1 c.step ++
          leBytes 1 c.iter ++ leInt 4 c.nominal ++ leInt 2 c.comp ++ leInt 4 c.target ++
          leBytes 2 (c.measured.getD 0) ++ leBytes 2 (c.heightUsed.getD 0xFFFF) ++ leInt 1 c.draw ++
          leBytes 1 c.disposition.code ++ leBytes 4 strip.sx ++ leBytes 4 strip.sy ++ leBytes 4 strip.sw ++
          leBytes 4 strip.sd ++ leBytes 1 q.val ++ leBytes 4 s.cs.counter) := by
  unfold State.cycleNotice
  rw [heightField_eq]
  refine congrArg (s.raise .cycle) ?_
  simp only [leBytes_one, Rect.bytes, boolByte, List.append_assoc, List.cons_append, List.nil_append]

theorem State.warn_bytes (s : State) (k : WarningKind) (id step iter : Nat) (d : Int) :
    s.warn k id step iter d =
      s.raise .warning (leBytes 1 k.code ++ leBytes 2 id ++ leBytes 1 step ++ leBytes 1 iter ++ leInt 4 d) := by
  unfold State.warn
  refine congrArg (s.raise .warning) ?_
  simp only [leBytes_one, List.append_assoc, List.cons_append, List.nil_append]

/-! ### The warnings (R45) -/

theorem State.loadWarning_listed {s : State} {o : OpenLoad} (opened : s.gt.openLoad = some o) (k : WarningKind)
    (d : Int) :
    s.loadWarning k d =
      (s.setGt { s.gt with openLoad := some (o.addWarning ⟨k.code, s.warnStep, s.warnIter⟩) }).warn k o.id s.warnStep
        s.warnIter d := by
  unfold State.loadWarning State.loadId
  rw [opened]

theorem State.loadWarning_closed {s : State} (closed : s.gt.openLoad = none) (k : WarningKind) (d : Int) :
    s.loadWarning k d = s.warn k 0 s.warnStep s.warnIter d := by
  unfold State.loadWarning State.loadId
  rw [closed]

/-- What a load warning keeps of the tracker: all but the load's list and overflow count. -/
structure AccountsSame (g h : Tracker) : Prop where
  table : h.table = g.table
  aside : h.aside = g.aside
  nextId : h.nextId = g.nextId
  prepared : h.prepared = g.prepared
  stepBase : h.stepBase = g.stepBase
  openLoad : ∀ o, g.openLoad = some o → ∃ o1, h.openLoad = some o1 ∧ o1.id = o.id ∧ o1.w = o.w ∧ o1.ls = o.ls ∧
    o1.waste = o.waste ∧ o1.finishedArea = o.finishedArea ∧ o1.finishedCount = o.finishedCount

theorem AccountsSame.refl (g : Tracker) : AccountsSame g g :=
  ⟨rfl, rfl, rfl, rfl, rfl, fun o e => ⟨o, e, rfl, rfl, rfl, rfl, rfl, rfl⟩⟩

theorem accountsSame_loadWarning (s : State) (k : WarningKind) (d : Int) :
    AccountsSame s.gt (s.loadWarning k d).gt := by
  cases opened : s.gt.openLoad with
  | none =>
    rw [State.loadWarning_closed opened]
    exact AccountsSame.refl s.gt
  | some o =>
    rw [State.loadWarning_listed opened]
    refine ⟨rfl, rfl, rfl, rfl, rfl, fun o' e => ⟨_, rfl, ?_⟩⟩
    obtain rfl : o = o' := Option.some.inj (opened.symm.trans e)
    unfold OpenLoad.addWarning
    split <;> exact ⟨rfl, rfl, rfl, rfl, rfl, rfl⟩

theorem accountsSame_warnHeight (s : State) (t : TableLoad) (m : Nat) : AccountsSame s.gt (s.warnHeight t m).gt := by
  unfold State.warnHeight
  split
  · exact accountsSame_loadWarning s _ _
  · split
    · exact accountsSame_loadWarning s _ _
    · exact AccountsSame.refl s.gt

theorem accountsSame_checkSize (s : State) (l d : Nat) : AccountsSame s.gt (s.checkSize l d).gt := by
  unfold State.checkSize
  split
  · exact AccountsSame.refl s.gt
  · split
    · exact AccountsSame.refl s.gt
    · exact accountsSame_loadWarning s _ _

/-! ### Disposing of a piece (R48, R49) -/

/-- The accounts of a load after a piece of an area is disposed of. -/
def OpenLoad.disposed (o : OpenLoad) (d : Disposition) (area : Nat) : OpenLoad :=
  { o with
    waste := o.waste + if d = .waste then area else 0
    finishedArea := o.finishedArea + if d = .finished then area else 0
    finishedCount := o.finishedCount + if d = .finished then 1 else 0 }

/-- What disposing of a piece does to the tracker. -/
theorem State.dispose_accounts (s : State) (d : Disposition) (p : Piece) :
    AccountsSame
      { s.gt with
        aside := if d = .aside then p :: s.gt.aside else s.gt.aside
        openLoad := s.gt.openLoad.map fun o => o.disposed d p.rect.area }
      (s.dispose d p).gt := by
  unfold State.dispose
  cases d with
  | waste => exact AccountsSame.refl _
  | aside =>
    refine ⟨rfl, rfl, rfl, rfl, rfl, fun o e => ?_⟩
    obtain ⟨o', opened, rfl⟩ := Option.map_eq_some_iff.mp e
    exact ⟨o', opened, rfl, rfl, rfl, rfl, rfl, rfl⟩
  | finished =>
    exact accountsSame_checkSize
      (s.setGt
        { s.gt with
          openLoad :=
            s.gt.openLoad.map fun o =>
              { o with finishedCount := o.finishedCount + 1, finishedArea := o.finishedArea + p.rect.area } }) _ _

/-- The finished-size check, with the detail written out (R49, Table 27). -/
theorem State.checkSize_eq (s : State) (l e : Nat) :
    s.checkSize l e =
      match s.currentProgram.bind fun x => x.header.finished with
      | none => s
      | some (fw, fd) =>
        if (l = fw ∧ e = fd) ∨ (l = fd ∧ e = fw) then s
        else s.loadWarning .sizeMismatch (if l * 100000 + e < 2 ^ 31 then l * 100000 + e else l : Nat) := by
  have detail : sizeDetail l e = ((if l * 100000 + e < 2 ^ 31 then l * 100000 + e else l : Nat) : Int) := by
    unfold sizeDetail
    split_ifs <;> rfl
  unfold State.checkSize
  rw [detail] <;> rfl

/-! ### Cuts (R46, Table 30) -/

theorem Rect.strip_eq (r : Rect) (q : Fin 4) (n : Nat) :
    r.strip q n =
      if q = 0 then ⟨r.sx, r.sy, r.sw, n⟩
      else if q = 1 then ⟨r.sx + r.sw - n, r.sy, n, r.sd⟩
      else if q = 2 then ⟨r.sx, r.sy + r.sd - n, r.sw, n⟩
      else ⟨r.sx, r.sy, n, r.sd⟩ := by fin_cases q <;> rfl

theorem Rect.remainder_eq (r : Rect) (q : Fin 4) (n : Nat) :
    r.remainder q n =
      if q = 0 then ⟨r.sx, r.sy + n, r.sw, r.sd - n⟩
      else if q = 1 then ⟨r.sx, r.sy, r.sw - n, r.sd⟩
      else if q = 2 then ⟨r.sx, r.sy, r.sw, r.sd - n⟩
      else ⟨r.sx + n, r.sy, r.sw - n, r.sd⟩ := by fin_cases q <;> rfl

theorem Rect.len_remainder (r : Rect) (q : Fin 4) (n : Nat) : (r.remainder q n).len q = r.len q := by
  fin_cases q <;> rfl

/-- What leaves all blocks but the tracker alone, and the waiting commands, changes tracker and link only. -/
theorem TrackerKeeps.state_eq {s t : State} (h : TrackerKeeps s t) (pending : t.pending = s.pending) :
    t = (s.setGt t.gt).setLi t.li := by
  obtain ⟨pr, bg, cs, hs, pl, jg, pt, ps, sm, lines⟩ := h
  cases s
  cases t
  subst pr bg cs hs pl jg pt ps sm lines pending
  rfl

theorem State.applyCut_table {s : State} {c : Cycle} {t : TableLoad} (table : s.gt.table = some t)
    (tracked : c.tracked = true) (id : t.loadId = c.loadId) : s.applyCut c = s.cutStrip t c := by
  unfold State.applyCut
  rw [table]
  exact if_pos ⟨tracked, id⟩

theorem State.applyAborted_table {s : State} {c : Cycle} {t : TableLoad} (table : s.gt.table = some t)
    (tracked : c.tracked = true) (id : t.loadId = c.loadId) :
    s.applyAborted c =
      ((s.setGt { s.gt with table := some { t with scored := true } }).loadWarning .scored c.nominal).cycleNotice c
        (if c.mark = .timedOut then .knifeTimeout else .aborted) ⟨0, 0, 0, 0⟩ 0 := by
  unfold State.applyAborted
  rw [table]
  exact if_pos ⟨tracked, id⟩

/-- A cycle on no table load, or on another one, is only noticed. -/
theorem State.applyCut_other {s : State} {c : Cycle}
    (other : ∀ t, s.gt.table = some t → c.tracked = false ∨ t.loadId ≠ c.loadId) :
    s.applyCut c = s.cycleNotice c .completed ⟨0, 0, 0, 0⟩ 0 ∧
      s.applyAborted c = s.cycleNotice c (if c.mark = .timedOut then .knifeTimeout else .aborted) ⟨0, 0, 0, 0⟩ 0 := by
  unfold State.applyCut State.applyAborted
  cases table : s.gt.table with
  | none => exact ⟨rfl, rfl⟩
  | some t =>
    have away : ¬(c.tracked = true ∧ t.loadId = c.loadId) := fun ⟨tracked, id⟩ =>
      (other t table).elim (fun no => Bool.false_ne_true (no.symm.trans tracked)) (· id)
    exact ⟨if_neg away, if_neg away⟩

/-! ### Ejects and the end of a load (R43, R54) -/

theorem State.eject_table {s : State} {d : Disposition} {t : TableLoad} (table : s.gt.table = some t) :
    s.eject d =
      let x := s.dispose d ⟨t.rect, t.q, t.height, t.loadId⟩
      let y := x.setGt { x.gt with table := none }
      if x.gt.aside = [] then y.endLoad false 0 else y := by
  unfold State.eject
  rw [table]
  rfl

theorem State.endLoad_none {s : State} (closed : s.gt.openLoad = none) (abandoned : Bool) (n : Nat) :
    s.endLoad abandoned n = s := by
  unfold State.endLoad
  rw [closed]

/-- LOAD_DONE with its body, and no load is open (Table 26). -/
theorem State.endLoad_some {s : State} {o : OpenLoad} (opened : s.gt.openLoad = some o) :
    s.endLoad false 0 =
      (s.raise .loadDone
        (leBytes 2 o.id ++ [0x00] ++ leBytes 4 o.w ++ leBytes 4 o.ls ++ count32 o.finishedCount ++
          count64 o.finishedArea ++ count64 o.waste ++ List.replicate 8 0 ++ leBytes 2 o.overflow ++
          leBytes 1 o.warnings.length ++
          o.warnings.flatMap fun e => leBytes 1 e.kind ++ leBytes 1 e.step ++ leBytes 1 e.iter)).setGt
        { s.gt with openLoad := none } := by
  unfold State.endLoad
  rw [opened]
  rfl

/-- Settles O27: cuts, aborts, cycles on no load, ejects, warnings, codes. -/
theorem completedCutUpdatesTheLoad : Obligations.CompletedCutUpdatesTheLoad := by
  unfold Obligations.CompletedCutUpdatesTheLoad
  intro disposes notice
  have disposed (s : State) (d : Disposition) (p : Piece) : s.dispose d p = disposes s d p := by
    cases d with
    | waste => rfl
    | aside => rfl
    | finished => exact State.checkSize_eq _ _ _
  have noticed (s : State) (c : Cycle) (o : Outcome) (r : Rect) (q : Fin 4) :
      s.cycleNotice c o r q = notice s c o.code r q.val := by
    rw [State.cycleNotice_bytes]
    cases disposition : c.disposition <;> simp only [notice, disposition] <;> rfl
  clear_value disposes notice
  refine ⟨fun s c t table tracked id low high => ?_, fun s c t table tracked id => ?_, fun s c other => ?_,
    fun s d t table => ?_, fun s k d => ?_, rfl⟩
  · intro depth r strip left m t1 piece warned s1
    have strip_eq : t.rect.strip t.q depth = strip := Rect.strip_eq _ _ _
    have left_eq : t.rect.remainder t.q depth = left := Rect.remainder_eq _ _ _
    have warned_eq : s.warnHeight t m = warned := rfl
    have cut : s1 = s.cutStrip t c := State.applyCut_table table tracked id
    unfold State.cutStrip at cut
    dsimp only at cut
    rw [warned_eq, strip_eq, left_eq] at cut
    have warnings : AccountsSame s.gt warned.gt := accountsSame_warnHeight s t m
    have stored := State.dispose_accounts (warned.setGt { warned.gt with table := some t1 }) c.disposition piece
    have same : s1.gt = ((warned.setGt { warned.gt with table := some t1 }).dispose c.disposition piece).gt := by
      rw [cut]
      exact State.cycleNotice_gt _ _ _ _ _
    rw [← same] at stored
    have deep : t.depth - depth = c.nominal.toNat := by
      change t.depth - (t.depth - c.nominal.toNat) = c.nominal.toNat
      omega
    have keeps : TrackerKeeps s s1 := trackerKeeps_applyCut s c
    refine ⟨?_, stored.table, ?_, ?_, ?_, fun o opened => ?_, ?_, ?_, ?_, ?_⟩
    · rw [← disposed]
      exact cut.trans (noticed _ _ _ _ _)
    · change ((left.depth t.q : Nat) : Int) = c.nominal
      rw [← left_eq, Rect.depth_remainder, show t.rect.depth t.q - depth = c.nominal.toNat from deep]
      omega
    · change left.len t.q = t.len
      rw [← left_eq, Rect.len_remainder]
      rfl
    · rw [stored.aside]
      exact congrArg (fun l => if c.disposition = .aside then piece :: l else l) warnings.aside
    · obtain ⟨o1, opened1, hid, hw, hls, waste, finished, count⟩ := warnings.openLoad o opened
      obtain ⟨o2, opened2, hid2, hw2, hls2, waste2, finished2, count2⟩ :=
        stored.openLoad (o1.disposed c.disposition piece.rect.area) (congrArg (Option.map _) opened1)
      refine ⟨o2, opened2, hid2.trans hid, hw2.trans hw, hls2.trans hls, waste2.trans ?_, finished2.trans ?_,
        count2.trans ?_⟩
      · exact congrArg (· + _) waste
      · exact congrArg (· + _) finished
      · exact congrArg (· + _) count
    · exact stored.nextId.trans warnings.nextId
    · exact stored.prepared.trans warnings.prepared
    · exact stored.stepBase.trans warnings.stepBase
    · exact keeps.state_eq (kept_applyCut c (Kept.refl False s)).pending
  · have aborted := State.applyAborted_table table tracked id
    refine aborted.trans ((noticed _ _ _ _ _).trans ?_)
    by_cases timedOut : c.mark = .timedOut
    · rw [if_pos timedOut, if_pos timedOut]
      rfl
    · rw [if_neg timedOut, if_neg timedOut]
      rfl
  · obtain ⟨cut, aborted⟩ := State.applyCut_other other
    refine ⟨cut.trans (noticed _ _ _ _ _), aborted.trans ((noticed _ _ _ _ _).trans ?_)⟩
    by_cases timedOut : c.mark = .timedOut
    · rw [if_pos timedOut, if_pos timedOut]
      rfl
    · rw [if_neg timedOut, if_neg timedOut]
      rfl
  · intro x y
    have ejects : s.eject d = if x.gt.aside = [] then y.endLoad false 0 else y := by
      rw [State.eject_table table, disposed]
    refine ⟨fun stays => ?_, fun o empty opened => ?_⟩
    · rw [ejects]
      split_ifs with empty
      · exact State.endLoad_none (s := y) (stays.resolve_left (not_not_intro empty)) _ _
      · rfl
    · rw [ejects, if_pos empty]
      exact State.endLoad_some (s := y) opened
  · intro step iter tells
    have tells_eq (x : State) (id i j : Nat) : x.warn k id i j d = tells x id i j := State.warn_bytes _ _ _ _ _ _
    exact ⟨fun o opened => (State.loadWarning_listed opened k d).trans (tells_eq _ _ _ _),
      fun closed => (State.loadWarning_closed closed k d).trans (tells_eq _ _ _ _), fun id => tells_eq _ _ _ _⟩

end Sys2Proof.Machine
end

section
/-! PROOFS. The safety inputs: channels, discrepancies, the permission, guard, key and emergency stop (R165 to R175). -/

namespace Sys2Proof.Machine

/-! ### The order of an event's responses -/

/-- A list without repetitions loses nothing. -/
theorem eraseDups_of_nodup {α : Type} [BEq α] [LawfulBEq α] {l : List α} (h : l.Nodup) : l.eraseDups = l := by
  induction l with
  | nil => rfl
  | cons a l ih =>
    obtain ⟨fresh, rest⟩ := List.nodup_cons.mp h
    have kept : l.filter (fun b => !b == a) = l := by
      rw [List.filter_eq_self]
      intro b member
      have other : b ≠ a := fun e => fresh (e ▸ member)
      simpa using other
    rw [List.eraseDups_cons, kept, ih rest]

/-- An order that gives every block once is the order of delivery. -/
theorem deliveryOrder_perm {given default : List Consumers} (h : given.Perm default) (nodup : default.Nodup) :
    deliveryOrder given default = given := by
  have all : given.filter (fun c => decide (c ∈ default)) = given := by
    rw [List.filter_eq_self]
    intro c member
    exact decide_eq_true (h.mem_iff.mp member)
  have first : (given.filter fun c => decide (c ∈ default)).reverse.eraseDups.reverse = given := by
    rw [all, eraseDups_of_nodup (List.nodup_reverse.mpr (h.nodup_iff.mpr nodup)), List.reverse_reverse]
  unfold deliveryOrder
  dsimp only
  rw [first, List.filter_eq_nil_iff.mpr, List.append_nil]
  intro c member
  rw [decide_eq_true_eq, not_not]
  exact h.mem_iff.mpr member

/-! ### The inputs -/

theorem Monitor.setInput_rest (m : Monitor) (i : SafetyIn) (x : SafetyInput) :
    (m.setInput i x).permission = m.permission ∧ (m.setInput i x).rearm = m.rearm ∧
      (m.setInput i x).pairStart = m.pairStart ∧ (m.setInput i x).estopLatch = m.estopLatch := by
  cases i <;> exact ⟨rfl, rfl, rfl, rfl⟩

/-- A button's reading has no part in the clamp conditions. -/
theorem Monitor.clampConditions_setInput (m : Monitor) {i : SafetyIn} (button : i = .twoHandLeft ∨ i = .twoHandRight)
    (x : SafetyInput) : (m.setInput i x).clampConditions = m.clampConditions := by
  rcases button with rfl | rfl <;> rfl

theorem Monitor.clampConditions_iff (m : Monitor) :
    m.clampConditions = true ↔
      m.lightCurtain.atUnsafe = false ∧ m.rearGuard.atUnsafe = false ∧ m.bladeKey.atUnsafe = false ∧
        m.estopLatch = false := by
  unfold Monitor.clampConditions
  simp only [Bool.and_eq_true, Bool.not_eq_true', and_assoc]

/-- A button's reading has no part in the other button's. -/
theorem Monitor.otherButton_setInput (m : Monitor) {i : SafetyIn} (button : i = .twoHandLeft ∨ i = .twoHandRight)
    (x : SafetyInput) :
    (m.setInput i x).input (otherButton i) =
      m.input (if i = .twoHandLeft then .twoHandRight else .twoHandLeft) := by
  rcases button with rfl | rfl <;> rfl

/-- The press that completes a synchronous pair (R168). -/
theorem Monitor.pairCompletes_iff (m : Monitor) (now : Nat) :
    m.pairCompletes now = true ↔
      m.rearm = true ∧ m.clampConditions = true ∧ ∃ t, m.pairStart = some t ∧ now ≤ t + 500 := by
  unfold Monitor.pairCompletes
  rw [Bool.and_eq_true, Bool.and_eq_true, and_assoc]
  refine and_congr_right fun _ => and_congr_right fun _ => ?_
  cases m.pairStart with
  | none => simp
  | some t => simp [Config.syncMs]

/-- An input after a reading, written out (R166, R167). -/
theorem SafetyInput.follow_read (x : SafetyInput) (ch : Channel) (reading : Bool) :
    (x.read ch reading).follow =
      let z : SafetyInput := if ch = .a then { x with a := reading } else { x with b := reading }
      let latch : Bool := x.latch && !(z.a && z.b)
      { z with latch := latch, timer := (z.a != z.b) && !latch } := by cases ch <;> rfl

/-! ### A channel's reading -/

/-- The state with the input read, and DISCREPANCY_CLEARED raised when its latch cleared (R165 to R167). -/
def State.inputRead (s : State) (i : SafetyIn) (y : SafetyInput) : State :=
  let s1 := s.setSm (s.sm.setInput i y)
  if (s.sm.input i).latch = true ∧ y.latch = false then s1.safetyNotice (.discrepancyCleared i) else s1

/-- The event of a reading is that of the change of the effective value. -/
theorem State.channelReads_of {s : State} {i : SafetyIn} {ch : Channel} {reading : Bool} {y : SafetyInput}
    (hy : ((s.sm.input i).read ch reading).follow = y) (now : Nat) (order : List Consumers) :
    ((s.sm.input i).atUnsafe = y.atUnsafe → s.channelReads i ch reading now order = s.inputRead i y) ∧
      ((s.sm.input i).atUnsafe = false → y.atUnsafe = true →
        s.channelReads i ch reading now order = (s.inputRead i y).becomesUnsafe i order) ∧
      ((s.sm.input i).atUnsafe = true → y.atUnsafe = false →
        s.channelReads i ch reading now order = (s.inputRead i y).becomesPermissive i now) := by
  have effect : s.channelReads i ch reading now order =
      match (s.sm.input i).atUnsafe, y.atUnsafe with
      | false, true => (s.inputRead i y).becomesUnsafe i order
      | true, false => (s.inputRead i y).becomesPermissive i now
      | _, _ => s.inputRead i y := by
    rw [← hy]
    rfl
  rw [effect]
  refine ⟨fun same => ?_, fun was is => ?_, fun was is => ?_⟩
  · rw [same]
    cases y.atUnsafe <;> rfl
  · rw [was, is]
  · rw [was, is]

theorem State.inputRead_blocks (s : State) (i : SafetyIn) (y : SafetyInput) :
    (s.inputRead i y).sm = s.sm.setInput i y ∧ (s.inputRead i y).cs = s.cs ∧ (s.inputRead i y).lines = s.lines := by
  unfold State.inputRead
  dsimp only
  split <;> exact ⟨rfl, rfl, rfl⟩

theorem State.becomesUnsafe_button {i : SafetyIn} (button : i = .twoHandLeft ∨ i = .twoHandRight) (s : State)
    (order : List Consumers) :
    s.becomesUnsafe i order = (s.setSm (s.sm.released i)).permissionFalls s.sm.permission false := by
  rcases button with rfl | rfl <;> rfl

theorem State.becomesPermissive_button {i : SafetyIn} (button : i = .twoHandLeft ∨ i = .twoHandRight) {s : State}
    (dropped : s.sm.permission = false) (now : Nat) :
    s.becomesPermissive i now =
      let s1 := s.setSm (s.sm.pressed i now)
      if s1.sm.permission = true then s1.permissionRises else s1 := by
  have pressed : s.becomesPermissive i now =
      let s1 := s.setSm (s.sm.pressed i now)
      if s1.sm.permission = true ∧ s.sm.permission = false then s1.permissionRises else s1 := by
    rcases button with rfl | rfl <;> rfl
  rw [pressed]
  simp only [dropped, and_true]

/-- An ESTOP_ACK on its state (R174). -/
theorem decideEstopAck_eq (s : State) :
    decideEstopAck s =
      if s.sm.estopLatch = false then (s, [0x00, s.sm.flags, s.sm.latches])
      else if s.sm.emergencyStop.atUnsafe = true then (s, [0x0C])
      else
        let t := (s.setSm { s.sm with estopLatch := false }).safetyNotice .estopAcknowledged
        (t.recoverRequest.pumpStart, [0x00, t.sm.flags, t.sm.latches]) := rfl

/-- The pump started under a clear latch (R129). -/
theorem State.pumpStart_clear {s : State} (clear : s.sm.estopLatch = false) :
    s.pumpStart =
      if s.hs.pump = .off ∧ s.hs.enable = true ∧ s.hs.anyRequest = true then
        s.setHs { s.hs with pump := .runUp, contactor := true, runUpTimer := some 2000 }
      else s := by
  unfold State.pumpStart Supply.tryStart
  rw [clear]
  simp only [true_and]
  split_ifs <;> rfl

/-- RECOVER asks under a clear latch (R126). -/
theorem State.recoverRequest_clear {s : State} (clear : s.sm.estopLatch = false) :
    s.recoverRequest = if s.cs.state = .recover then s.request .cut else s := by
  unfold State.recoverRequest
  simp only [clear, and_true]

/-- The key turned off with both sensors made (R123). -/
theorem State.keyTurnsOff_home {s : State} (blade : s.cs.state = .bladeChange) (off : s.keyOn = false)
    (home : s.lines.clampUp = true ∧ s.lines.knifeTop = true) :
    s.keyTurnsOff = s.setCs (s.cs.rest .ready) := by
  unfold State.keyTurnsOff State.homeOrRecover State.readyState
  rw [if_pos blade, if_pos ((State.cutterHome_iff s).mpr home), if_neg (ne_true_of_eq_false off)]

/-- The key turned off with a sensor open (R123, R126). -/
theorem State.keyTurnsOff_away {s : State} (blade : s.cs.state = .bladeChange)
    (away : ¬(s.lines.clampUp = true ∧ s.lines.knifeTop = true)) :
    s.keyTurnsOff =
      let r := s.setCs (s.cs.rest .recover)
      if s.sm.estopLatch then r else r.request .cut := by
  unfold State.keyTurnsOff State.homeOrRecover State.enterRecover State.recoverRequest
  rw [if_pos blade, if_neg fun e => away ((State.cutterHome_iff s).mp e)]
  change (if CutState.recover = .recover ∧ s.sm.estopLatch = false then _ else _) = _
  cases s.sm.estopLatch <;> rfl

/-- Settles O59: a channel's reading by the change of its effective value, a discrepancy, the acknowledgement. -/
theorem safetyInputsAct : Obligations.SafetyInputsAct := by
  unfold Obligations.SafetyInputsAct
  intro shows
  refine ⟨fun s m i ch reading now order => ?_, fun s m i => ?_, fun s m tag empty => ?_⟩
  · intro c h x z latch y changed s2 was is fallen other clear
    obtain ⟨stays, rises, falls⟩ := State.channelReads_of (s := h) (y := y)
      (SafetyInput.follow_read x ch reading) now order
    obtain ⟨sm, cs, lines⟩ : s2.sm = s.sm.setInput i y ∧ s2.cs = h.cs ∧ s2.lines = m := h.inputRead_blocks i y
    obtain ⟨permission, rearm, pairStart, estopLatch⟩ := s.sm.setInput_rest i y
    rw [← sm] at permission rearm pairStart estopLatch
    have becomes {t : State} (e : h.channelReads i ch reading now order = t) : Becomes c s t :=
      becomes_of (effect := fun w => w.channelReads i ch reading now order) rfl e
    refine ⟨fun same => becomes (stays same), fun safe bad => ?_, fun bad safe => ?_⟩
    · have read : h.channelReads i ch reading now order = s2.becomesUnsafe i order := rises safe bad
      refine ⟨fun button => becomes (read.trans ?_), fun curtain => becomes (read.trans ?_),
        fun guard perm => becomes (read.trans ?_), fun key => ?_, fun estop latched => becomes (read.trans ?_),
        fun estop clear perm => becomes (read.trans ?_)⟩
      · rw [State.becomesUnsafe_button button, Monitor.released, permission, rearm, sm,
          Monitor.otherButton_setInput _ button]
      · rw [curtain, ← permission]
        rfl
      · rw [guard, ← permission]
        change s2.guardOpens order = _
        unfold State.guardOpens
        rw [deliveryOrder_perm perm (by decide)]
        refine congrArg (fun f => List.foldl f _ order) (funext fun t => funext fun b => ?_)
        cases b <;> rfl
      · intro t
        refine becomes (read.trans ?_)
        rw [key]
        change s2.keyGoesOn = _
        unfold State.keyGoesOn
        rw [permission]
        rfl
      · rw [estop]
        exact if_pos (estopLatch.trans latched)
      · rw [estop]
        refine (if_neg (ne_true_of_eq_false (estopLatch.trans clear))).trans ?_
        unfold State.emergencyStop
        rw [deliveryOrder_perm perm (by decide)]
        refine congrArg (fun f => List.foldl f _ order) (funext fun t => funext fun b => ?_)
        cases b <;> rfl
    · have read : h.channelReads i ch reading now order = s2.becomesPermissive i now := falls bad safe
      refine ⟨fun button dropped => ?_, fun quiet => becomes (read.trans ?_), fun guard => becomes (read.trans ?_),
        fun key away => becomes (read.trans ?_), fun key blade up top => becomes (read.trans ?_),
        fun key blade away => becomes (read.trans ?_)⟩
      · have presses := read.trans (State.becomesPermissive_button button (permission.trans dropped) now)
        have conditions : s2.sm.clampConditions = true ↔ clear := by
          rw [sm, Monitor.clampConditions_setInput _ button]
          exact Monitor.clampConditions_iff s.sm
        have pair := Monitor.pairCompletes_iff s2.sm now
        rw [conditions, rearm, pairStart] at pair
        have second : (s2.sm.input (otherButton i)).atUnsafe = other := by
          rw [sm, Monitor.otherButton_setInput _ button]
        have pressed : s2.sm.pressed i now = if other = true then _ else _ :=
          if_congr (Bool.eq_iff_iff.mp second) rfl rfl
        refine ⟨fun first => becomes (presses.trans ?_),
            fun t held start inTime armed free => becomes (presses.trans ?_),
          fun held late => becomes (presses.trans ?_)⟩
        · rw [pressed, if_pos first]
          exact if_neg (ne_true_of_eq_false (permission.trans dropped))
        · rw [pressed, if_neg (ne_true_of_eq_false held), if_pos (pair.mpr ⟨armed, free, t, start, inTime⟩)]
          rfl
        · have fails : ¬s2.sm.pairCompletes now = true := by
            intro made
            obtain ⟨armed, free, t, start, inTime⟩ := pair.mp made
            rcases late with none | ⟨t', start', late⟩ | unarmed | barred
            · exact Option.some_ne_none t (start.symm.trans none)
            · obtain rfl : t = t' := Option.some.inj (start.symm.trans start')
              exact absurd inTime (Nat.not_le.mpr late)
            · exact Bool.false_ne_true (unarmed.symm.trans armed)
            · exact barred free
          rw [pressed, if_neg (ne_true_of_eq_false held), if_neg fails]
          exact if_neg (ne_true_of_eq_false (permission.trans dropped))
      · rcases quiet with e | e
        · rw [e]
          rfl
        · rw [e]
          rfl
      · rw [guard]
        rfl
      · rw [key]
        exact if_neg fun e => away ((congrArg CutStation.state cs).symm.trans e)
      · have keyOff : s2.sm.bladeKey.atUnsafe = false := by
          rw [sm, key]
          exact safe
        rw [key]
        have off := State.keyTurnsOff_home (s := shows s2 6 0xFF) ((congrArg CutStation.state cs).trans blade)
          keyOff (by rw [show (shows s2 6 0xFF).lines = m from lines]; exact ⟨up, top⟩)
        rw [show (shows s2 6 0xFF).cs = h.cs from cs] at off
        exact off
      · rw [key]
        have off := State.keyTurnsOff_away (s := shows s2 6 0xFF) ((congrArg CutStation.state cs).trans blade)
          (by rw [show (shows s2 6 0xFF).lines = m from lines]; exact away)
        rw [show (shows s2 6 0xFF).cs = h.cs from cs, show (shows s2 6 0xFF).sm.estopLatch = _ from estopLatch] at off
        exact off
  · intro c h x runs
    have effect : h.discrepancyExpires i = if runs then _ else _ := if_congr (and_congr_right' bne_iff_ne) rfl rfl
    exact ⟨fun run => becomes_of rfl (effect.trans (if_pos run)),
        fun still => becomes_of rfl (effect.trans (if_neg still))⟩
  · intro c closed t
    have decides {u : State} {body : List Byte} (e : decideEstopAck closed = (u, body)) : Decides c s u body :=
      decides_owner (r := .estopAck) rfl empty rfl e
    have decided := decideEstopAck_eq closed
    refine ⟨fun clear => decides (decided.trans (if_pos clear)), fun latched bad => decides (decided.trans
      ((if_neg (ne_false_of_eq_true latched)).trans (if_pos bad))), fun latched good => ?_⟩
    intro asked
    refine decides (decided.trans ((if_neg (ne_false_of_eq_true latched)).trans
      ((if_neg (ne_true_of_eq_false good)).trans ?_)))
    have asks : t.recoverRequest = asked := State.recoverRequest_clear rfl
    have sm : asked.sm.estopLatch = false := by
      rw [← asks, (supplyKeeps_recoverRequest t).sm]
      rfl
    rw [← State.pumpStart_clear sm, ← asks]
    rfl

end Sys2Proof.Machine
end

section
/-! PROOFS. SKIP and ABORT, at once and pending, and the hold points (R66, R83, R86, R87, R120). -/

namespace Sys2Proof.Machine

/-! ### SKIP (R86) -/

/-- SKIP at its state, written out over the Runner's states. -/
theorem State.doSkip_eq (s : State) :
    s.doSkip =
      let y := s.advance.dropPrepared
      if s.sm.estopLatch = true then y
      else if s.pr.state = .running then y.boundary
      else if s.pr.state = .held then y.boundaryBy id
      else y := by
  unfold State.doSkip
  cases s.pr.state <;> rfl

/-- R86 refuses SKIP. -/
def State.skipBarred (s : State) : Bool :=
  decide (s.pr.state ≠ .running ∧ s.pr.state ≠ .held) || s.pr.abortPending || s.pr.skipPending ||
    s.turnUnfinished || s.atEnd ||
    (decide (s.stepKind ≠ some .cut ∧ s.pr.state = .running) && !s.waiting)

theorem State.waiting_iff (s : State) :
    s.waiting = true ↔ s.pr.phase = .infeedWait ∨ s.pr.phase = .placeWait ∨ s.pr.phase = .removeWait := by
  unfold State.waiting
  cases s.pr.phase <;> decide

theorem State.stepKind_ne_cut (s : State) :
    s.stepKind ≠ some .cut ↔ ∀ r, s.currentStep = some r → r.kind ≠ .cut := by
  unfold State.stepKind
  cases s.currentStep <;> simp

theorem State.skipBarred_iff (s : State) :
    s.skipBarred = true ↔
      (s.pr.state ≠ .running ∧ s.pr.state ≠ .held) ∨ s.pr.abortPending = true ∨ s.pr.skipPending = true ∨
        (s.pt.state ≠ .parked ∧ s.pt.state ≠ .fault) ∨
        (∃ p, s.currentProgram = some p ∧ s.pr.step = p.steps.length) ∨
        ((∀ r, s.currentStep = some r → r.kind ≠ .cut) ∧ s.pr.state = .running ∧
          ¬(s.pr.phase = .infeedWait ∨ s.pr.phase = .placeWait ∨ s.pr.phase = .removeWait)) := by
  unfold State.skipBarred
  simp only [Bool.or_eq_true, Bool.and_eq_true, decide_eq_true_eq, or_assoc, and_assoc, State.turnUnfinished_iff,
    State.atEnd_iff, State.stepKind_ne_cut, Bool.not_eq_true', ← Bool.not_eq_true, State.waiting_iff]

theorem decideSkip_eq (s : State) :
    decideSkip s =
      if s.skipBarred = true then (s, [0x04])
      else if s.runnerMoveInFlight = true ∨ s.runnerCycleInFlight = true then
        (s.setPr { s.pr with skipPending := true }, [0x00])
      else (s.withdrawRunner.doSkip, [0x00]) := by
  have step : decideSkip s =
      match firstRefusal [(s.skipBarred, .badState)] with
      | some st => refuse s st
      | none =>
        if s.runnerMoveInFlight || s.runnerCycleInFlight then take (s.setPr { s.pr with skipPending := true }) []
        else take s.withdrawRunner.doSkip [] := rfl
  rw [step, firstRefusal_step Iff.rfl, firstRefusal_nil]
  simp only [Bool.or_eq_true]
  split_ifs <;> rfl

/-! ### ABORT (R87) -/

theorem decideAbort_idle {s : State} (h : s.pr.state = .idle ∨ s.pr.abortPending = true) :
    decideAbort s = (s, [0x04]) := by
  unfold decideAbort
  by_cases pending : s.pr.abortPending = true
  · exact if_pos pending
  · rw [if_neg pending, h.resolve_right pending]
    rfl

theorem decideAbort_ready {s : State} (ready : s.pr.state = .ready) (calm : s.pr.abortPending = false) :
    decideAbort s = (s.goIdle, [0x00]) := by
  unfold decideAbort
  rw [if_neg (ne_true_of_eq_false calm), ready]
  rfl

theorem decideAbort_open {s : State} (opened : s.runOpen = true) (calm : s.pr.abortPending = false) :
    decideAbort s =
      if s.abortWaits = true then ((s.setPr { s.pr with abortPending := true }).withdrawRunner, [0x00])
      else (s.withdrawRunner.abortEnd, [0x00]) := by
  unfold decideAbort
  rw [if_neg (ne_true_of_eq_false calm)]
  unfold State.runOpen at opened
  revert opened
  cases s.pr.state <;> intro opened
  · exact absurd opened (by decide)
  · exact absurd opened (by decide)
  · rfl
  · rfl
  · rfl

/-- The front of the FAULT notice of an aborted run (Table 41). -/
theorem FaultRec.aborted_bytes (p st i l : Nat) :
    (⟨.aborted, p, st, i, l, 0⟩ : FaultRec).bytes =
      [0x0F, 0x00] ++ (leBytes 1 p ++ leBytes 1 st ++ leBytes 1 i) ++ leBytes 2 l ++ [0, 0, 0, 0] := by
  have detail : leInt 4 0 = [0, 0, 0, 0] := by decide
  unfold FaultRec.bytes
  rw [detail]
  rfl

/-- The RUN_END notice of an aborted run (Table 39). -/
theorem State.runEnd_aborted (s : State) :
    s.runEnd .aborted =
      s.raise .runEnd
        ([0x02] ++ leBytes 1 s.pr.program ++ leBytes 1 s.pr.step ++ leBytes 2 s.pr.done ++
          leBytes 2 (if s.pr.limit = 0 then 0 else s.pr.limit - s.pr.done)) := rfl

/-! ### Hold points (R83) -/

theorem State.cutAtHoldPoint_iff (s : State) :
    s.cutAtHoldPoint = true ↔ s.cs.state = .armed ∨ s.cs.state = .grantWait ∨ s.cs.state = .preclamped := by
  unfold State.cutAtHoldPoint
  cases s.cs.state <;> decide

/-- The run's cycle short of the clamp's descent. -/
theorem State.runnerCycleShort_iff (s : State) :
    (s.cutAtHoldPoint && s.cs.cycle.any fun c => decide (c.issuer = .runner)) = true ↔
      (s.cs.state = .armed ∨ s.cs.state = .grantWait ∨ s.cs.state = .preclamped) ∧
        ∃ c, s.cs.cycle = some c ∧ c.issuer = .runner := by
  rw [Bool.and_eq_true, State.cutAtHoldPoint_iff, Option.any_eq_true]
  simp only [decide_eq_true_eq]

theorem State.runnerCycleHeld_iff (s : State) :
    s.runnerCycleHeld = true ↔
      ((s.cs.state = .armed ∨ s.cs.state = .grantWait ∨ s.cs.state = .preclamped) ∧
        ∃ c, s.cs.cycle = some c ∧ c.issuer = .runner) ∨ s.pr.waits = .cycle := by
  unfold State.runnerCycleHeld
  rw [Bool.or_eq_true, State.runnerCycleShort_iff, decide_eq_true_eq]

theorem State.atHoldPoint_iff (s : State) :
    s.atHoldPoint = true ↔
      s.pr.state = .running ∧
        ((s.pr.phase = .infeedWait ∨ s.pr.phase = .placeWait ∨ s.pr.phase = .removeWait) ∨
          (s.pr.phase = .cutting ∧ s.runnerCycleHeld = true)) := by
  unfold State.atHoldPoint
  cases s.pr.phase <;> simp

theorem supplyKeeps_withdrawRunner (s : State) : SupplyKeeps s s.withdrawRunner := by
  unfold State.withdrawRunner
  split
  · exact supplyKeeps_csWithdraw s
  · exact SupplyKeeps.refl s

theorem State.cycleDropped_open {s : State} {c : Cycle} {cause : Nat} (runner : c.issuer = .runner)
    (opened : s.runOpen = true) : s.cycleDropped c cause = s.afterWork id := by
  unfold State.cycleDropped
  rw [runner]
  exact if_pos opened

/-- The station's look at a cycle at its hold point (R120). -/
theorem State.csFollow_held {s : State} {c : Cycle} (cycle : s.cs.cycle = some c)
    (held : s.cutAtHoldPoint = true) :
    s.csFollow =
      match c.issuer with
      | .runner => if s.pr.state = .running then s else s.csWithdraw
      | .manual =>
        match s.manualStop with
        | some cause => s.csWithdraw.cutNowEnded cause
        | none => s := by
  unfold State.csFollow
  rw [cycle]
  exact if_pos held

/-- The cycle waits for a station that is not READY (log 19). -/
theorem State.handCycle_waits {s : State} {c : Cycle} (figures : s.pr.figures = some c)
    (away : s.cs.state ≠ .ready) :
    s.handCycle = s.setPr { s.pr with phase := .cutting, waits := .cycle } := by
  unfold State.handCycle
  split
  · exact if_neg away
  · rename_i none
    exact absurd (figures.symm.trans none) (Option.some_ne_none c)

/-- Settles O36: SKIP, ABORT, the end of the run, and what pends at the ends of work and at hold points. -/
theorem skipEndsTheStepAndAbortTheRun : Obligations.SkipEndsTheStepAndAbortTheRun := by
  refine ⟨fun s m tag empty => ?_, fun s m tag empty => ?_, fun s opened => ?_, fun s => ?_⟩
  · intro c closed waitPhase barred flight w a
    have decides {t : State} {body : List Byte} (e : decideSkip closed = (t, body)) : Decides c s t body :=
      decides_owner (r := .skip) rfl empty rfl e
    have decided := decideSkip_eq closed
    have bars : closed.skipBarred = true ↔ barred := closed.skipBarred_iff
    have keeps : SupplyKeeps closed w := supplyKeeps_withdrawRunner closed
    have skips : w.doSkip = _ := w.doSkip_eq
    have advanced : w.advance.dropPrepared = a := by
      unfold State.advance
      rw [show w.pr.done = s.pr.done from congrArg Runner.done keeps.pr,
        show w.pr.step = s.pr.step from congrArg Runner.step keeps.pr]
      rfl
    rw [advanced, keeps.sm, keeps.pr] at skips
    dsimp only at skips
    refine ⟨fun bar => decides (decided.trans (if_pos (bars.mpr bar))), fun free work => decides (decided.trans
      ((if_neg (mt bars.mp free)).trans (if_pos work))), ?_⟩
    have ends (free : ¬barred) (still : ¬flight) : decideSkip closed = (w.doSkip, [0x00]) :=
      decided.trans ((if_neg (mt bars.mp free)).trans (if_neg still))
    refine ⟨fun free still latched => decides ((ends free still).trans ?_),
      fun free still clear running => decides ((ends free still).trans ?_),
      fun free still clear held => decides ((ends free still).trans ?_)⟩
    · exact congrArg (·, _) (skips.trans (if_pos latched))
    · exact congrArg (·, _) (skips.trans ((if_neg (ne_true_of_eq_false clear)).trans (if_pos running)))
    · refine congrArg (·, _) (skips.trans ((if_neg (ne_true_of_eq_false clear)).trans
        ((if_neg fun running => ?_).trans (if_pos held))))
      exact absurd (running.symm.trans held) (by decide)
  · intro c closed
    have decides {t : State} {body : List Byte} (e : decideAbort closed = (t, body)) : Decides c s t body :=
      decides_owner (r := .abort) rfl empty rfl e
    refine ⟨fun bar => decides (decideAbort_idle bar), fun ready calm => decides (decideAbort_ready ready calm),
      fun opened calm => ⟨fun waits => ?_, fun still => ?_⟩⟩
    · exact decides ((decideAbort_open (s := closed) opened calm).trans (if_pos waits))
    · exact decides ((decideAbort_open (s := closed) opened calm).trans (if_neg (ne_true_of_eq_false still)))
  · intro t position
    have record : s.faultRecord .aborted 0 = _ := (s.faultRecord_eq .aborted 0).trans (if_pos opened)
    have ended : t = _ := State.abortEnd.eq_1 s
    rw [record] at ended
    have first : flagByte [s.pr.fault.isNone, false, false] = if s.pr.fault.isNone = true then 0x01 else 0x00 := by
      cases s.pr.fault <;> rfl
    rw [first, FaultRec.aborted_bytes, State.runEnd_aborted] at ended
    rw [ended]
    exact ⟨rfl, rfl, rfl, rfl, rfl, rfl⟩
  · intro short ours withdrawn held skipped reason waits here
    have skips (x : State) : x.doSkip = skipped x := x.doSkip_eq
    have withdraws : s.csWithdraw = withdrawn := rfl
    have holds (why : HoldReason) (x : State) : x.toHeld why = held why x := rfl
    have ours_iff : (s.cutAtHoldPoint && s.cs.cycle.any fun c => decide (c.issuer = .runner)) = true ↔ ours :=
      s.runnerCycleShort_iff
    have heldCycle : s.runnerCycleHeld = true ↔ ours ∨ s.pr.waits = .cycle := s.runnerCycleHeld_iff
    have atPoint : s.atHoldPoint = true ↔ here := by
      rw [State.atHoldPoint_iff, heldCycle]
    have standing : s.standingReason = reason := rfl
    clear_value withdrawn held skipped reason
    have aborts (abort : s.pr.abortPending = true) (next : State → State) : s.afterWork next = s.abortEnd :=
      if_pos abort
    have ends (calm : s.pr.abortPending = false) (skip : s.pr.skipPending = true) (next : State → State) :
        s.afterWork next = skipped s :=
      (if_neg (ne_true_of_eq_false calm)).trans ((if_pos skip).trans (skips s))
    refine ⟨fun abort => ⟨aborts abort _, aborts abort _, aborts abort _, aborts abort _, fun guard =>
        ⟨if_pos abort, aborts abort _⟩⟩,
      fun calm skip => ⟨ends calm skip _, ends calm skip _, ends calm skip _, ends calm skip _,
        fun guard => ends calm skip _, ?_, ?_⟩,
      fun c cause => ⟨fun manual => State.cycleDropped_manual manual s cause,
        fun runner closed => State.cycleDropped_runner runner (.inl closed) cause, fun runner opened => ?_⟩,
      fun mine => ?_, fun other => ?_, fun point => ?_, fun away => ?_, fun why stands => ?_, fun free => ?_,
      fun free => ?_, fun c cycle brief => ?_, fun away => ?_⟩
    · exact (if_neg (ne_true_of_eq_false calm)).trans ((if_pos skip).trans (skips s))
    · refine (if_neg (ne_true_of_eq_false calm)).trans ?_
      have stopped : (if true = true ∧ s.pr.state = .running then s.toHeld .guardOpen else s) =
          if s.pr.state = .running then held .guardOpen s else s := if_congr (by rw [eq_self, true_and]) (holds _ s) rfl
      have pending :
          (if true = true ∧ s.pr.state = .running then s.toHeld .guardOpen else s).pr.skipPending = true := by
        split_ifs
        · exact skip
        · exact skip
      rw [stopped] at pending
      dsimp only
      rw [stopped, if_pos pending]
      exact skips _
    · have dropped : s.cycleDropped c cause = s.afterWork id := State.cycleDropped_open runner opened
      rw [dropped]
      exact ⟨fun abort => aborts abort _, fun calm skip => ends calm skip _,
        fun calm skip => State.afterWork_next calm skip _⟩
    · exact (if_pos (ours_iff.mpr mine)).trans withdraws
    · exact if_neg (mt ours_iff.mp other)
    · have keeps := supplyKeeps_withdrawRunner s
      have pending (work : (s.pr.abortPending || s.pr.skipPending) = true) :
          s.pendingAtArmed = s.withdrawRunner.afterWork id :=
        if_pos (by rw [heldCycle.mpr point, work]; rfl)
      refine ⟨fun abort => ?_, fun calm skip => ?_⟩
      · refine (pending (by rw [abort]; rfl)).trans ?_
        unfold State.afterWork
        rw [keeps.pr]
        exact if_pos abort
      · refine (pending (by rw [skip]; exact Bool.or_true _)).trans ?_
        unfold State.afterWork
        rw [keeps.pr]
        exact (if_neg (ne_true_of_eq_false calm)).trans ((if_pos skip).trans (skips _))
    · refine State.pendingAtArmed_quiet ?_
      rcases away with ⟨other, handed⟩ | ⟨abort, skip⟩
      · rw [eq_false_of_ne_true (mt heldCycle.mp (not_or.mpr ⟨other, handed⟩))]
        rfl
      · rw [abort, skip]
        exact Bool.and_false _
    · have points {x : State} (same : x.standingReason = reason) (next : State → State) :
          x.holdOr next = held why x := by
        unfold State.holdOr
        rw [same, stands]
        exact holds why x
      refine ⟨points standing _, points standing _,
        fun r => ?_, fun waiting => ?_⟩
      · unfold State.nextIteration
        exact points (x := s.inPhase .positioning) standing _
      · unfold State.takeHold
        rw [if_pos (atPoint.mpr waiting), standing, stands]
        exact holds why _
    · exact State.takeHold_quiet (free.imp (fun away => eq_false_of_ne_true (mt atPoint.mp away)) (standing.trans ·))
    · have points {x : State} (same : x.standingReason = reason) (next : State → State) : x.holdOr next = next x := by
        unfold State.holdOr
        rw [same, free]
      refine ⟨fun c figures => ?_, fun r => ?_⟩
      · refine (points standing _).trans ?_
        by_cases ready : s.cs.state = .ready
        · rw [if_pos ready]
          exact State.handCycle_ready figures ready
        · rw [if_neg ready]
          exact State.handCycle_waits figures ready
      · intro p
        unfold State.nextIteration
        exact (points (x := s.inPhase .positioning) standing _).trans (if_congr Iff.rfl (holds _ p) rfl)
    · have atHold : s.cutAtHoldPoint = true := s.cutAtHoldPoint_iff.mpr brief
      refine ⟨fun runner => ?_, fun manual => ?_⟩
      · rw [State.csFollow_held cycle atHold, runner, withdraws]
      · rw [State.csFollow_held cycle atHold, manual, withdraws]
        dsimp only
        unfold State.manualStop
        split_ifs <;> rfl
    · refine State.csFollow_quiet ?_
      rcases away with away | empty
      · exact .inl (eq_false_of_ne_true (mt s.cutAtHoldPoint_iff.mp away))
      · exact .inr fun c e => absurd (empty.symm.trans e) (Option.some_ne_none c).symm

end Sys2Proof.Machine
end

section
/-! PROOFS. What a move chooses, and how a move, a turn or a cycle is handed to its unit (R97, R100 to R104, R125, R156,
R159). -/

namespace Sys2Proof.Machine

/-! ### The motion of approaches and retracts (R97, R100, R101, R104) -/

/-- An approach with a motion begins its first segment, or dwells for it. -/
theorem State.approach_moves {s : State} {i : MoveIssuer} {fromSlot : Bool} {k : MoveKind} {t p : Int} {d : Direction}
    {xs : List Segment} (plan : s.approachPlan t = .to d p :: xs) :
    s.approach i fromSlot k t =
      .moving
        (s.setBg
          { s.bg with
            target := t
            inPos := false
            move := some ⟨i, k, .to d p :: xs, fromSlot, t⟩
            state := if s.bg.dir = d then (Segment.to d p).state else .dwell
            dwell := if s.bg.dir = d then none else some s.ps.settings.reversalDwell }) := by
  rw [State.approach_of_plan plan, State.beginMove, Gauge.beginSegment_to]
  simp only [eq_comm (a := d)]
  cases d <;> rfl

theorem State.approach_still {s : State} {i : MoveIssuer} {fromSlot : Bool} {k : MoveKind} {t : Int}
    (plan : s.approachPlan t = []) :
    s.approach i fromSlot k t =
      .completed (s.setBg { s.bg with state := .standing, target := t, inPos := true, move := none, dwell := none })
        (decide (s.bg.dir = .backward)) := by
  unfold State.approach
  rw [plan]

theorem State.retract_moves {s : State} {i : MoveIssuer} {r : Int} (short : s.bg.actual < r - 2) :
    s.retract i r =
      .moving
        (s.setBg
          { s.bg with
            target := r
            inPos := false
            move := some ⟨i, .retract, [.to .backward r], false, r⟩
            state := if s.bg.dir = .backward then .movingBack else .dwell
            dwell := if s.bg.dir = .backward then none else some s.ps.settings.reversalDwell }) := by
  refine (if_pos short).trans ?_
  rw [State.beginMove, Gauge.beginSegment_to]
  simp only [eq_comm (a := Direction.backward)]
  rfl

theorem State.retract_still {s : State} {i : MoveIssuer} {r : Int} (clear : r - 2 ≤ s.bg.actual) :
    s.retract i r = .completed (s.setBg { s.bg with inPos := false }) false := if_neg (Int.not_lt.mpr clear)

theorem State.retract_completed {s v : State} {i : MoveIssuer} {r : Int} {backward : Bool}
    (h : s.retract i r = .completed v backward) : v = s.setBg { s.bg with inPos := false } := by
  unfold State.retract at h
  split at h
  · cases h
  · cases h
    rfl

/-! ### A move of the run at the gauge (R103, R85) -/

theorem State.runnerMove_refused (x : State) (start : State → Started) (done : State → Bool → State) :
    (x.gaugeBusy = true → x.runnerMove start done = x.setPr { x.pr with waits := .move }) ∧
      (x.gaugeBusy = false → x.bg.referenced = false → x.runnerMove start done = x.reportFault .notReferenced 0) ∧
      (x.gaugeBusy = false → x.bg.referenced = true → x.sm.estopLatch = true → x.runnerMove start done = x) ∧
      (x.gaugeBusy = false → x.bg.referenced = true → x.sm.estopLatch = false → x.guardOpen = true →
        x.runnerMove start done = x.toHeld .guardOpen) := by
  unfold State.runnerMove State.moveRefusal
  refine ⟨fun busy => ?_, fun still unknown => ?_, fun still known latched => ?_, fun still known clear guard => ?_⟩
  · rw [busy]
    rfl
  · rw [still, unknown]
    rfl
  · rw [still, known, latched]
    rfl
  · rw [still, known, clear, guard]
    rfl

/-- A move the gauge takes (R103). -/
theorem State.runnerMove_free {x : State}
    (free : x.gaugeBusy = false ∧ x.bg.referenced = true ∧ x.sm.estopLatch = false ∧ x.guardOpen = false)
    (start : State → Started) (done : State → Bool → State) :
    x.runnerMove start done =
      match start (x.setPr { x.pr with waits := .nothing }) with
      | .moving v => v
      | .completed v backward => done v backward := by
  obtain ⟨still, known, clear, guard⟩ := free
  unfold State.runnerMove State.moveRefusal
  rw [still, known, clear, guard]
  rfl

theorem State.runnerMove_moving {x v : State} {start : State → Started} {done : State → Bool → State}
    (free : x.gaugeBusy = false ∧ x.bg.referenced = true ∧ x.sm.estopLatch = false ∧ x.guardOpen = false)
    (moves : start (x.setPr { x.pr with waits := .nothing }) = .moving v) : x.runnerMove start done = v := by
  rw [State.runnerMove_free free, moves]

theorem State.runnerMove_completed {x v : State} {b : Bool} {start : State → Started} {done : State → Bool → State}
    (free : x.gaugeBusy = false ∧ x.bg.referenced = true ∧ x.sm.estopLatch = false ∧ x.guardOpen = false)
    (completes : start (x.setPr { x.pr with waits := .nothing }) = .completed v b) :
    x.runnerMove start done = done v b := by
  rw [State.runnerMove_free free, completes]

theorem State.handPositioning_figures {s : State} {c : Cycle} (figures : s.pr.figures = some c) :
    s.handPositioning =
      s.runnerMove (fun x => x.approach .runner false .approach c.target) fun x backward =>
        (x.warnBackward backward true c.target).positioned := by
  unfold State.handPositioning
  rw [figures]

theorem State.warnBackward_tracked (s : State) (b : Bool) (t : Int) :
    s.warnBackward b true t = if b = true then s.loadWarning .backwardApproach t else s := by cases b <;> rfl

/-- What waits is handed again (R103; log 19). -/
theorem State.handAgain_eq (s : State) :
    s.handAgain =
      if s.pr.state ≠ .running then s
      else if s.pr.waits = .cycle ∧ s.cs.state = .ready then s.positioned
      else if s.pr.waits = .move ∧ s.gaugeBusy = false then
        (if s.pr.phase = .positioning then s.handPositioning
        else if s.pr.phase = .retract then s.handRetract
        else if s.pr.phase = .contact then s.handContact
        else s)
      else s := by
  unfold State.handAgain
  refine if_congr Iff.rfl rfl ?_
  cases waits : s.pr.waits with
  | nothing => rfl
  | cycle =>
    by_cases ready : s.cs.state = .ready
    · rw [if_pos ready, if_pos ⟨rfl, ready⟩]
      rfl
    · rw [if_neg ready, if_neg fun e => ready e.2]
      rfl
  | move =>
    rw [if_neg (show ¬(Waiting.move = .cycle ∧ s.cs.state = .ready) from fun e => absurd e.1 (by decide))]
    cases s.gaugeBusy with
    | true => rfl
    | false => cases s.pr.phase <;> rfl

/-! ### Handing a turn (R156, R159) -/

/-- The clearance position of the turn to hand or to resume. -/
def State.turnPosition (s : State) : Int :=
  if decide (s.pt.state = .interrupted) then (s.pt.record.map TurnRec.clearance).getD s.pr.retractPos
  else s.pr.retractPos

theorem State.turnPosition_eq {s : State} {r : Int}
    (position : (s.pt.state ≠ .interrupted ∧ r = s.pr.retractPos) ∨
      (s.pt.state = .interrupted ∧ ∃ x, s.pt.record = some x ∧ r = x.clearance)) : s.turnPosition = r := by
  unfold State.turnPosition
  rcases position with ⟨other, rfl⟩ | ⟨cut, x, record, rfl⟩
  · rw [decide_eq_false other]
    rfl
  · rw [decide_eq_true cut, record]
    rfl

theorem State.handTurn_eq (s : State) :
    s.handTurn =
      match s.handRefusal s.turnPosition with
      | some .halted => s.toHeld .lineHalt
      | some .safetyBlocked => s
      | some .guard => s.toHeld .guardOpen
      | some .notReferenced => s.reportFault .notReferenced 0
      | some .notClear =>
        (s.inPhase .retract).runnerMove (fun x => x.retract .runner s.turnPosition) fun x _ =>
          x.setPr { x.pr with waits := .move }
      | none =>
        if decide (s.pt.state = .interrupted) then s.turnResumed
        else if s.pt.state = .parked then
          s.turnTaken
            { issuer := .runner
              tracked := true
              loadId := s.loadId
              commanded := (s.currentStep.map StepRec.value).getD 0
              completed := 0
              clearance := s.turnPosition
              interrupted := none }
        else s := rfl

/-- What a refusal other than the gauge's place does to the Runner (R156). -/
def State.turnRefused (s : State) : HandRefusal → State
  | .halted => s.toHeld .lineHalt
  | .safetyBlocked => s
  | .guard => s.toHeld .guardOpen
  | .notReferenced => s.reportFault .notReferenced 0
  | .notClear =>
    (s.inPhase .retract).runnerMove (fun x => x.retract .runner s.turnPosition) fun x _ =>
      x.setPr { x.pr with waits := .move }

theorem State.handTurn_refused {s : State} {why : HandRefusal} (refused : ∀ r, s.handRefusal r = some why) :
    s.handTurn = s.turnRefused why := by
  rw [State.handTurn_eq, refused]
  cases why <;> rfl

/-- A gauge in the way is retracted first (R156). -/
theorem State.handTurn_notClear {s : State} {r : Int} (position : s.turnPosition = r)
    (short : s.handRefusal r = some .notClear) :
    s.handTurn =
      (s.inPhase .retract).runnerMove (fun x => x.retract .runner r) fun x _ =>
        x.setPr { x.pr with waits := .move } := by
  subst position
  rw [State.handTurn_eq, short]

theorem State.handTurn_able {s : State} {r : Int} (position : s.turnPosition = r) (able : s.handRefusal r = none) :
    s.handTurn =
      if s.pt.state = .interrupted then s.turnResumed
      else if s.pt.state = .parked then
        s.turnTaken
          { issuer := .runner
            tracked := true
            loadId := s.loadId
            commanded := (s.currentStep.map StepRec.value).getD 0
            completed := 0
            clearance := r
            interrupted := none }
      else s := by
  subst position
  rw [State.handTurn_eq, able]
  exact if_congr decide_eq_true_iff rfl rfl

/-! ### A manual cut whose approach is complete (R125; log 19) -/

theorem State.manualCutNext_done {u : State} {x : ManualCut} (waiting : u.cs.manual = some x)
    (done : x.approachDone = true) :
    u.manualCutNext =
      if u.pr.lineHalt = true then (u.setCs { u.cs with manual := none }).cutNowEnded 2
      else if u.keyOn = true then (u.setCs { u.cs with manual := none }).cutNowEnded 3
      else if u.cs.state = .ready then (u.setCs { u.cs with manual := none }).csTake x.cycle
      else u := by
  unfold State.manualCutNext State.manualStop
  rw [waiting]
  dsimp only
  rw [if_pos done]
  split_ifs <;> rfl

theorem State.manualCutApproached_next {s : State} {x : ManualCut} (waiting : s.cs.manual = some x) (b : Bool) :
    s.manualCutApproached b =
      ((s.warnBackward b x.cycle.tracked x.cycle.target).setCs
        { s.cs with manual := some { x with approachDone := true } }).manualCutNext := by
  unfold State.manualCutApproached
  rw [waiting]

/-- Where the manual cut of `s` goes once its approach is complete, the warnings told in `w`. -/
theorem State.manualCutNext_goes {s w : State} {x : ManualCut} (pr : w.pr = s.pr) (sm : w.sm = s.sm)
    (load : w.loadId = s.loadId) (done : x.approachDone = true) :
    let u := w.setCs { s.cs with manual := some x }
    let ended : Nat → State := fun cause =>
      (w.setCs { s.cs with manual := none }).plainWarning .cutNowEnded s.loadId cause
    (s.pr.lineHalt = true → u.manualCutNext = ended 2) ∧
      (s.pr.lineHalt = false → s.keyOn = true → u.manualCutNext = ended 3) ∧
      (s.pr.lineHalt = false → s.keyOn = false → s.cs.state = .ready →
        u.manualCutNext =
          w.setCs
            { s.cs with state := .armed, cycle := some x.cycle, pedalCounts := !s.cs.pedal, manual := none }) ∧
      (s.pr.lineHalt = false → s.keyOn = false → s.cs.state ≠ .ready → u.manualCutNext = u) := by
  intro u ended
  have next : u.manualCutNext = _ := State.manualCutNext_done rfl done
  have ends (cause : Nat) : (u.setCs { u.cs with manual := none }).cutNowEnded cause = ended cause :=
    congrArg (fun id => State.plainWarning _ .cutNowEnded id cause) load
  have halts : u.pr.lineHalt = s.pr.lineHalt := congrArg Runner.lineHalt pr
  have keys : u.keyOn = s.keyOn := congrArg (fun k : Monitor => k.bladeKey.atUnsafe) sm
  rw [halts, keys, ends, ends] at next
  refine ⟨fun halt => next.trans (if_pos halt), fun free key => next.trans ?_, fun free off ready => next.trans ?_,
    fun free off away => next.trans ?_⟩
  · rw [if_neg (ne_true_of_eq_false free), if_pos key]
  · rw [if_neg (ne_true_of_eq_false free), if_neg (ne_true_of_eq_false off)]
    exact if_pos ready
  · rw [if_neg (ne_true_of_eq_false free), if_neg (ne_true_of_eq_false off)]
    exact if_neg away

/-- Settles O43: motions, moves, turns and manual cuts, each at its unit. -/
theorem approachesAndRetractsChooseTheirMotion : Obligations.ApproachesAndRetractsChooseTheirMotion := by
  refine ⟨fun s issuer slot kind t => ?_, fun s issuer r => ?_, fun s => ?_, fun s => ?_, fun s => ?_⟩
  · intro a o starts completes held
    have plan : s.approachPlan t = if held then [] else _ := rfl
    refine ⟨fun same => ?_, fun other ahead => ?_, fun other behind room => ?_, fun other behind full far => ?_,
      fun other behind full near => ?_⟩
    · have direction : decide (s.bg.dir = .backward) = false := decide_eq_false (by rw [same.2.1]; decide)
      rw [State.approach_still (if_pos same), direction]
    · exact State.approach_moves ((if_neg other).trans (if_pos ahead))
    · exact State.approach_moves
        ((if_neg other).trans ((if_neg (Int.not_lt.mpr behind)).trans (if_pos room)))
    · exact State.approach_moves ((if_neg other).trans ((if_neg (Int.not_lt.mpr behind)).trans
        ((if_neg (Int.not_lt.mpr full)).trans (if_pos far))))
    · exact State.approach_still ((if_neg other).trans ((if_neg (Int.not_lt.mpr behind)).trans
        ((if_neg (Int.not_lt.mpr full)).trans (if_neg (Int.not_lt.mpr near)))))
  · exact ⟨State.retract_moves, State.retract_still⟩
  · intro held refusals free w k warned
    refine ⟨s.runnerMove_refused _ _, (s.setPr { s.pr with phase := .contact }).runnerMove_refused _ _,
      fun c figures => ?_, fun able => ⟨fun v moves => ?_, fun v b completes r step => ?_,
        fun c figures => ⟨fun v moves => ?_, fun v b completes => ?_⟩, fun v moves => ?_, fun v b completes => ?_⟩,
      s.handAgain_eq, rfl, ?_⟩
    · rw [State.handPositioning_figures figures]
      exact s.runnerMove_refused _ _
    · exact State.runnerMove_moving able moves
    · refine (State.runnerMove_completed able completes).trans ?_
      have kind : v.stepKind = some r.kind := by
        rw [State.retract_completed completes]
        exact State.stepKind_of (s := s) step
      unfold State.retracted
      rw [kind]
      exact if_congr (Option.some_inj) rfl rfl
    · rw [State.handPositioning_figures figures]
      exact State.runnerMove_moving able moves
    · rw [State.handPositioning_figures figures]
      refine (State.runnerMove_completed able completes).trans ?_
      rw [State.warnBackward_tracked]
    · exact State.runnerMove_moving (x := s.inPhase .contact) able moves
    · refine (State.runnerMove_completed (x := s.inPhase .contact) able completes).trans ?_
      rw [State.warnBackward_tracked, (State.approach_completed_at completes).2]
    · intro a b
      have renews : s.renewRequests = if b.pt.state = .releasing then b.request .turn else b.gripRequest := rfl
      clear_value b
      refine ⟨fun releasing => renews.trans (if_pos releasing), fun gripping up top => ?_, fun gripping away => ?_,
        fun other still => ?_⟩
      · exact (renews.trans (if_neg (by rw [gripping]; decide))).trans
          ((State.gripRequest_gripping gripping).trans (if_pos ⟨up, top⟩))
      · refine (renews.trans (if_neg (by rw [gripping]; decide))).trans
          ((State.gripRequest_gripping gripping).trans (if_neg fun home => ?_))
        exact away.elim (fun open_ => Bool.false_ne_true (open_.symm.trans home.1))
          fun open_ => Bool.false_ne_true (open_.symm.trans home.2)
      · exact (renews.trans (if_neg other)).trans (if_neg fun e => still e.1)
  · intro t gripped held taken
    refine ⟨fun halt => ?_, fun free latched => ?_, fun free clear guard => ?_, fun free clear guard unknown => ?_,
      fun able busy => ?_, fun able still r position => ?_⟩
    · exact State.handTurn_refused (why := .halted) (fun r => if_pos halt)
    · exact State.handTurn_refused (why := .safetyBlocked)
        (fun r => (if_neg (ne_true_of_eq_false free)).trans (if_pos latched))
    · exact State.handTurn_refused (why := .guard) (fun r => (if_neg (ne_true_of_eq_false free)).trans
        ((if_neg (ne_true_of_eq_false clear)).trans (if_pos guard)))
    · exact State.handTurn_refused (why := .notReferenced) (fun r =>
        (State.handRefusal_calm free clear guard r).trans (State.clearRefusal_notReferenced unknown r))
    · obtain ⟨free, clear, guard, known⟩ := able
      refine (State.handTurn_notClear (r := s.turnPosition) rfl ((State.handRefusal_calm free clear guard _).trans
        (State.clearRefusal_notClear known (.inl busy)))).trans ?_
      exact (s.inPhase .retract).runnerMove_refused _ _ |>.1 busy
    · obtain ⟨free, clear, guard, known⟩ := able
      have at_r : s.turnPosition = r := State.turnPosition_eq position
      refine ⟨fun short => ?_, fun room => ⟨fun x cut record => ?_, fun y parked step => ?_, fun other away => ?_⟩⟩
      · have hands := State.handTurn_notClear at_r ((State.handRefusal_calm free clear guard r).trans
          (State.clearRefusal_notClear known (.inr short)))
        have moves := State.retract_moves (s := s.setPr { s.pr with phase := .retract, waits := .nothing })
          (i := .runner) short
        rw [moves]
        exact congrArg Started.moving (hands.trans
          (State.runnerMove_moving (x := s.inPhase .retract) ⟨still, known, clear, guard⟩ moves))
      · have able := (State.handRefusal_calm free clear guard r).trans (State.clearRefusal_none known still room)
        have hands := State.handTurn_able at_r able
        rw [if_pos cut] at hands
        refine hands.trans (if_congr (Turner.releaseCut_iff record) rfl ?_)
        unfold Turner.resumed
        rw [record]
        exact State.gripRequest_gripping rfl
      · have able := (State.handRefusal_calm free clear guard r).trans (State.clearRefusal_none known still room)
        have hands := State.handTurn_able at_r able
        rw [if_neg (by rw [parked]; decide), if_pos parked, step] at hands
        exact hands.trans (State.gripRequest_gripping rfl)
      · have able := (State.handRefusal_calm free clear guard r).trans (State.clearRefusal_none known still room)
        exact (State.handTurn_able at_r able).trans ((if_neg other).trans (if_neg away))
  · refine ⟨fun none => ?_, fun x waiting => ?_⟩
    · unfold State.manualCutNext State.manualCutApproached State.manualCutFailed
      rw [none]
      exact ⟨rfl, fun _ => ⟨rfl, fun _ => rfl⟩⟩
    · intro ended goes
      have going (b : Bool) :
          goes (s.warnBackward b x.cycle.tracked x.cycle.target) (s.manualCutApproached b) := by
        have keeps := trackerKeeps_warnBackward s b x.cycle.tracked x.cycle.target
        obtain ⟨g, l, told, sameLoad⟩ := s.warnBackward_eq b x.cycle.tracked x.cycle.target
        rw [State.manualCutApproached_next waiting]
        refine State.manualCutNext_goes (x := { x with approachDone := true }) keeps.pr keeps.sm ?_ rfl
        rw [told]
        exact sameLoad
      refine ⟨fun cause => ?_, going false, going true, fun done => ?_, fun early => ?_⟩
      · unfold State.manualCutFailed
        rw [waiting]
        rfl
      · have same : s.setCs { s.cs with manual := some { x with approachDone := true } } = s := by
          rw [← done, ← waiting]
          rfl
        have next := State.manualCutNext_goes (s := s) (w := s) (x := { x with approachDone := true }) rfl rfl rfl rfl
        rw [same] at next
        obtain ⟨halts, keys, takes, stays⟩ := next
        exact ⟨halts, keys, takes, fun free off away => (stays free off away).trans same.symm⟩
      · exact State.manualCutNext_quiet fun y e => by
          obtain rfl : x = y := Option.some.inj (waiting.symm.trans e)
          exact early

end Sys2Proof.Machine
end
